-- ==== Sys2Proof/Word.lean ====
section
/-! DEFINITION. The widths the manual gives its counts: the byte of the port and the link, the
48-bit local clock and the 48-bit refresh index. -/

namespace Sys2Proof

/-- A byte of the record port or of the NOTICE line. -/
abbrev Byte := BitVec 8

/-- A value of the local clock: a 48-bit count of milliseconds (R23). -/
abbrev Ms := BitVec 48

/-- A refresh index: a 48-bit count (R25). -/
abbrev RefIndex := BitVec 48

end Sys2Proof
end

