-- ==== Sys2Proof/Config.lean ====
section
/-! DEFINITION. The constants of the part that the manual fixes for every station, and the free
value that stands for an order the manual leaves open. -/

namespace Sys2Proof

/-- One millisecond is 10,000 ticks of 0.1 us (ch. 1 sec. 1.6). -/
def Config.ticksPerMs : Nat := 10000

/-- One bit time of NOTICE is 8 us (R100). -/
def Config.ticksPerBit : Nat := 80

/-- The 20 bit times of R111 and R112, in ticks. -/
def Config.frameGapTicks : Nat := 20 * Config.ticksPerBit

/-- The leader byte of both notices (R101). -/
def Config.leader : Byte := 0x5C

/-- The records the store holds at most (R143). -/
def Config.storeSize : Nat := 48

/-- The frames the transmit queue holds at most (R103). -/
def Config.queueSize : Nat := 8

/-- The entries the interval ring holds at most (R164). -/
def Config.ringSize : Nat := 144

/-- An order of the blocks at one stop of a station in RUN, where the manual leaves it open (log
entry 3). `xEarly` has the block x take the stop before the readers take a refresh in RUN, and
before the events of the position close that brings a HALT; `xTakes` has the reader x take the
oldest refresh handed to it, or the end report, in RUN. -/
structure StopOrder where
  /-- The detector takes the stop before the correlation unit (R139). -/
  detectorFirst : Bool
  /-- The correlation unit reads the peer table before the notice link clears it (R138). -/
  tableFirst : Bool
  storeEarly : Bool
  linkEarly : Bool
  markEarly : Bool
  detEarly : Bool
  corrEarly : Bool
  /-- The correlation unit takes the stop between the answer to the anchor request of a crossing
  that the detector takes in RUN and the anchoring (R125). -/
  corrWithin : Bool
  capEarly : Bool
  aggEarly : Bool
  trackerTakes : Bool
  detTakes : Bool
  corrTakes : Bool
  reportTakes : Bool
  aggTakes : Bool
  /-- The correlation unit takes the refresh before the detector does (R27). -/
  corrBeforeDet : Bool
  /-- The first copied position whose check fails, of a capture that a crossing or a return taken
  within a RESTART asks for; within a HALT the operand of POSITION_CLOSE says it (log entry 16). -/
  checkFails : Option (Fin 9)
  deriving DecidableEq, Repr, Inhabited

/-- FREE VALUE (assumption log entry 3). The order in which the blocks take the stop that the
model counts as occurrence `n` (R24, R29, R84, R97, R138, R139, R161, R166). It has no body: nothing
can be proved of it. -/
opaque Config.freeOrder : Nat → StopOrder

end Sys2Proof
end

