-- ==== Sys2Proof/Machine/Arith.lean ====
section
/-! DEFINITION. The arithmetic the rules name: the exact integer square root, clamping,
saturation, and the comparison of clock values. -/

namespace Sys2Proof.Machine

/-- The loop of `isqrt`: the bits below `b` of the root are still to be tried, from the top. -/
def isqrtLoop (n : Nat) : Nat → Nat → Nat
  | 0, r => r
  | b + 1, r => isqrtLoop n b (if (r + 2 ^ b) * (r + 2 ^ b) ≤ n then r + 2 ^ b else r)

/-- The greatest integer whose square does not exceed `n` (ch. 0 "Numbers and arithmetic"). -/
def isqrt (n : Nat) : Nat := isqrtLoop n (n.log2 / 2 + 1) 0

/-- `x` clamped to `lo..hi`: below the lower end becomes the lower end, above the upper the
upper (R3, R35, R181). -/
def clampInt (lo hi x : Int) : Int := if x < lo then lo else if hi < x then hi else x

/-- A duration is written as 4,294,967,295 where it would exceed its range (R56). -/
def saturate32 (n : Nat) : Nat := min n (2 ^ 32 - 1)

/-- Clock value `a` is `b` or lies after it. Clock values are 48-bit counts that wrap (R23);
`a` lies after `b` when the count from `b` to `a` is below 2^47 (log entry 10). -/
def atOrAfter (a b : Ms) : Bool := decide ((a - b).toNat < 2 ^ 47)

/-- Clock value `a` lies before `b`. -/
def isBefore (a b : Ms) : Bool := !atOrAfter a b

/-- The distance between two clock values, whichever is the earlier. -/
def clockDistance (a b : Ms) : Nat := if atOrAfter a b then (a - b).toNat else (b - a).toNat

/-- `n` milliseconds as a clock difference. -/
def msOf (n : Nat) : Ms := BitVec.ofNat 48 n

end Sys2Proof.Machine
end

