-- ==== Sys2Proof/Machine/Items.lean ====
section
/-! DEFINITION. The table of the configuration items (R180). -/

namespace Sys2Proof.Machine

/-- A row of the item table: the ends of the range and the default (R180). -/
structure ItemRow where
  lo : Int
  hi : Int
  dflt : Int
  deriving DecidableEq, Repr

/-- The thirty items 0..29 in the order of R180. -/
def itemTable : List ItemRow :=
  [⟨1000, 4000, 2300⟩, ⟨0, 1, 1⟩, ⟨500, 990, 900⟩, ⟨1010, 1500, 1100⟩, ⟨10, 200, 50⟩, ⟨5, 50, 20⟩,
   ⟨10, 500, 60⟩, ⟨10, 500, 50⟩, ⟨10, 2000, 200⟩, ⟨1, 3600, 60⟩, ⟨200, 10000, 2000⟩, ⟨0, 100, 40⟩] ++
  List.replicate 8 ⟨0, 65535, 16384⟩ ++ List.replicate 8 ⟨-1000, 1000, 0⟩ ++
  [⟨0, 4294967295, 0⟩, ⟨0, 31, 0⟩]

/-- The row of item `i`. -/
def itemRow (i : Fin 30) : ItemRow := itemTable.getD i.val ⟨0, 0, 0⟩

/-- Every item at its default (R181). -/
def defaultItems : Vector Int 30 := Vector.ofFn fun i => (itemRow i).dflt

/-- The six thresholds of one detection quantity with the reference they are scaled from (R38,
R39 "the R from which that set was computed"). -/
structure Thresholds where
  ref : Nat
  dipStart : Nat
  dipEnd : Nat
  swellStart : Nat
  swellEnd : Nat
  intStart : Nat
  intEnd : Nat
  deriving DecidableEq, Repr

/-- floor(R x permille / 1000) (R38). -/
def scaled (r permille : Nat) : Nat := r * permille / 1000

/-- The threshold set computed from reference `r` and the per-mille items (R38). -/
def thresholdsFrom (items : Vector Int 30) (r : Nat) : Thresholds :=
  let dip := items[2].toNat
  let swell := items[3].toNat
  let int := items[4].toNat
  let hyst := items[5].toNat
  { ref := r
    dipStart := scaled r dip
    dipEnd := scaled r (dip + hyst)
    swellStart := scaled r swell
    swellEnd := scaled r (swell - hyst)
    intStart := scaled r int
    intEnd := scaled r (int + hyst) }

end Sys2Proof.Machine
end

