-- ==== Sys2Proof/Syntax.lean ====
section
/-! DEFINITION. The commands of the block, one constructor per row of spec/opcode_table.json, and
the plain data they carry: straps (R179), the requests of the record port (R170) and the frames
of the NOTICE line (R101). -/

namespace Sys2Proof

/-- The FREQ strap (R179). -/
inductive Freq | hz50 | hz60
  deriving DecidableEq, Repr

/-- The WIRING strap (R179). -/
inductive Wiring | star | delta
  deriving DecidableEq, Repr

/-- The four strap groups latched at the release of RESETN (R179). -/
structure Straps where
  addr : Fin 16
  level : Fin 4
  freq : Freq
  wiring : Wiring
  deriving DecidableEq, Repr

/-- A verdict (R129). -/
inductive VerdictKind | upstream | downstream | indeterminate
  deriving DecidableEq, Repr

/-- The origin of an own verdict (R130). -/
inductive Origin | triggered | sympathetic
  deriving DecidableEq, Repr

/-- A notice as the frame on the line carries it (R101). `k` counts from 0: the frame carries
`k + 1`. -/
inductive Notice
  | present (addr : Fin 16) (level : Fin 4) (wiring : Wiring) (freq : Freq)
  | verdict (addr : Fin 16) (level : Fin 4) (v : VerdictKind) (k : Fin 3) (origin : Origin)
      (age dU dI : BitVec 16)
  deriving DecidableEq, Repr

/-- The requests of the record port with their operands (R170), and the malformed request that
R171 serves with UNKNOWN. -/
inductive Request
  | status
  | live (q : Byte)
  | reference
  | head
  | release (id : BitVec 16)
  | wave (id : BitVec 16) (q h : Byte)
  | interval (seq : BitVec 32)
  | tally
  | causes
  | peers
  | set (item : Byte) (value : BitVec 32)
  | get (item : Byte)
  | start
  | restart
  | linkReset
  | malformed
  deriving DecidableEq, Repr

/-- What a falling edge on NOTICE turns out to be (R111): a glitch, with the ticks after which
the line rises again; a start bit, with the byte of eight data bits sampled after it; or a start
bit whose stop bit reads low, with that byte and the ticks from the edge to the line's next
rise (log entry 9). -/
inductive EdgeSample
  | glitch (riseAfter : Nat)
  | start (byte : Byte)
  | broken (byte : Byte) (riseAfter : Nat)
  deriving DecidableEq, Repr

/-- The fault found in a frame being received (R111). -/
inductive FrameFault | framing | badLeader | badKind | tooShort | tooLong
  deriving DecidableEq, Repr

/-- The memory checks of one position close: whether the copy of a fill fails its check, and the
first copied position that does in a capture asked for within the close (R78; log entries 3 and
16). -/
structure CloseChecks where
  fails : Bool
  failed : Option (Fin 9)
  deriving DecidableEq, Repr

/-- The commands. `t` is the moment at which a command comes, in ticks of 0.1 us from the release
of pin reset (log entry 1). `failed` of a command that asks for a capture is the first copied
position whose check fails, if one does (R78); `fails` says that the one copy, or the one read,
of the command fails its check; `checks` of POSITION_CLOSE holds both. -/
inductive Instr
  | pinReset (straps : Straps) (markLow pselLow : Bool)
  | takeResult (t : Nat) (ch : Fin 8) (code : BitVec 16)
  | positionClose (checks : CloseChecks)
  | cycleTimeout (t : Nat)
  | trackerTakesRefresh (t : Nat)
  | trackerTakesEndReport (t : Nat)
  | detectorTakesRefresh (t : Nat) (failed : Option (Fin 9))
  | maxOpenExpiry (t : Nat)
  | correlationTakesRefresh (t : Nat)
  | aggregatorTakesRefresh (t : Nat)
  | markFallingEdge (t : Nat) (failed : Option (Fin 9))
  | markRelease (t : Nat)
  | pulseEnd (t : Nat)
  | stuckExpiry (t : Nat)
  | recoveryExpiry (t : Nat)
  | presentPeriodExpiry (t : Nat)
  | attemptStart (t : Nat)
  | readbackMismatch (t : Nat)
  | attemptSuccess (t : Nat)
  | frameMalformed (t : Nat) (fault : FrameFault)
  | frameComplete (t : Nat)
  | receiverRecovered (t : Nat)
  | peerAgingExpiry (t : Nat) (addr : Fin 16)
  | contextClose (t : Nat) (slot : Fin 4)
  | scrubComplete (t : Nat) (slot : Fin 8)
  | scrubLocationError (t : Nat) (slot : Fin 8)
  | intervalBoundary (t : Nat)
  | requestBegin (t : Nat) (code : Byte)
  | requestTaken (t : Nat) (bytes : List Byte)
  | readFrame (t : Nat) (count : Nat)
  | malformedRequest (t : Nat)
  | status (t : Nat)
  | live (t : Nat)
  | reference (t : Nat)
  | head (t : Nat)
  | release (t : Nat)
  | wave (t : Nat) (fails : Bool)
  | interval (t : Nat)
  | tally (t : Nat)
  | causes (t : Nat)
  | peers (t : Nat)
  | set (t : Nat)
  | get (t : Nat)
  | start (t : Nat)
  | restart (t : Nat) (markLow : Bool)
  | linkReset (t : Nat) (markLow : Bool)
  | noticeFallingEdge (t : Nat) (sample : EdgeSample)
  | ignoredPeriodEnd (t : Nat)
  deriving DecidableEq, Repr

end Sys2Proof
end

