-- ==== Sys2Proof/Machine/Blocks.lean ====
section
/-! DEFINITION. The twelve blocks of the part: the state each chapter gives its block, as plain
data, and what pin reset leaves in it (R16, R30, R42, R69, R86, R98, R121, R142, R157, R168,
R183, R192). -/

namespace Sys2Proof.Machine

/-- The station states (R184). -/
inductive StationState | config | run | halted
  deriving DecidableEq, Repr

/-! Chapter 1: the channel front end. -/

/-- The state of the frequency tracker (R11). -/
inductive TrackState | locked | freeRun
  deriving DecidableEq, Repr

/-- What the front end holds for one converter channel. `taken`: the result of the position in
progress has been taken; `clampedNow`: and it was clamped; `late`: results of closed positions
still to come, each to be discarded (R7; log entry 5). -/
structure Channel where
  lastRaw : Int
  lastScaled : Int
  clip : Bool
  hold : Nat
  taken : Bool
  clampedNow : Bool
  late : Nat
  deriving DecidableEq, Repr

/-- What the front end holds for one detection quantity (R4). -/
structure DetQuantity where
  lastRaw : Int
  lastScaled : Int
  clip : Bool
  deriving DecidableEq, Repr

/-- The frequency tracker (R9 to R12). `start` is the starting crossing time of the cycle in
progress in ticks; `peak` the greatest |D1| of it. Instants and spacing are in 1/128 tick, in
which P / 128 is exact: `prevInstant` and `instant` are those of the last closed position and of
the position in progress, `next` the sample instant at which that one closes. -/
structure FreqTracker where
  state : TrackState
  freq : Nat
  validCount : Nat
  armed : Bool
  start : Option Nat
  peak : Nat
  prevInstant : Nat
  instant : Nat
  next : Nat
  spacing : Nat
  deriving DecidableEq, Repr

/-- The channel front end (ch. 1 sec. 1.1). Ring `q` is that of quantity `q`. -/
structure FrontEnd where
  ch : Vector Channel 8
  dq : Vector DetQuantity 3
  freeRunSeen : Bool
  rings : Vector (Vector Int 640) 11
  pos : Fin 640
  trk : FreqTracker
  deriving DecidableEq, Repr

/-- The spacing of FREE_RUN in 1/128 tick: the nominal period in ticks (R12). -/
def freeRunSpacing : Freq → Nat
  | .hz50 => 200000
  | .hz60 => 166667

/-- A channel after pin reset (R16). -/
def channelReset : Channel := ⟨0, 0, false, 0, false, false, 0⟩

/-- The frequency tracker after pin reset (R16): the first sample instant comes at once. -/
def trackerReset (f : Freq) : FreqTracker :=
  ⟨.freeRun, 0, 0, false, none, 0, 0, 0, freeRunSpacing f, freeRunSpacing f⟩

/-- The front end after pin reset (R16). -/
def frontEndReset (f : Freq) : FrontEnd :=
  ⟨Vector.replicate 8 channelReset, Vector.replicate 3 ⟨0, 0, false⟩, false,
    Vector.replicate 11 (Vector.replicate 640 0), 0, trackerReset f⟩

/-! Chapter 2: the RMS engine. -/

/-- The states of the disturbance detector (R45). -/
inductive DetState | watch | event | held
  deriving DecidableEq, Repr

/-- A refresh entry (ch. 2 sec. 2.1). -/
structure Refresh where
  index : RefIndex
  stamp : Ms
  value : Vector Nat 11
  clip : Vector Bool 11
  freeRun : Bool
  det : DetState
  deriving DecidableEq, Repr

/-- The RMS engine; `history` is newest first (R26). -/
structure RmsEngine where
  sums : Vector Nat 11
  fill : Nat
  prevClip : Vector Bool 11
  prevFreeRun : Bool
  nextIndex : RefIndex
  history : List Refresh
  deriving DecidableEq, Repr

/-- The RMS engine after pin reset (R30). -/
def rmsReset : RmsEngine :=
  ⟨Vector.replicate 11 0, 0, Vector.replicate 11 false, false, 0, []⟩

/-! Chapter 3: the reference tracker. -/

/-- What the reference tracker holds for one detection quantity (ch. 3 sec. 3.1). -/
structure Reference where
  rf : Nat
  settle : Nat
  inForce : Thresholds
  following : Thresholds
  deriving DecidableEq, Repr

/-- The reference tracker, with the refreshes and end reports it has been handed and has not yet
taken (R27, R36). -/
structure RefTracker where
  d : Vector Reference 3
  handed : List Refresh
  endReports : Nat
  deriving DecidableEq, Repr

/-- The reference seeded from the declared voltage: Rf at declared x 65536, the countdown at 0,
both sets computed from it (R40, R41, R42). -/
def seededReference (items : Vector Int 30) : Reference :=
  let declared := items[0].toNat
  ⟨declared * 65536, 0, thresholdsFrom items declared, thresholdsFrom items declared⟩

/-- The reference tracker after pin reset (R42). -/
def refReset : RefTracker := ⟨Vector.replicate 3 (seededReference defaultItems), [], 0⟩

/-! Chapter 4: the disturbance detector. -/

/-- The condition of a detection quantity (R46). -/
inductive Cond | back | outLow | outHigh
  deriving DecidableEq, Repr

/-- The running or held measurement (ch. 4 sec. 4.1). -/
structure Measurement where
  crossing : RefIndex
  time : Ms
  last : RefIndex
  dmin : Vector Nat 3
  dmax : Vector Nat 3
  low : Bool
  high : Bool
  int : Bool
  clip : Bool
  freeRun : Bool
  onset : Nat
  deriving DecidableEq, Repr

/-- The detector state with what it holds in each: in EVENT the running measurement, the event
record id and the MAX_OPEN expiry time, in HELD the held measurement and the ONGOING record
id (ch. 4 sec. 4.1). -/
inductive DetMode
  | watch
  | event (m : Measurement) (recordId : Nat) (expiry : Ms)
  | held (m : Measurement) (ongoingId : Nat)
  deriving DecidableEq, Repr

/-- The state WATCH, EVENT or HELD of a detector mode. -/
def DetMode.state : DetMode → DetState
  | .watch => .watch
  | .event _ _ _ => .event
  | .held _ _ => .held

/-- The disturbance detector, with the refreshes handed and not yet taken. -/
structure Detector where
  mode : DetMode
  cond : Vector Cond 3
  handed : List Refresh
  deriving DecidableEq, Repr

/-- Every condition at BACK. -/
def allBack : Vector Cond 3 := Vector.replicate 3 .back

/-- The detector after pin reset (R69). -/
def detReset : Detector := ⟨.watch, allBack, []⟩

/-! Chapter 5: the capture unit. -/

/-- The states of a waveform slot (ch. 5 sec. 5.1). -/
inductive SlotState | free | filling | held | scrubbing
  deriving DecidableEq, Repr

/-- One position of a slot: 64 samples of each of the eleven quantities (R70). -/
abbrev HalfCycle := Vector (Vector Int 64) 11

/-- A waveform slot (ch. 5 sec. 5.1). -/
structure Slot where
  state : SlotState
  holders : Nat
  first : RefIndex
  filled : Nat
  contents : Vector HalfCycle 40
  scrubEnd : Option Ms
  deriving DecidableEq, Repr

/-- The capture unit; `view` is the station state as it last took it (R71). -/
structure CaptureUnit where
  slots : Vector Slot 8
  on : Bool
  view : StationState
  deriving DecidableEq, Repr

/-- Cleared contents (R80, R86). -/
def clearedContents : Vector HalfCycle 40 :=
  Vector.replicate 40 (Vector.replicate 11 (Vector.replicate 64 0))

/-- A slot after pin reset (R86). -/
def slotReset : Slot := ⟨.free, 0, 0, 0, clearedContents, none⟩

/-- The capture unit after pin reset (R86). -/
def capReset : CaptureUnit := ⟨Vector.replicate 8 slotReset, true, .config⟩

/-! Chapter 6: the mark line interface. -/

/-- The mark line interface (ch. 6 sec. 6.1): `asserted` is the line level, `drive` the drive,
`stuck` the state STUCK; `view` is the station state as it last took it (R88, R97). -/
structure MarkLine where
  asserted : Bool
  drive : Bool
  pulseEnd : Option Ms
  lastEdge : Option Ms
  stuckExpiry : Option Ms
  recoveryExpiry : Option Ms
  stuck : Bool
  view : StationState
  deriving DecidableEq, Repr

/-- The mark line interface after pin reset, the line read at the release (R98): a line asserted
then is found stuck at 51 ms. -/
def markReset (low : Bool) : MarkLine :=
  ⟨low, false, none, none, if low then some (msOf 51) else none, none, false, .config⟩

/-! Chapter 7: the notice link controller. -/

/-- The states of the transmitter (R106). -/
inductive TxState | idle | waiting | sending
  deriving DecidableEq, Repr

/-- The states of the receiver (R111). -/
inductive RxState | idle | receiving | trailing | recovering
  deriving DecidableEq, Repr

/-- The content of a queued VERDICT (ch. 7 sec. 7.1). -/
structure QueuedVerdict where
  level : Fin 4
  verdict : VerdictKind
  k : Fin 3
  origin : Origin
  dU : Int
  dI : Int
  edge : Ms
  recordId : Nat
  withdrawn : Bool
  deriving DecidableEq, Repr

/-- A frame of the transmit queue. -/
inductive QueuedFrame
  | present
  | verdict (v : QueuedVerdict)
  deriving DecidableEq, Repr

/-- A peer table entry (ch. 7 sec. 7.1); none stands for UNKNOWN, or for no last heard time. -/
structure Peer where
  present : Bool
  level : Option (Fin 4)
  wiring : Option Wiring
  freq : Option Freq
  lastHeard : Option Ms
  unmatched : Nat
  deriving DecidableEq, Repr

/-- The notice link controller (ch. 7 sec. 7.1). `txBytes` are the bytes of the frame being sent and
`txStart` is the tick at which its start bit began, which R100, R107 and R109 imply (log entry 9);
`lastStop` is the tick at which the last stop bit ends that the station has found on NOTICE while
sending or receiving, and `highFrom` that of the line's last change from low to high, once it is
known (R100; log entry 9); `rxEnd` is the tick at
which the stop bit of the last byte taken ends (R111); `rxFault` is the fault that the bytes and
edges taken have put into the frame in reception (R111); `rxOwn` says that this station's
transmitter sent the frame in reception whole (R113); `view` is the station state as it last took
it (R120). -/
structure NoticeLink where
  queue : List QueuedFrame
  tx : TxState
  attempts : Nat
  txBytes : List Byte
  txStart : Nat
  lastStop : Nat
  highFrom : Option Nat
  rx : RxState
  rxBytes : List Byte
  rxLeader : Ms
  rxEnd : Nat
  rxExpected : Option Nat
  rxFault : Option FrameFault
  rxOwn : Bool
  peers : Vector Peer 16
  view : StationState
  deriving DecidableEq, Repr

/-- A peer table entry after a reset (R121). -/
def peerReset : Peer := ⟨false, none, none, none, none, 0⟩

/-- The notice link controller after pin reset (R121). -/
def linkReset : NoticeLink :=
  ⟨[], .idle, 0, [], 0, 0, none, .recovering, [], 0, 0, none, none, false,
    Vector.replicate 16 peerReset, .config⟩

/-! Chapter 8: the correlation unit. -/

/-- The pre-values of a context (R123). -/
structure PreValues where
  d : Vector Nat 3
  i : Vector Nat 3
  det : DetState
  deriving DecidableEq, Repr

/-- An own verdict (ch. 8 sec. 8.1). -/
structure OwnVerdict where
  verdict : VerdictKind
  k : Fin 3
  dU : Int
  dI : Int
  preDisturbed : Bool
  origin : Origin
  deriving DecidableEq, Repr

/-- A peer verdict entry (ch. 8 sec. 8.1). -/
structure PeerVerdict where
  addr : Fin 16
  level : Fin 4
  verdict : VerdictKind
  k : Fin 3
  dU : Int
  dI : Int
  origin : Origin
  deriving DecidableEq, Repr

/-- A mark context (ch. 8 sec. 8.1). -/
structure Context where
  edge : Ms
  close : Ms
  ref : RefIndex
  pre : Option PreValues
  anchored : Bool
  own : Option OwnVerdict
  peers : List PeerVerdict
  linked : Nat
  unsent : Bool
  deriving DecidableEq, Repr

/-- The correlation unit; a CLOSED slot is `none`; `view` is the station state as it last took
it (R122, R125). -/
structure Correlation where
  slots : Vector (Option Context) 4
  handed : List Refresh
  view : StationState
  deriving DecidableEq, Repr

/-- The correlation unit after pin reset (R142). -/
def corrReset : Correlation := ⟨Vector.replicate 4 none, [], .config⟩

/-! Chapter 9: the record store. -/

/-- Station time: seconds modulo 2^32 and milliseconds 0 to 999 (R146). -/
structure StationTime where
  sec : Nat
  ms : Nat
  deriving DecidableEq, Repr

/-- The classes of a record, in the order of the tally (R176, R178 number them differently only
in that TALLY lists DIP, SWELL, INTERRUPTION, SYMPATHETIC, CONTINUATION: the same order). -/
inductive RecordClass | dip | swell | interruption | sympathetic | continuation
  deriving DecidableEq, Repr

/-- Why a waveform part is absent (R74). -/
inductive AbsenceReason | noSlot | waveBusy | captureOff | waveLost
  deriving DecidableEq, Repr

/-- The waveform part of a record (R70, R74). -/
inductive WavePart
  | present (slot : Fin 8) (offset : Nat)
  | absent (why : AbsenceReason)
  deriving DecidableEq, Repr

/-- The kinds of a locus (R135). -/
inductive LocusKind | above | below | unknown
  deriving DecidableEq, Repr

/-- The locus block (R136). -/
structure Locus where
  kind : LocusKind
  level : Nat
  addr : Nat
  ambiguous : Bool
  reporters : Nat
  silent : Nat
  deriving DecidableEq, Repr

/-- The verdict block (R136). -/
structure VerdictBlock where
  verdict : VerdictKind
  k : Fin 3
  dU : Int
  dI : Int
  deriving DecidableEq, Repr

/-- The ten flags of a record (R178). -/
structure RecordFlags where
  mixed : Bool
  ongoing : Bool
  upgraded : Bool
  clipped : Bool
  freeRun : Bool
  preDisturbed : Bool
  unsent : Bool
  aborted : Bool
  unanchored : Bool
  waveLost : Bool
  deriving DecidableEq, Repr

/-- Every flag clear. -/
def noFlags : RecordFlags := ⟨false, false, false, false, false, false, false, false, false, false⟩

/-- The measurement fields of a record: minima and maxima, residual and maximum (R49). -/
structure RecordMeasure where
  dmin : Vector Nat 3
  dmax : Vector Nat 3
  residual : Nat
  maximum : Nat
  deriving DecidableEq, Repr

/-- A record (R178), with its state (`isOpen`: OPEN), running flag and anchor open. -/
structure Record where
  id : Nat
  isOpen : Bool
  running : Bool
  anchorOpen : Bool
  cls : RecordClass
  time : StationTime
  durationMs : Nat
  halfCycles : Nat
  measure : RecordMeasure
  onset : Nat
  flags : RecordFlags
  verdict : Option VerdictBlock
  locus : Option Locus
  peers : List PeerVerdict
  wave : WavePart
  link : Nat
  deriving DecidableEq, Repr

/-- A set of the overflow tally (ch. 9 sec. 9.1). -/
structure TallySet where
  count : Nat
  residual : Option Nat
  maximum : Option Nat
  duration : Option Nat
  deriving DecidableEq, Repr

/-- A cleared tally set (R155). -/
def tallyClear : TallySet := ⟨0, none, none, none⟩

/-- The record store; `queue` is head first; `view` is the station state as it last took
it (R151); `frozenBase` is the time base as the last START froze it, none before the first START
after pin reset (R146; DEDUCED, log entry 27). -/
structure RecordStore where
  queue : List Record
  nextId : Nat
  tally : Vector TallySet 5
  startTime : Ms
  frozenBase : Option Nat
  view : StationState
  deriving DecidableEq, Repr

/-- The record store after pin reset (R157). -/
def storeReset : RecordStore := ⟨[], 1, Vector.replicate 5 tallyClear, 0, none, .config⟩

/-! Chapter 10: the interval aggregator. -/

/-- The accumulators of an interval (ch. 10 sec. 10.1): sums of squares of D1, D2, D3, U4, I1,
I2, I3, I4, and minima and maxima of D1, D2, D3, U4. -/
structure Accumulators where
  sums : Vector Nat 8
  dmin : Vector (Option Nat) 4
  dmax : Vector (Option Nat) 4
  count : Nat
  freqSum : Nat
  locked : Nat
  flagged : Bool
  freeRun : Bool
  clip : Bool
  deriving DecidableEq, Repr

/-- Cleared accumulators (R159). -/
def accClear : Accumulators :=
  ⟨Vector.replicate 8 0, Vector.replicate 4 none, Vector.replicate 4 none, 0, 0, 0, false, false, false⟩

/-- The interval being accumulated (ch. 10 sec. 10.1). -/
structure Interval where
  start : StationTime
  elapsed : Ms
  atStart : Bool
  boundary : Ms
  acc : Accumulators
  deriving DecidableEq, Repr

/-- A written interval entry (ch. 10 sec. 10.1). -/
structure IntervalEntry where
  seq : Nat
  start : StationTime
  length : Nat
  count : Nat
  rms : Vector Nat 8
  dmin : Vector Nat 4
  dmax : Vector Nat 4
  meanFreq : Nat
  isPartial : Bool
  flagged : Bool
  freeRun : Bool
  clipped : Bool
  deriving DecidableEq, Repr

/-- The interval aggregator; NO_INTERVAL is `cur = none`; `ring` is oldest first (R164). -/
structure Aggregator where
  cur : Option Interval
  ring : List IntervalEntry
  nextSeq : Nat
  handed : List Refresh
  deriving DecidableEq, Repr

/-- The aggregator after pin reset (R168). -/
def aggReset : Aggregator := ⟨none, [], 1, []⟩

/-! Chapter 11: the record port. -/

/-- The frame state of the port (R169). REQUEST keeps its code byte. READ does not outlast the
step READ_FRAME, which is a whole select period. -/
inductive FrameState
  | none
  | request (code : Byte)
  | read
  | ignored
  deriving DecidableEq, Repr

/-- The record port (ch. 11 sec. 11.1), with the bytes PDOUT carried in the latest select period,
as far as the manual gives them: the whole of a read frame (R173), and the first byte, 0xFF, of
any other period (R169; log entry 17). -/
structure RecordPort where
  frame : FrameState
  inService : Option Request
  superseded : Bool
  pendingReq : Option (Request × Bool)
  buffer : Option (List Byte)
  readPos : Nat
  rdy : Bool
  pdout : List Byte
  deriving DecidableEq, Repr

/-- The port after pin reset (R183). -/
def portReset (pselLow : Bool) : RecordPort :=
  ⟨if pselLow then .ignored else .none, none, false, none, none, 0, false,
    if pselLow then [0xFF] else []⟩

/-! Chapter 12: the station controller. -/

/-- The thirteen causes, in the order of their bits (R176, R188). -/
inductive Cause
  | overrun | doubleOverrun | slotError | captureOff | frameError | addressClash | markStuck
  | halt | recordClosed | storeFull | intervalDone | peerChange | freeRun
  deriving DecidableEq, Repr

/-- A cause of the cause set with the detail of its latest occurrence (R189). -/
structure CauseEntry where
  isSet : Bool
  num : Nat
  ext : Bool
  deriving DecidableEq, Repr

/-- The station controller (ch. 12 sec. 12.1). -/
structure Controller where
  state : StationState
  straps : Straps
  items : Vector Int 30
  presentExpiry : Option Ms
  causes : Vector CauseEntry 13
  attn : Bool
  deriving DecidableEq, Repr

/-- A cause set with nothing set (R190, R192). -/
def causesClear : Vector CauseEntry 13 := Vector.replicate 13 ⟨false, 0, false⟩

/-- The controller after pin reset (R192). -/
def ctlReset (straps : Straps) : Controller := ⟨.config, straps, defaultItems, none, causesClear, false⟩

end Sys2Proof.Machine
end

