-- ==== Sys2Proof/Machine/State.lean ====
section
/-! DEFINITION. The state of the whole part, the ways a step can stop (none is used), and the
state right after pin reset. -/

namespace Sys2Proof.Machine

/-- No command of this block stops the machine with a fault: its faults are causes (R188) and the
state HALTED, which are next states. The type has no constructor. -/
inductive Fault
  deriving DecidableEq, Repr

/-- The refusals of a step. -/
inductive Refusal
  /-- Raised by an arm of exec whose command has no meaning yet. Safe: the machine stops. No arm
  of this model raises it. -/
  | notModelled (mnemonic : String)
  deriving DecidableEq, Repr

/-- The state of the Arbenel 4180: the clock in ticks of 0.1 us since the release of pin reset
(R9, R23; log entry 1), the twelve blocks, and the model's own counter of free values (log entry
3) and queue of waiting commands, first in, first out. -/
structure State where
  time : Nat
  cfe : FrontEnd
  rms : RmsEngine
  ref : RefTracker
  det : Detector
  cap : CaptureUnit
  mark : MarkLine
  link : NoticeLink
  corr : Correlation
  store : RecordStore
  agg : Aggregator
  port : RecordPort
  ctl : Controller
  free : Nat
  pending : List Instr
  deriving DecidableEq, Repr

/-- The part right after pin reset with the given straps, level of MARK and level of PSELN
(R16, R30, R42, R69, R86, R98, R121, R142, R157, R168, R179, R183, R192). -/
def State.afterPinReset (straps : Straps) (markLow pselLow : Bool) (free : Nat)
    (pending : List Instr) : State :=
  { time := 0
    cfe := frontEndReset straps.freq
    rms := rmsReset
    ref := refReset
    det := detReset
    cap := capReset
    mark := markReset markLow
    link := linkReset
    corr := corrReset
    store := storeReset
    agg := aggReset
    port := portReset pselLow
    ctl := ctlReset straps
    free := free
    pending := pending }

/-- The straps of State.reset. DESIGN CHOICE (log entry 2), unsafe: the manual gives no level to
the strap pins. -/
def strapsDefault : Straps := ⟨0, 0, .hz50, .star⟩

/-- The part right after pin reset with MARK released and PSELN high (log entry 2), nothing
waiting. -/
def State.reset : State := State.afterPinReset strapsDefault false false 0 []

/-! One update per field, so that every later proof names the field it concerns. -/

/-- `s` with the clock at `x`. -/
def State.withTime (s : State) (x : Nat) : State := { s with time := x }
/-- `s` with the front end `x`. -/
def State.withCfe (s : State) (x : FrontEnd) : State := { s with cfe := x }
/-- `s` with the RMS engine `x`. -/
def State.withRms (s : State) (x : RmsEngine) : State := { s with rms := x }
/-- `s` with the reference tracker `x`. -/
def State.withRef (s : State) (x : RefTracker) : State := { s with ref := x }
/-- `s` with the detector `x`. -/
def State.withDet (s : State) (x : Detector) : State := { s with det := x }
/-- `s` with the capture unit `x`. -/
def State.withCap (s : State) (x : CaptureUnit) : State := { s with cap := x }
/-- `s` with the mark line interface `x`. -/
def State.withMark (s : State) (x : MarkLine) : State := { s with mark := x }
/-- `s` with the notice link controller `x`. -/
def State.withLink (s : State) (x : NoticeLink) : State := { s with link := x }
/-- `s` with the correlation unit `x`. -/
def State.withCorr (s : State) (x : Correlation) : State := { s with corr := x }
/-- `s` with the record store `x`. -/
def State.withStore (s : State) (x : RecordStore) : State := { s with store := x }
/-- `s` with the aggregator `x`. -/
def State.withAgg (s : State) (x : Aggregator) : State := { s with agg := x }
/-- `s` with the record port `x`. -/
def State.withPort (s : State) (x : RecordPort) : State := { s with port := x }
/-- `s` with the station controller `x`. -/
def State.withCtl (s : State) (x : Controller) : State := { s with ctl := x }
/-- `s` with the counter of free values at `x`. -/
def State.withFree (s : State) (x : Nat) : State := { s with free := x }
/-- `s` with the queue of waiting commands `x`. -/
def State.withPending (s : State) (x : List Instr) : State := { s with pending := x }

end Sys2Proof.Machine
end

