-- ==== Sys2Proof/Machine/Ops.lean ====
section
/-! DEFINITION. The operations that every block shares: the clock, the configuration items, the
cause set with ATTN, and the record store with its records and its tally. -/

namespace Sys2Proof.Machine

/-! The clock. -/

/-- The local clock in whole milliseconds (R23), 48 bits wide. -/
def State.now (s : State) : Ms := BitVec.ofNat 48 (s.time / Config.ticksPerMs)

/-- The clock moved on to the moment `t` of a command; it never moves back (log entry 1). -/
def State.elapse (s : State) (t : Nat) : State := s.withTime (max s.time t)

/-- The local clock has reached `t`. -/
def State.reached (s : State) (t : Ms) : Bool := atOrAfter s.now t

/-- The local clock has reached an expiry that is held. -/
def State.due (s : State) (e : Option Ms) : Bool :=
  match e with
  | none => false
  | some t => s.reached t

/-! The configuration items (R180). -/

/-- The stored value of item `i`. -/
def State.item (s : State) (i : Fin 30) : Int := s.ctl.items[i]

/-- The declared voltage, dV. -/
def State.declared (s : State) : Nat := (s.item 0).toNat

/-- The reference mode is SLIDING. -/
def State.sliding (s : State) : Bool := s.item 1 == 1

/-- The motion band, dV. -/
def State.motionBand (s : State) : Nat := (s.item 6).toNat

/-- The U deadband, dV. -/
def State.uDeadband (s : State) : Nat := (s.item 7).toNat

/-- The I deadband, cA. -/
def State.iDeadband (s : State) : Nat := (s.item 8).toNat

/-- MAX_OPEN, s. -/
def State.maxOpen (s : State) : Nat := (s.item 9).toNat

/-- The collection window, ms. -/
def State.window (s : State) : Nat := (s.item 10).toNat

/-- MARK_JOIN, ms. -/
def State.markJoin (s : State) : Nat := (s.item 11).toNat

/-- The item that holds the gain of channel `ch`. -/
def gainItem (ch : Fin 8) : Fin 30 := ⟨12 + ch.val, by omega⟩

/-- The item that holds the offset of channel `ch`. -/
def offsetItem (ch : Fin 8) : Fin 30 := ⟨20 + ch.val, by omega⟩

/-- The time base as it is configured, s. -/
def State.timeBase (s : State) : Nat := (s.item 28).toNat

/-- The ATTN mask. -/
def State.attnMask (s : State) : Nat := (s.item 29).toNat

/-! The cause set and ATTN (R188 to R191). -/

/-- The bit of a cause (R176). -/
def Cause.bit : Cause → Fin 13
  | .overrun => 0
  | .doubleOverrun => 1
  | .slotError => 2
  | .captureOff => 3
  | .frameError => 4
  | .addressClash => 5
  | .markStuck => 6
  | .halt => 7
  | .recordClosed => 8
  | .storeFull => 9
  | .intervalDone => 10
  | .peerChange => 11
  | .freeRun => 12

/-- The EXT flag of a cause (R188). -/
def Cause.ext : Cause → Bool
  | .frameError | .addressClash | .markStuck => true
  | .overrun | .doubleOverrun | .slotError | .captureOff | .halt | .recordClosed | .storeFull
  | .intervalDone | .peerChange | .freeRun => false

/-- Bit `b` of the cause set asserts ATTN under `mask`: the bits 0 to 7 are faults, which the
mask does not reach; event cause 8 + i is masked by bit i (R180, R188, R191). -/
def assertsAttn (causes : Vector CauseEntry 13) (mask : Nat) (b : Fin 13) : Bool :=
  causes[b].isSet && (decide (b.val < 8) || !mask.testBit (b.val - 8))

/-- ATTN as the cause set and the mask give it (R191). -/
def attnOf (causes : Vector CauseEntry 13) (mask : Nat) : Bool :=
  (List.finRange 13).any (assertsAttn causes mask)

/-- A block raises a cause: it is set with the detail of this occurrence, and ATTN follows
(R189, R191). A cause without a number is raised with 0. -/
def State.raise (s : State) (c : Cause) (num : Nat) : State :=
  let causes := s.ctl.causes.set c.bit ⟨true, num, c.ext⟩
  s.withCtl { s.ctl with causes := causes, attn := attnOf causes s.attnMask }

/-! Station time (R146). -/

/-- The time elapsed from the START time to the clock value `t`: 0 where `t` lies before it. -/
def State.elapsedAt (s : State) (t : Ms) : Ms :=
  if isBefore t s.store.startTime then 0 else t - s.store.startTime

/-- The time base of station time, s: the item as the last START froze it (R146), and as it stands
before the first START after pin reset (R176). -/
def State.stationBase (s : State) : Nat := s.store.frozenBase.getD s.timeBase

/-- The clock value `t` converted to station time (R146, steps 1 to 3). -/
def State.stationTime (s : State) (t : Ms) : StationTime :=
  let e := (s.elapsedAt t).toNat
  ⟨(s.stationBase + e / 1000) % 2 ^ 32, e % 1000⟩

/-- Station time `a` is the earlier of the two: seconds first, milliseconds second (R146). -/
def StationTime.earlier (a b : StationTime) : Bool :=
  decide (a.sec < b.sec) || (a.sec == b.sec && decide (a.ms < b.ms))

/-- The record time of a record created for the clock value `t`: the converted time, or that of
the tail record where the converted time is the earlier (R146). -/
def State.recordTime (s : State) (t : Ms) : StationTime :=
  match s.store.queue.getLast? with
  | none => s.stationTime t
  | some tail => if (s.stationTime t).earlier tail.time then tail.time else s.stationTime t

/-! The records of the store. -/

/-- The record with this id, if the store holds it. -/
def State.recordOf (s : State) (id : Nat) : Option Record :=
  s.store.queue.find? fun r => r.id == id

/-- A write to the record with this id; nothing where the store does not hold it (R148). -/
def State.editRecord (s : State) (id : Nat) (f : Record → Record) : State :=
  s.withStore { s.store with queue := s.store.queue.map fun r => if r.id = id then f r else r }

/-- The store has room for a record (R145). -/
def State.hasRoom (s : State) : Bool := decide (s.store.queue.length < Config.storeSize)

/-- The id after `id`: from 65535 to 1 (R144). -/
def nextRecordId (id : Nat) : Nat := if id ≥ 65535 then 1 else id + 1

/-- The store creates `r` at its tail: it gives it the next id, the state OPEN, the record time
of the clock value `t` and anchor open clear, and raises STORE_FULL at the 48th record (R145).
The requester's fields are those of `r`; asked only where the store has room. -/
def State.addRecord (s : State) (r : Record) (t : Ms) : State :=
  let new := { r with
    id := s.store.nextId, isOpen := true, anchorOpen := false, time := s.recordTime t }
  let s' := s.withStore { s.store with
    queue := s.store.queue ++ [new], nextId := nextRecordId s.store.nextId }
  if s'.store.queue.length = Config.storeSize then s'.raise .storeFull 0 else s'

/-- The record's waveform slot is FILLING (R149). -/
def State.slotFilling (s : State) (r : Record) : Bool :=
  match r.wave with
  | .present k _ => s.cap.slots[k].state == .filling
  | .absent _ => false

/-- The three conditions of CLOSED: running flag clear, no open anchor context, slot not
FILLING (R149). -/
def State.closable (s : State) (r : Record) : Bool :=
  !r.running && !r.anchorOpen && !s.slotFilling r

/-- The record becomes CLOSED, with ABORTED where the store holds the station state as CONFIG or
HALTED (R149, R151). -/
def closedRecord (view : StationState) (r : Record) : Record :=
  { r with
    isOpen := false
    flags := { r.flags with aborted := r.flags.aborted || (view != .run) } }

/-- The store judges the record with this id: OPEN and with all three conditions met it becomes
CLOSED, and RECORD_CLOSED is raised (R149). -/
def State.judge (s : State) (id : Nat) : State :=
  match s.recordOf id with
  | none => s
  | some r =>
    if r.isOpen && s.closable r then
      (s.editRecord id (closedRecord s.store.view)).raise .recordClosed 0
    else s

/-- The store judges the records with these ids, one after the other. -/
def State.judgeAll (s : State) (ids : List Nat) : State := ids.foldl State.judge s

/-- The ids of the records whose waveform part names slot `k`, head first. -/
def State.namers (s : State) (k : Fin 8) : List Nat :=
  (s.store.queue.filter fun r =>
    match r.wave with
    | .present j _ => j == k
    | .absent _ => false).map Record.id

/-! The overflow tally (R147). -/

/-- The place of a class in the tally (R176). -/
def RecordClass.index : RecordClass → Fin 5
  | .dip => 0
  | .swell => 1
  | .interruption => 2
  | .sympathetic => 3
  | .continuation => 4

/-- The lesser of a held value, if any, and a new one. -/
def lesserOf (old : Option Nat) (x : Nat) : Nat := old.elim x (min x)

/-- The greater of a held value, if any, and a new one. -/
def greaterOf (old : Option Nat) (x : Nat) : Nat := old.elim x (max x)

/-- A hand-over added to a set: the count rises by one up to 65535, the residual becomes the
lesser, maximum and duration the greater; with a count of 0 each becomes the value handed over
(R147). -/
def TallySet.add (t : TallySet) (residual maximum duration : Nat) : TallySet :=
  let old (v : Option Nat) := if t.count = 0 then none else v
  { count := min (t.count + 1) 65535
    residual := some (lesserOf (old t.residual) residual)
    maximum := some (greaterOf (old t.maximum) maximum)
    duration := some (greaterOf (old t.duration) duration) }

/-- A requester with no room hands over a class, a residual, a maximum and a duration (R147). -/
def State.handToTally (s : State) (c : RecordClass) (residual maximum duration : Nat) : State :=
  s.withStore { s.store with
    tally := s.store.tally.set c.index (s.store.tally[c.index].add residual maximum duration) }

/-! The refresh history (R26). -/

/-- The entry with this index, if the history holds it. -/
def State.entry (s : State) (i : RefIndex) : Option Refresh :=
  s.rms.history.find? fun e => e.index == i

/-- The index of the next refresh as the history shows it: the newest plus one, or 0 while the
history is empty (R122). -/
def State.nextRefresh (s : State) : RefIndex :=
  match s.rms.history with
  | [] => 0
  | e :: _ => e.index + 1

/-- The quantity number of detection quantity Dk: 8, 9, 10. -/
def dIndex (k : Fin 3) : Fin 11 := ⟨8 + k.val, by omega⟩

/-- The quantity number of the current paired with Dk: I1, I2, I3 are 4, 5, 6 (R4). -/
def iIndex (k : Fin 3) : Fin 11 := ⟨4 + k.val, by omega⟩

/-- The values of D1, D2, D3 in an entry. -/
def Refresh.dValues (e : Refresh) : Vector Nat 3 := Vector.ofFn fun k => e.value[dIndex k]

/-- The values of I1, I2, I3 in an entry. -/
def Refresh.iValues (e : Refresh) : Vector Nat 3 := Vector.ofFn fun k => e.value[iIndex k]

/-- The entry carries the clip flag of any of the eleven quantities (R53). -/
def Refresh.anyClip (e : Refresh) : Bool := (List.finRange 11).any fun q => e.clip[q]

/-- The least of three values. -/
def least3 (v : Vector Nat 3) : Nat := min v[0] (min v[1] v[2])

/-- The greatest of three values. -/
def greatest3 (v : Vector Nat 3) : Nat := max v[0] (max v[1] v[2])

/-- The measurement fields of a record from minima and maxima: the residual is the least of the
minima, the maximum the greatest of the maxima (ch. 4 sec. 4.1). -/
def measureOf (dmin dmax : Vector Nat 3) : RecordMeasure := ⟨dmin, dmax, least3 dmin, greatest3 dmax⟩

end Sys2Proof.Machine
end

