-- ==== Sys2Proof/Machine/Capture.lean ====
section
/-! DEFINITION. The capture unit (ch. 5): copies from the rings, requests, the fill, holders,
memory check errors and scrubs, and its two commands SCRUB_COMPLETE and SCRUB_LOCATION_ERROR. -/

namespace Sys2Proof.Machine

/-- `s` with slot `k` of the capture unit as `x`. -/
def State.setSlot (s : State) (k : Fin 8) (x : Slot) : State :=
  s.withCap { s.cap with slots := s.cap.slots.set k x }

/-- The slot that is FILLING, if one is (R71: at most one). -/
def State.fillingSlot (s : State) : Option (Fin 8) :=
  (List.finRange 8).find? fun k => s.cap.slots[k].state == .filling

/-- The lowest-numbered FREE slot (R71). -/
def State.freeSlot (s : State) : Option (Fin 8) :=
  (List.finRange 8).find? fun k => s.cap.slots[k].state == .free

/-- A scrub is in progress in some slot (R79, R81). -/
def State.scrubRunning (s : State) : Bool :=
  (List.finRange 8).any fun k => s.cap.slots[k].scrubEnd.isSome

/-- The ring segment of the half-cycle completed `back` half-cycles before the last one. The
last one lies just before the segment that the ring position counter is in (R25; log entry 11). -/
def segmentBack (pos : Fin 640) (back : Nat) : Fin 10 :=
  Fin.ofNat 10 (pos.val / 64 + 19 - back % 10)

/-- The 64 samples of each quantity in ring segment `seg`, in the order of writing (R70). -/
def ringSegment (rings : Vector (Vector Int 640) 11) (seg : Fin 10) : HalfCycle :=
  Vector.ofFn fun q => Vector.ofFn fun i : Fin 64 =>
    rings[q][64 * seg.val + i.val]'(by have := seg.isLt; have := i.isLt; omega)

/-- Position `j` of a slot receives a half-cycle; a position beyond 39 receives nothing. -/
def Slot.put (sl : Slot) (j : Nat) (hc : HalfCycle) : Slot :=
  if h : j < 40 then { sl with contents := sl.contents.set j hc, filled := sl.filled + 1 } else sl

/-- Every record that names slot `k` loses its waveform part, with the reason and the flag
WAVE_LOST, and the holder count becomes 0 (R79 step 2). -/
def State.loseHolders (s : State) (k : Fin 8) : State :=
  let lost (r : Record) : Record :=
    match r.wave with
    | .present j _ =>
      if j = k then { r with wave := .absent .waveLost, flags := { r.flags with waveLost := true } }
      else r
    | .absent _ => r
  let s' := s.withStore { s.store with queue := s.store.queue.map lost }
  s'.setSlot k { s'.cap.slots[k] with holders := 0 }

/-- The slot is FILLING or HELD. -/
def Slot.inUse (sl : Slot) : Bool := sl.state == .filling || sl.state == .held

/-- The FILLING slot, if there is one, becomes HELD with its filled count as it stands, and the
end of the fill is reported to the store for every record that names it (R76, R85). -/
def State.stopFill (s : State) : State :=
  match s.fillingSlot with
  | none => s
  | some k =>
    let s' := s.setSlot k { s.cap.slots[k] with state := .held }
    s'.judgeAll (s'.namers k)

/-- A slot in use loses its holders and becomes SCRUBBING with the given scrub completion time;
the end of a fill is reported for its former holders (R79, R81, R82). What the contents hold while
the scrub runs, and after it is abandoned, R80 and R81 do not say: they are kept until the scrub
completes, DESIGN CHOICE (log entry 28). -/
def State.spoilSlot (s : State) (k : Fin 8) (scrubEnd : Option Ms) : State :=
  if s.cap.slots[k].inUse then
    let ids := s.namers k
    let s' := s.loseHolders k
    let s'' := s'.setSlot k { s'.cap.slots[k] with state := .scrubbing, scrubEnd := scrubEnd }
    s''.judgeAll ids
  else s

/-- Every scrub in progress is abandoned: its slot stays SCRUBBING, with no scrub completion
time (R81); its contents are kept, DESIGN CHOICE (log entry 28). -/
def State.abandonScrubs (s : State) : State :=
  s.withCap { s.cap with
    slots := Vector.ofFn fun k => { s.cap.slots[k] with scrubEnd := none } }

/-- A memory check error in slot `k` is taken: with the unit OFF as R82, while a scrub is in
progress in any slot as the double capture fault of R81, otherwise as R79. -/
def State.memoryError (s : State) (k : Fin 8) : State :=
  if !s.cap.on then (s.raise .slotError k.val).spoilSlot k none
  else if s.scrubRunning then
    let s1 := (s.raise .slotError k.val).raise .captureOff k.val
    let s2 := s1.spoilSlot k none
    let s3 := (s2.withCap { s2.cap with on := false }).abandonScrubs
    s3.stopFill
  else (s.raise .slotError k.val).spoilSlot k (some (s.now + msOf 5))

/-- The capture unit writes the outcome of a request into the record's waveform part (R71). -/
def State.writeWave (s : State) (id : Nat) (w : WavePart) : State :=
  s.editRecord id fun r => { r with wave := w }

/-- A copy of one position into slot `k`, which is checked after writing; a failed check is a
memory check error in that slot (R72, R75, R78). A slot no longer FILLING takes no copy. -/
def State.copyPosition (s : State) (k : Fin 8) (j : Nat) (hc : HalfCycle) (fails : Bool) : State :=
  if s.cap.slots[k].state == .filling then
    let s' := s.setSlot k (s.cap.slots[k].put j hc)
    if fails then s'.memoryError k else s'
  else s

/-- A request of record `id` with anchor `a` opens slot `k`: FILLING, f = a - 8, one holder, the
record naming it at offset 8; then positions 0 to 7 are copied, and 8 where refresh a + 1 has
been emitted, each checked (R72). `failed` is the first copy whose check fails. -/
def State.openSlot (s : State) (k : Fin 8) (id : Nat) (a newest : RefIndex)
    (failed : Option (Fin 9)) : State :=
  let s1 := s.setSlot k
    { s.cap.slots[k] with
      state := .filling, holders := 1, first := a - 8, filled := 0, scrubEnd := none }
  let s2 := s1.writeWave id (.present k 8)
  let ahead := (newest - a).toNat
  let copies := if ahead = 0 then 8 else 9
  (List.range copies).foldl
    (fun st j =>
      st.copyPosition k j (ringSegment s.cfe.rings (segmentBack s.cfe.pos (ahead + 7 - j)))
        (failed.map Fin.val == some j))
    s2

/-- The capture unit takes a request for record `id` anchored at refresh `a` and decides it by
the table of R71; one taken after RESTART or HALT and before the next START is refused
CAPTURE_OFF. -/
def State.captureRequest (s : State) (id : Nat) (a : RefIndex) (failed : Option (Fin 9)) : State :=
  if s.cap.view != .run || !s.cap.on then s.writeWave id (.absent .captureOff)
  else
    match s.rms.history with
    | [] => s.writeWave id (.absent .noSlot)
    | newest :: _ =>
      match s.fillingSlot with
      | some k =>
        let off := (a - s.cap.slots[k].first).toNat
        if 8 ≤ off ∧ off ≤ 23 then
          (s.setSlot k { s.cap.slots[k] with holders := s.cap.slots[k].holders + 1 }).writeWave id
            (.present k off)
        else s.writeWave id (.absent .waveBusy)
      | none =>
        match s.freeSlot with
        | some k => s.openSlot k id a newest.index failed
        | none => s.writeWave id (.absent .noSlot)

/-- The half-cycle end that emits refresh `m`: the FILLING slot, if there is one, copies the
half-cycle just completed into position m - f - 1, for f + 9 <= m <= f + 40, unless it was
copied at the request; at position 39 it becomes HELD and the end of the fill is reported
(R75, R76). The ring position counter has been advanced past the half-cycle. -/
def State.fillCopy (s : State) (m : RefIndex) (fails : Bool) : State :=
  match s.fillingSlot with
  | none => s
  | some k =>
    let off := (m - s.cap.slots[k].first).toNat
    if 9 ≤ off ∧ off ≤ 40 ∧ s.cap.slots[k].filled < off then
      let s' := s.copyPosition k (off - 1) (ringSegment s.cfe.rings (segmentBack s.cfe.pos 0)) fails
      if s'.cap.slots[k].filled = 40 then s'.stopFill else s'
    else s

/-- The store asks the capture unit to drop one hold on slot `k`: a HELD slot whose count comes
to 0 becomes FREE (R77). -/
def State.dropHold (s : State) (k : Fin 8) : State :=
  let sl := s.cap.slots[k]
  let n := sl.holders - 1
  s.setSlot k { sl with
    holders := n, state := if n = 0 ∧ sl.state = .held then .free else sl.state }

/-- The capture unit takes HALT: the fill in progress is stopped (R85). -/
def State.capTakesHalt (s : State) : State :=
  (s.withCap { s.cap with view := .halted }).stopFill

/-- The capture unit takes RESTART: the fill in progress is stopped, the unit is ON, and every
slot left SCRUBBING without a scrub starts a new one of 5 ms (R85). -/
def State.capTakesRestart (s : State) : State :=
  let s' := (s.withCap { s.cap with view := .config }).stopFill
  s'.withCap { s'.cap with
    on := true
    slots := Vector.ofFn fun k =>
      let sl := s'.cap.slots[k]
      if sl.state = .scrubbing ∧ sl.scrubEnd = none then
        { sl with scrubEnd := some (s'.now + msOf 5) }
      else sl }

/-- SCRUB_COMPLETE: a scrub whose completion time has come leaves slot `k` FREE, with no
holders, nothing filled and its contents cleared (R80). -/
def execScrubComplete (t : Nat) (k : Fin 8) (s : State) : Host.Outcome State Fault Refusal :=
  let s := s.elapse t
  let sl := s.cap.slots[k]
  .next (if sl.state == .scrubbing && s.due sl.scrubEnd then
    s.setSlot k { sl with
      state := .free, holders := 0, filled := 0, contents := clearedContents, scrubEnd := none }
  else s)

/-- SCRUB_LOCATION_ERROR: a location that the scrub of slot `k` writes fails its check; a scrub
is in progress, so this is a double capture fault (R78, R81). -/
def execScrubLocationError (t : Nat) (k : Fin 8) (s : State) : Host.Outcome State Fault Refusal :=
  let s := s.elapse t
  let sl := s.cap.slots[k]
  .next (if sl.state == .scrubbing && sl.scrubEnd.isSome then s.memoryError k else s)

end Sys2Proof.Machine
end

