-- ==== Sys2Proof/WellFormed.lean ====
section
/-! DEFINITION. Which commands can come at all: the conditions on a command's operands that the
types of Syntax.lean do not already enforce. A command that breaks one names no event of the
part; exec leaves the state as it is, but for the clock. -/

namespace Sys2Proof

/-- A glitch has risen again by the middle of the bit, half a bit time after its edge; a stop bit
that reads low is low at its middle, nine and a half bit times after the edge (R100, R111). -/
def EdgeSample.wf : EdgeSample → Bool
  | .glitch d => decide (d ≤ Config.ticksPerBit / 2)
  | .start _ => true
  | .broken _ d => decide (9 * Config.ticksPerBit + Config.ticksPerBit / 2 < d)

/-- The conditions on operands: a request begins with a byte other than 0x00 (R169), a read frame
has at least its first byte (R169), an edge on NOTICE rises when its kind says (R111). -/
def Instr.wf : Instr → Bool
  | .requestBegin _ code => code != 0
  | .readFrame _ count => decide (0 < count)
  | .noticeFallingEdge _ e => e.wf
  | .pinReset _ _ _ | .takeResult _ _ _ | .positionClose _ | .cycleTimeout _
  | .trackerTakesRefresh _ | .trackerTakesEndReport _ | .detectorTakesRefresh _ _
  | .maxOpenExpiry _ | .correlationTakesRefresh _ | .aggregatorTakesRefresh _
  | .markFallingEdge _ _ | .markRelease _ | .pulseEnd _ | .stuckExpiry _ | .recoveryExpiry _
  | .presentPeriodExpiry _ | .attemptStart _ | .readbackMismatch _ | .attemptSuccess _
  | .frameMalformed _ _ | .frameComplete _ | .receiverRecovered _ | .peerAgingExpiry _ _
  | .contextClose _ _ | .scrubComplete _ _ | .scrubLocationError _ _ | .intervalBoundary _
  | .requestTaken _ _ | .malformedRequest _ | .status _ | .live _ | .reference _ | .head _
  | .release _ | .wave _ _ | .interval _ | .tally _ | .causes _ | .peers _ | .set _ | .get _
  | .start _ | .restart _ _ | .linkReset _ _ | .ignoredPeriodEnd _ => true

end Sys2Proof
end

