-- ==== Sys2Proof/Decode.lean ====
section
/-! DEFINITION. Decoding: the command a table word spells (the table of this block gives no row
any bits), the request a frame of the record port spells (R170, R171), and the notice a frame of
the NOTICE line spells (R101, R112), each with its encoder. -/

namespace Sys2Proof

/-- The command that a word spells by the bits of spec/opcode_table.json. No row of the table
gives bits, so no word spells a command. -/
def decodeTableWord (_nbits _w : Nat) : Option Instr := none

/-- `x` in `n` bytes, most significant byte first (R175, R101), modulo 256^n. -/
def bigEndian : Nat → Nat → List Byte
  | 0, _ => []
  | n + 1, x => BitVec.ofNat 8 (x / 256 ^ n) :: bigEndian n x

/-- The number that bytes spell, most significant byte first. -/
def fromBytes (bs : List Byte) : Nat := bs.foldl (fun acc b => acc * 256 + b.toNat) 0

/-- The request that the bytes of a request frame form; malformed where the code is not in the
table or the byte count is not one plus the operand bytes of that code (R170, R171). -/
def decodeRequest : List Byte → Request
  | [] => .malformed
  | code :: ops =>
    match code.toNat, ops with
    | 0x01, [] => .status
    | 0x02, [q] => .live q
    | 0x03, [] => .reference
    | 0x04, [] => .head
    | 0x05, [a, b] => .release (BitVec.ofNat 16 (fromBytes [a, b]))
    | 0x06, [a, b, q, h] => .wave (BitVec.ofNat 16 (fromBytes [a, b])) q h
    | 0x07, [a, b, c, d] => .interval (BitVec.ofNat 32 (fromBytes [a, b, c, d]))
    | 0x08, [] => .tally
    | 0x09, [] => .causes
    | 0x0A, [] => .peers
    | 0x0B, [i, a, b, c, d] => .set i (BitVec.ofNat 32 (fromBytes [a, b, c, d]))
    | 0x0C, [i] => .get i
    | 0x10, [] => .start
    | 0x11, [] => .restart
    | 0x12, [] => .linkReset
    | _, _ => .malformed

/-- The bytes of a request frame (R170). A malformed request has no one spelling: a lone 0xFF,
which is no code of the table, stands for it. -/
def encodeRequest : Request → List Byte
  | .status => [0x01]
  | .live q => [0x02, q]
  | .reference => [0x03]
  | .head => [0x04]
  | .release id => 0x05 :: bigEndian 2 id.toNat
  | .wave id q h => 0x06 :: (bigEndian 2 id.toNat ++ [q, h])
  | .interval n => 0x07 :: bigEndian 4 n.toNat
  | .tally => [0x08]
  | .causes => [0x09]
  | .peers => [0x0A]
  | .set i v => 0x0B :: i :: bigEndian 4 v.toNat
  | .get i => [0x0C, i]
  | .start => [0x10]
  | .restart => [0x11]
  | .linkReset => [0x12]
  | .malformed => [0xFF]

/-- The verdict's two bits (R101). -/
def VerdictKind.code : VerdictKind → Nat
  | .upstream => 0
  | .downstream => 1
  | .indeterminate => 2

/-- The verdict of two bits; 3 is none (R112). -/
def VerdictKind.ofCode : Nat → Option VerdictKind
  | 0 => some .upstream
  | 1 => some .downstream
  | 2 => some .indeterminate
  | _ => none

/-- The origin's bit (R101). -/
def Origin.code : Origin → Nat
  | .triggered => 0
  | .sympathetic => 1

/-- The wiring's bit (R101, R176). -/
def Wiring.code : Wiring → Nat
  | .star => 0
  | .delta => 1

/-- The frequency class's bit (R101, R176). -/
def Freq.code : Freq → Nat
  | .hz50 => 0
  | .hz60 => 1

/-- The sum of the bytes of a frame. -/
def byteSum (bs : List Byte) : Nat := (bs.map BitVec.toNat).sum

/-- The check byte that makes the sum of all bytes 0 modulo 256 (R102). -/
def checkByte (bs : List Byte) : Byte := BitVec.ofNat 8 (256 - byteSum bs % 256)

/-- The bytes of a notice before its check byte (R101). -/
def Notice.body : Notice → List Byte
  | .present addr level wiring freq =>
    [Config.leader, BitVec.ofNat 8 (0x90 + addr.val),
      BitVec.ofNat 8 (64 * level.val + 32 * wiring.code + 16 * freq.code)]
  | .verdict addr level v k origin age dU dI =>
    [Config.leader, BitVec.ofNat 8 (0x60 + addr.val),
      BitVec.ofNat 8 (64 * level.val + 16 * v.code + 4 * (k.val + 1) + 2 * origin.code)] ++
    bigEndian 2 age.toNat ++ bigEndian 2 dU.toNat ++ bigEndian 2 dI.toNat

/-- The whole frame of a notice: its body and its check byte (R101, R102). -/
def encodeNotice (n : Notice) : List Byte := n.body ++ [checkByte n.body]

/-- The frame length that the second byte of a frame announces: 4 for the kind 0x9, 10 for the
kind 0x6, none for any other (R111). -/
def frameLength (byte1 : Byte) : Option Nat :=
  match byte1.toNat / 16 with
  | 0x9 => some 4
  | 0x6 => some 10
  | _ => none

/-- The fields of a PRESENT from its bytes 1 and 2 (R101); none where bits 3..0 of byte 2 are not
0 (R112). -/
def decodePresent (b1 b2 : Byte) : Option Notice :=
  if b2.toNat % 16 = 0 then
    some (.present (Fin.ofNat 16 b1.toNat) (Fin.ofNat 4 (b2.toNat / 64))
      (if b2.toNat / 32 % 2 = 1 then .delta else .star)
      (if b2.toNat / 16 % 2 = 1 then .hz60 else .hz50))
  else none

/-- The fields of a VERDICT from its bytes 1 to 8 (R101); none where the verdict is 3, k is 0 or
bit 0 of byte 2 is set (R112). -/
def decodeVerdict (b1 b2 : Byte) (age dU dI : BitVec 16) : Option Notice :=
  match VerdictKind.ofCode (b2.toNat / 16 % 4) with
  | none => none
  | some v =>
    if b2.toNat / 4 % 4 = 0 ∨ b2.toNat % 2 = 1 then none
    else
      some (.verdict (Fin.ofNat 16 b1.toNat) (Fin.ofNat 4 (b2.toNat / 64)) v
        (Fin.ofNat 3 (b2.toNat / 4 % 4 - 1))
        (if b2.toNat / 2 % 2 = 1 then .sympathetic else .triggered) age dU dI)

/-- The notice that the bytes of a complete frame spell: the leader, the kind with its length,
the check and the fields are tested (R111, R112); none where a test fails. -/
def decodeNotice (bs : List Byte) : Option Notice :=
  if byteSum bs % 256 ≠ 0 then none
  else
    match bs with
    | [b0, b1, b2, _] =>
      if b0 = Config.leader ∧ frameLength b1 = some 4 then decodePresent b1 b2 else none
    | [b0, b1, b2, b3, b4, b5, b6, b7, b8, _] =>
      if b0 = Config.leader ∧ frameLength b1 = some 10 then
        decodeVerdict b1 b2 (BitVec.ofNat 16 (fromBytes [b3, b4]))
          (BitVec.ofNat 16 (fromBytes [b5, b6])) (BitVec.ofNat 16 (fromBytes [b7, b8]))
      else none
    | _ => none

end Sys2Proof
end

