-- ==== Sys2Proof/Machine/Notices.lean ====
section
/-! DEFINITION. The transmit side of the notice link controller (ch. 7): the queue, drops and
withdrawals, the attempts, and what RESTART, LINK_RESET and HALT do to the controller; with the
commands ATTEMPT_START, READBACK_MISMATCH and ATTEMPT_SUCCESS. -/

namespace Sys2Proof.Machine

/-- The notice link reports the drop of a VERDICT: UNSENT is set on the OPEN context with that
edge time, and on the record with that id, if the id is not 0 and the store holds it (R105,
R132). -/
def State.dropReport (s : State) (edge : Ms) (recordId : Nat) : State :=
  let mark (c : Option Context) : Option Context :=
    c.map fun c => if c.edge = edge then { c with unsent := true } else c
  let s' := s.withCorr { s.corr with slots := Vector.ofFn fun k => mark s.corr.slots[k] }
  if recordId = 0 then s'
  else s'.editRecord recordId fun r => { r with flags := { r.flags with unsent := true } }

/-- The drop of a frame is reported where it is a VERDICT not already withdrawn (R105, R120). -/
def State.reportFrame (s : State) (f : QueuedFrame) : State :=
  match f with
  | .present => s
  | .verdict v => if v.withdrawn then s else s.dropReport v.edge v.recordId

/-- The transmitter's state with nothing on the line: WAITING with a frame queued in RUN, else
IDLE (R106). -/
def restingTx (view : StationState) (queue : List QueuedFrame) : TxState :=
  if view = .run ∧ queue ≠ [] then .waiting else .idle

/-- A frame is placed at the tail; an IDLE transmitter comes to WAITING (R103, R104, R106). -/
def NoticeLink.enqueue (l : NoticeLink) (f : QueuedFrame) : NoticeLink :=
  { l with
    queue := l.queue ++ [f]
    tx := if l.tx = .idle then restingTx l.view (l.queue ++ [f]) else l.tx }

/-- The head frame leaves the queue: the next frame is the head with an attempt count of 0, and
the transmitter is WAITING for it, or IDLE (R109). -/
def NoticeLink.popHead (l : NoticeLink) : NoticeLink :=
  { l with
    queue := l.queue.tail, attempts := 0, txBytes := [], tx := restingTx l.view l.queue.tail }

/-- The frame at place `i` leaves the queue unsent; at the head, the next one becomes the head
(R105, R109, R110). -/
def NoticeLink.removeAt (l : NoticeLink) (i : Nat) : NoticeLink :=
  if i = 0 then l.popHead else { l with queue := l.queue.eraseIdx i }

/-- The station controller hands over a PRESENT: placed at the tail, or discarded at a full
queue (R103). -/
def NoticeLink.handPresent (l : NoticeLink) : NoticeLink :=
  if l.queue.length < Config.queueSize then l.enqueue .present else l

/-- The place of the oldest PRESENT that is not being sent (R104). -/
def NoticeLink.oldestPresent (l : NoticeLink) : Option Nat :=
  (List.range l.queue.length).find? fun i =>
    l.queue[i]? == some .present && !(i == 0 && l.tx == .sending)

/-- The correlation unit hands over a VERDICT: placed at the tail, at a full queue in place of the
oldest PRESENT not being sent, else dropped and reported (R104); dropped at once after RESTART
or HALT and before the next START (R120). -/
def State.handVerdict (s : State) (v : QueuedVerdict) : State :=
  if s.link.view != .run then s.dropReport v.edge v.recordId
  else if s.link.queue.length < Config.queueSize then s.withLink (s.link.enqueue (.verdict v))
  else
    match s.link.oldestPresent with
    | some i => s.withLink ((s.link.removeAt i).enqueue (.verdict v))
    | none => s.dropReport v.edge v.recordId

/-- The frame is the VERDICT of the context with this edge time. -/
def QueuedFrame.isVerdictOf (edge : Ms) : QueuedFrame → Bool
  | .present => false
  | .verdict v => v.edge == edge

/-- The frame marked withdrawn, if it is a VERDICT. -/
def QueuedFrame.withdraw : QueuedFrame → QueuedFrame
  | .present => .present
  | .verdict v => .verdict { v with withdrawn := true }

/-- The notice link takes the expiry of the window of the context with edge time `edge`: its
queued VERDICT is reported dropped and removed, or, with its attempt in progress, marked
withdrawn (R105). -/
def State.windowExpiry (s : State) (edge : Ms) : State :=
  match s.link.queue.findIdx? (QueuedFrame.isVerdictOf edge) with
  | none => s
  | some i =>
    let s' := s.reportFrame (s.link.queue.getD i .present)
    if i = 0 ∧ s.link.tx = .sending then
      s'.withLink { s.link with queue := s.link.queue.modify 0 QueuedFrame.withdraw }
    else s'.withLink (s.link.removeAt i)

/-- The drop of every VERDICT in the queue not already withdrawn is reported (R120). -/
def State.reportQueue (s : State) : State := s.link.queue.foldl State.reportFrame s

/-- The station is sending or receiving: an attempt or a frame in reception is on the line
(R100). -/
def NoticeLink.onLine (l : NoticeLink) : Bool :=
  l.tx == .sending || l.rx == .receiving || l.rx == .trailing

/-- What an end of sending or of receiving at `time` makes of the line. A station that still does
one of the two waits for the end of the stop bit; one that does neither finds the line idle
whenever it is high, and no stop bit keeps it waiting (R100; log entry 9). -/
def NoticeLink.leaveByte (l : NoticeLink) (time : Nat) : NoticeLink :=
  { l with lastStop := if l.onLine then l.lastStop else min l.lastStop time }

/-- The attempt in progress, if there is one, is stopped and the line released; the transmitter
is IDLE (R110). What the falling edges have shown of the line's rise stands: the byte of an edge
is that which the line carries (log entry 9). -/
def NoticeLink.stopAttempt (l : NoticeLink) : NoticeLink := { l with tx := .idle, txBytes := [] }

/-- The notice link takes HALT: the attempt is stopped uncounted, the queue is kept with every
VERDICT withdrawn and reported; receiver and peer table run on (R120). -/
def State.linkTakesHalt (s : State) : State :=
  let s' := s.reportQueue
  s'.withLink ({ s'.link.stopAttempt with
    queue := s'.link.queue.map QueuedFrame.withdraw, view := .halted }.leaveByte s'.time)

/-- The transmit side of a reset of the notice link by RESTART or LINK_RESET: VERDICTs reported
dropped, the queue empty, the attempt count 0, the receiver RECOVERING (R120, R121). `view` is
the station state as the link holds it after. -/
def State.linkDropsQueue (s : State) (view : StationState) : State :=
  let s' := s.reportQueue
  s'.withLink ({ s'.link.stopAttempt with
    queue := [], attempts := 0, rx := .recovering, rxBytes := [], rxExpected := none
    rxFault := none, rxOwn := false, view := view }.leaveByte s'.time)

/-- The peer table as after pin reset; no PEER_CHANGE is raised (R121). -/
def State.linkClearsPeers (s : State) : State :=
  s.withLink { s.link with peers := Vector.replicate 16 peerReset }

/-- A reset of the notice link (R121). -/
def State.linkTakesReset (s : State) (view : StationState) : State :=
  (s.linkDropsQueue view).linkClearsPeers

/-- The gap in bit times before the attempt after `a` failures (R107). -/
def attemptGap (addr : Fin 16) (a : Nat) : Nat :=
  if a = 0 then 24 else 24 + (addr.val + 7 * a) % 16 * 12

/-- The number of ones at the end of a byte as it is sent, its low bits. -/
def trailingOnes (b : Byte) : Nat := ((List.range 8).find? fun i => !b.getLsbD i).getD 8

/-- The ticks from a falling edge to the line's last rise in what begins there: of a byte, the end
of its last low bit, which the ones at its end and the stop bit follow (R100, R111). -/
def riseAfter : EdgeSample → Nat
  | .glitch d => d
  | .start b => Config.ticksPerBit * (9 - trailingOnes b)
  | .broken _ d => d

/-- The line after a falling edge at `edge`: its last rise, and for a byte the end of its stop bit,
which a station that is neither sending nor receiving does not wait for (R100). -/
def NoticeLink.seeEdge (l : NoticeLink) (edge : Nat) (e : EdgeSample) : NoticeLink :=
  { l with
    highFrom := some (edge + riseAfter e)
    lastStop := match e with
      | .glitch _ => l.lastStop
      | .start _ | .broken _ _ => if l.onLine then edge + 10 * Config.ticksPerBit else l.lastStop }

/-- The tick from which NOTICE is idle: the later of the end of the last stop bit and the last
change from low to high, once that is known (R100). With the station neither sending nor receiving
the stop bit has ended, and the line is idle whenever it is high. -/
def NoticeLink.idleFrom (l : NoticeLink) : Option Nat := l.highFrom.map (max l.lastStop)

/-- NOTICE has been idle for `ticks` at the moment `time`. -/
def idleFor (time : Nat) (idleFrom : Option Nat) (ticks : Nat) : Bool :=
  match idleFrom with
  | none => false
  | some t0 => decide (t0 + ticks ≤ time)

/-- The notice that the station sends for a queued frame at an attempt that begins now: its own
straps, the content, and the mark age, the local clock minus the context's edge time (R102). -/
def State.noticeFor (s : State) : QueuedFrame → Notice
  | .present => .present s.ctl.straps.addr s.ctl.straps.level s.ctl.straps.wiring s.ctl.straps.freq
  | .verdict v =>
    .verdict s.ctl.straps.addr s.ctl.straps.level v.verdict v.k v.origin
      ((s.now - v.edge).setWidth 16) (BitVec.ofInt 16 v.dU) (BitVec.ofInt 16 v.dI)

/-- ATTEMPT_START: the idle-gap count has reached the gap for the head frame; the frame is built
afresh and the transmitter enters SENDING, driving the line low (R102, R107). -/
def execAttemptStart (t : Nat) (s : State) : Host.Outcome State Fault Refusal :=
  let s := s.elapse t
  .next (match s.link.queue with
  | [] => s
  | head :: _ =>
    if s.link.view == .run && s.link.tx == .waiting &&
        idleFor s.time s.link.idleFrom
          (attemptGap s.ctl.straps.addr s.link.attempts * Config.ticksPerBit) then
      s.withLink (({ s.link with
        tx := .sending, txBytes := encodeNotice (s.noticeFor head), txStart := s.time } :
          NoticeLink).seeEdge
          s.time (.start Config.leader))
    else s)

/-- The attempt in progress has run for `ticks` at the moment `time`. -/
def NoticeLink.sentFor (l : NoticeLink) (time ticks : Nat) : Bool :=
  decide (l.txStart + ticks ≤ time)

/-- The ticks to the middle of the first bit that a station sends as 1, the third of the leader
0x5C with its start bit: no readback mismatch comes before it (R100, R101, R108). -/
def firstReadback : Nat := 5 * Config.ticksPerBit / 2

/-- The ticks that the frame being sent takes, ten bit times a byte (R100, R101). -/
def NoticeLink.frameTicks (l : NoticeLink) : Nat := 10 * Config.ticksPerBit * l.txBytes.length

/-- The frame is a VERDICT marked withdrawn. -/
def QueuedFrame.isWithdrawn : QueuedFrame → Bool
  | .present => false
  | .verdict v => v.withdrawn

/-- READBACK_MISMATCH: the attempt ends failed and the count rises; at 8 the frame is dropped and
a VERDICT's drop reported; a withdrawn VERDICT leaves without a second report; otherwise the
transmitter is WAITING with the next gap (R105, R108, R109). It comes at a bit sent as 1, not
before the first one. -/
def execReadbackMismatch (t : Nat) (s : State) : Host.Outcome State Fault Refusal :=
  let s := s.elapse t
  .next (match s.link.queue with
  | [] => s
  | head :: _ =>
    if s.link.tx == .sending && s.link.sentFor s.time firstReadback then
      if head.isWithdrawn then s.withLink (s.link.popHead.leaveByte s.time)
      else if s.link.attempts + 1 ≥ 8 then
        (s.reportFrame head).withLink (s.link.popHead.leaveByte s.time)
      else s.withLink (({ s.link with
        attempts := s.link.attempts + 1, txBytes := [], tx := .waiting } : NoticeLink).leaveByte
          s.time)
    else s)

/-- The line at the end of a frame that this station has sent whole, at tick `fin`: its last stop
bit has ended, and the line has been high at least from there on, until the next edge (R109). -/
def NoticeLink.seeFrameEnd (l : NoticeLink) (fin : Nat) : NoticeLink :=
  { l with lastStop := max l.lastStop fin, highFrom := some (l.highFrom.getD fin) }

/-- ATTEMPT_SUCCESS: the stop bit of the check byte has been sent; the frame leaves the queue, the
attempt count returns to 0, idle time counts from the end of the frame, and the receiver's frame is
the station's own (R109, R113). -/
def execAttemptSuccess (t : Nat) (s : State) : Host.Outcome State Fault Refusal :=
  let s := s.elapse t
  .next (if s.link.tx == .sending && !s.link.queue.isEmpty &&
      s.link.sentFor s.time s.link.frameTicks then
    let fin := s.link.txStart + s.link.frameTicks
    s.withLink { (s.link.popHead.seeFrameEnd fin).leaveByte s.time with
      rxOwn := s.link.rx == .receiving || s.link.rx == .trailing }
  else s)

/-- PRESENT_PERIOD_EXPIRY: in RUN the controller hands the notice link a PRESENT and sets the next
expiry 60,000 ms later (R103, R185). -/
def execPresentPeriodExpiry (t : Nat) (s : State) : Host.Outcome State Fault Refusal :=
  let s := s.elapse t
  .next (match s.ctl.presentExpiry with
  | none => s
  | some e =>
    if s.ctl.state == .run && s.reached e then
      (s.withLink s.link.handPresent).withCtl
        { s.ctl with presentExpiry := some (e + msOf 60000) }
    else s)

end Sys2Proof.Machine
end

