-- ==== Sys2Proof/Machine/Contexts.lean ====
section
/-! DEFINITION. The correlation unit (ch. 8): opening a context, anchoring, the own verdict, the
locus, the close and the early close; with the commands CORRELATION_TAKES_REFRESH and
CONTEXT_CLOSE. -/

namespace Sys2Proof.Machine

/-- `s` with context slot `k` as `c`. -/
def State.setContext (s : State) (k : Fin 4) (c : Option Context) : State :=
  s.withCorr { s.corr with slots := s.corr.slots.set k c }

/-- A change of the context in slot `k`, if it is OPEN. -/
def State.editContext (s : State) (k : Fin 4) (f : Context → Context) : State :=
  s.setContext k (s.corr.slots[k].map f)

/-- The lowest-numbered CLOSED context slot (R122). -/
def State.closedContext (s : State) : Option (Fin 4) :=
  (List.finRange 4).find? fun k => s.corr.slots[k].isNone

/-- The number of OPEN context slots (R141). -/
def State.openContexts (s : State) : Nat :=
  (List.finRange 4).countP fun k => s.corr.slots[k].isSome

/-- The pre-values for reference refresh `n`: those of entry n - 2, absent where the history does
not hold it (R123). -/
def State.preValues (s : State) (n : RefIndex) : Option PreValues :=
  (s.entry (n - 2)).map fun e => ⟨e.dValues, e.iValues, e.det⟩

/-- The context that an edge stamped `edge` opens (R122). -/
def State.newContext (s : State) (edge : Ms) : Context :=
  { edge := edge
    close := edge + msOf s.window
    ref := s.nextRefresh
    pre := s.preValues s.nextRefresh
    anchored := false
    own := none
    peers := []
    linked := 0
    unsent := false }

/-- The measurement of a SYMPATHETIC record at its creation: the values of the newest refresh
entry, 0 while the history is empty (R124). -/
def State.newestMeasure (s : State) : RecordMeasure :=
  match s.rms.history with
  | [] => measureOf (Vector.replicate 3 0) (Vector.replicate 3 0)
  | e :: _ => measureOf e.dValues e.dValues

/-- A SYMPATHETIC record as the correlation unit fills it (R124). Its CLIPPED and FREE_RUN follow
the newest refresh entry, and are clear while the history is empty: DESIGN CHOICE (log entry
26). -/
def State.sympatheticRecord (s : State) : Record :=
  { id := 0, isOpen := true, running := false, anchorOpen := false
    cls := .sympathetic, time := ⟨0, 0⟩, durationMs := 0, halfCycles := 0
    measure := s.newestMeasure
    onset := s.declared
    flags := { noFlags with
      clipped := s.rms.history.head?.elim false Refresh.anyClip
      freeRun := s.rms.history.head?.elim false Refresh.freeRun }
    verdict := none, locus := none, peers := [], wave := .absent .noSlot, link := 0 }

/-- The record with this id becomes the linked record of context `k`, and its anchor open is set
(R124, R125, R145). -/
def State.linkRecord (s : State) (k : Fin 4) (id : Nat) : State :=
  (s.editContext k fun c => { c with linked := id }).editRecord id fun r =>
    { r with anchorOpen := true }

/-- The SYMPATHETIC record of the context just opened in slot `k`: created, linked and captured,
or handed to the tally where the store has no room (R124). -/
def State.makeSympathetic (s : State) (k : Fin 4) (edge : Ms) (failed : Option (Fin 9)) : State :=
  if s.hasRoom then
    let id := s.store.nextId
    let s' := (s.addRecord s.sympatheticRecord edge).linkRecord k id
    s'.captureRequest id ((s.rms.history.head?.map Refresh.index).getD 0) failed
  else s.handToTally .sympathetic s.newestMeasure.residual s.newestMeasure.maximum 0

/-- The correlation unit takes a reported edge into CLOSED slot `k`: the context opens, and a
SYMPATHETIC record is made for it if the detector is in WATCH (R122, R124). -/
def State.openContext (s : State) (k : Fin 4) (edge : Ms) (failed : Option (Fin 9)) : State :=
  let s' := s.setContext k (some (s.newContext edge))
  if s'.det.mode = .watch then s'.makeSympathetic k edge failed else s'

/-- The linked record of a context is SYMPATHETIC with UPGRADED clear (R90, R126). -/
def State.upgradable (s : State) (c : Context) : Bool :=
  match s.recordOf c.linked with
  | none => false
  | some r => c.linked != 0 && r.cls == .sympathetic && !r.flags.upgraded

/-- The correlation unit takes the anchoring of a crossing at refresh `n` for context `k`: the
anchored flag is set, and with the own verdict still absent the reference refresh becomes n and
the pre-values are taken afresh. One taken after RESTART or HALT finds no context (R125). -/
def State.takeAnchoring (s : State) (k : Fin 4) (n : RefIndex) : State :=
  if s.corr.view != .run then s
  else
    s.editContext k fun c =>
      if c.own.isNone then { c with anchored := true, ref := n, pre := s.preValues n }
      else { c with anchored := true }

/-! The own verdict (R127 to R131). -/

/-- The during-value of `e` minus the pre-value, for each k (R128). -/
def deltas (pre during : Vector Nat 3) : Vector Int 3 :=
  Vector.ofFn fun k => (during[k] : Int) - (pre[k] : Int)

/-- The chosen k: the greatest |dU|, the lowest k of equals (R128). -/
def chosenK (dU : Vector Int 3) : Fin 3 :=
  if dU[0].natAbs < dU[1].natAbs then (if dU[1].natAbs < dU[2].natAbs then 2 else 1)
  else if dU[0].natAbs < dU[2].natAbs then 2 else 0

/-- The verdict and PRE_DISTURBED by the table of R129. -/
def verdictOf (pre : DetState) (dU dI : Int) (uBand iBand : Nat) : VerdictKind × Bool :=
  if pre ≠ .watch then (.indeterminate, true)
  else if dU.natAbs < uBand then (.indeterminate, false)
  else if dI.natAbs < iBand then (.upstream, false)
  else if (0 < dU ∧ dI < 0) ∨ (dU < 0 ∧ 0 < dI) then (.downstream, false)
  else (.upstream, false)

/-- The own verdict of a context from its during-values (R128, R129, R130); with the pre-values
absent it is INDETERMINATE with k = 1 and differences of 0 (R128). -/
def ownVerdict (c : Context) (during : Refresh) (uBand iBand : Nat) : OwnVerdict :=
  let origin : Origin := if c.anchored then .triggered else .sympathetic
  match c.pre with
  | none => ⟨.indeterminate, 0, 0, 0, false, origin⟩
  | some p =>
    let dU := deltas p.d during.dValues
    let dI := deltas p.i during.iValues
    let k := chosenK dU
    let v := verdictOf p.det dU[k] dI[k] uBand iBand
    ⟨v.1, k, dU[k], dI[k], v.2, origin⟩

/-- The VERDICT that the correlation unit hands the notice link (R131). -/
def State.verdictFrame (s : State) (c : Context) (o : OwnVerdict) : QueuedVerdict :=
  ⟨s.ctl.straps.level, o.verdict, o.k, o.origin, o.dU, o.dI, c.edge, c.linked, false⟩

/-- Minima and maxima of D1 to D3 over entries of the history. -/
def spanMeasure (es : List Refresh) : RecordMeasure :=
  match es with
  | [] => measureOf (Vector.replicate 3 0) (Vector.replicate 3 0)
  | e :: rest =>
    measureOf
      (Vector.ofFn fun k => rest.foldl (fun a x => min a x.dValues[k]) e.dValues[k])
      (Vector.ofFn fun k => rest.foldl (fun a x => max a x.dValues[k]) e.dValues[k])

/-- An unupgraded SYMPATHETIC record is rewritten from entries n, n + 1 and n + 2 (R131). CLIPPED
and FREE_RUN are written as those entries have them, so a flag set at the creation is cleared
where none of the three carries it: DESIGN CHOICE (log entry 25). -/
def rewriteSympathetic (es : List Refresh) (r : Record) : Record :=
  if r.cls = .sympathetic ∧ r.flags.upgraded = false then
    { r with
      measure := spanMeasure es
      flags := { r.flags with clipped := es.any Refresh.anyClip, freeRun := es.any Refresh.freeRun } }
  else r

/-- The own verdict of context `k` is due at refresh `m`: its slot is OPEN, the own verdict
absent and its reference refresh m - 2 (R127). -/
def State.verdictDue (s : State) (m : RefIndex) (k : Fin 4) : Bool :=
  match s.corr.slots[k] with
  | none => false
  | some c => c.own.isNone && c.ref == m - 2

/-- The own verdict of context `k` is computed from refresh `e`, set, handed to the notice link,
and written into a sympathetic record (R127 to R131). -/
def State.judgeContext (s : State) (e : Refresh) (k : Fin 4) : State :=
  match s.corr.slots[k] with
  | none => s
  | some c =>
    let o := ownVerdict c e s.uDeadband s.iDeadband
    let s1 := s.editContext k fun c => { c with own := some o }
    let s2 := s1.handVerdict (s1.verdictFrame c o)
    if c.linked = 0 then s2
    else
      let es := [e.index - 2, e.index - 1].filterMap s.entry ++ [e]
      s2.editRecord c.linked (rewriteSympathetic es)

/-- The edge time of the context in slot `k`. -/
def State.edgeOf (s : State) (k : Fin 4) : Ms := s.corr.slots[k].elim 0 Context.edge

/-- A slot placed among slots in order of edge time, the oldest mark first (log entry 14), behind one
of the same edge time (log entry 24). -/
def State.insertByEdge (s : State) (k : Fin 4) : List (Fin 4) → List (Fin 4)
  | [] => [k]
  | j :: rest =>
    if isBefore (s.edgeOf k) (s.edgeOf j) then k :: j :: rest else j :: s.insertByEdge k rest

/-- The contexts whose own verdict is due at refresh `m`, the oldest mark first (log entry 14). -/
def State.dueContexts (s : State) (m : RefIndex) : List (Fin 4) :=
  ((List.finRange 4).filter (s.verdictDue m)).foldl (fun acc k => s.insertByEdge k acc) []

/-- The correlation unit takes the oldest refresh handed to it and computes the own verdict of
every OPEN context whose reference refresh lies two before it (R127). -/
def State.correlationTakes (s : State) : State :=
  match s.corr.handed with
  | [] => s
  | e :: rest =>
    let s' := s.withCorr { s.corr with handed := rest }
    (s'.dueContexts e.index).foldl (fun st k => st.judgeContext e k) s'

/-- CORRELATION_TAKES_REFRESH (R127). -/
def execCorrelationTakesRefresh (t : Nat) (s : State) : Host.Outcome State Fault Refusal :=
  .next (s.elapse t).correlationTakes

/-! The locus (R135, R136). -/

/-- A reporter of a context: its verdict, level and address (R135). -/
structure Reporter where
  verdict : VerdictKind
  level : Nat
  addr : Nat
  deriving DecidableEq, Repr

/-- The reporters: the station itself where the context holds its own verdict, and the sender of
every peer verdict entry (R135). -/
def reporters (straps : Straps) (c : Context) : List Reporter :=
  (match c.own with
    | none => []
    | some o => [⟨o.verdict, straps.level.val, straps.addr.val⟩]) ++
  c.peers.map fun p => ⟨p.verdict, p.level.val, p.addr.val⟩

/-- The greatest of a list of numbers, 0 for none. -/
def greatestOf (xs : List Nat) : Nat := xs.foldl max 0

/-- The least of a list of numbers, 0 for none. -/
def leastOf (xs : List Nat) : Nat :=
  match xs with
  | [] => 0
  | x :: rest => rest.foldl min x

/-- Kind, boundary level, boundary address and AMBIGUOUS by the table of R135. -/
def locusOf (rs : List Reporter) : LocusKind × Nat × Nat × Bool :=
  let ds := rs.filter fun r => r.verdict == .downstream
  if ds ≠ [] then
    let level := greatestOf (ds.map Reporter.level)
    let at' := ds.filter fun r => r.level == level
    (.below, level, leastOf (at'.map Reporter.addr), decide (1 < at'.length))
  else if rs.any fun r => r.verdict == .upstream then
    let level := leastOf (rs.map Reporter.level)
    (.above, level, leastOf ((rs.filter fun r => r.level == level).map Reporter.addr), false)
  else (.unknown, 0, 0, false)

/-- The silent peers: PRESENT entries of the peer table whose address has no entry in the peer
verdict list (R136). -/
def silentPeers (table : Vector Peer 16) (list : List PeerVerdict) : Nat :=
  (List.finRange 16).countP fun p => table[p].present && !(list.any fun v => v.addr == p)

/-- The locus block of a context at its close (R136). -/
def State.locusBlock (s : State) (c : Context) : Locus :=
  let rs := reporters s.ctl.straps c
  let l := locusOf rs
  ⟨l.1, l.2.1, l.2.2.1, l.2.2.2, rs.length, silentPeers s.link.peers c.peers⟩

/-- The results of a context copied into its linked record: with `blocks`, the verdict block with
PRE_DISTURBED where there is an own verdict, and the locus block; always the peer verdict list
and UNSENT (R136, R138). -/
def State.copyResults (s : State) (c : Context) (blocks : Bool) (r : Record) : Record :=
  let r1 := { r with
    peers := c.peers, flags := { r.flags with unsent := r.flags.unsent || c.unsent } }
  if blocks then
    let r2 := { r1 with locus := some (s.locusBlock c) }
    match c.own with
    | none => r2
    | some o => { r2 with
      verdict := some ⟨o.verdict, o.k, o.dU, o.dI⟩
      flags := { r2.flags with preDisturbed := o.preDisturbed } }
  else r1

/-- The slot becomes CLOSED, and with a linked record the close of its anchor context is reported
to the store (R134 steps 4 and 5, R138). -/
def State.freeContext (s : State) (k : Fin 4) (linked : Nat) : State :=
  let s' := s.setContext k none
  if linked = 0 then s'
  else (s'.editRecord linked fun r => { r with anchorOpen := false }).judge linked

/-- The close of context `c` in slot `k` at its window's expiry, after the notice link has taken
the expiry (R134 steps 2 to 5). -/
def State.closeContext (s : State) (k : Fin 4) (c : Context) : State :=
  let s' := if c.linked = 0 then s else s.editRecord c.linked (s.copyResults c true)
  s'.freeContext k c.linked

/-- CONTEXT_CLOSE: the collection window of the context in slot `k` expires and it closes
(R134). -/
def execContextClose (t : Nat) (k : Fin 4) (s : State) : Host.Outcome State Fault Refusal :=
  let s := s.elapse t
  .next (match s.corr.slots[k] with
  | none => s
  | some c =>
    if s.reached c.close then
      let s1 := s.windowExpiry c.edge
      match s1.corr.slots[k] with
      | none => s1
      | some c' => s1.closeContext k c'
    else s)

/-- The copy at an early close: with an own verdict all four blocks unless the record is already
ABORTED; without one the record is made ABORTED and the blocks stay absent (R138). -/
def State.earlyCopy (s : State) (c : Context) (r : Record) : Record :=
  if c.own.isSome then s.copyResults c (!r.flags.aborted) r
  else
    let r' := s.copyResults c false r
    { r' with flags := { r'.flags with aborted := true } }

/-- The early close of the context in slot `k` (R138). -/
def State.earlyClose (s : State) (k : Fin 4) : State :=
  match s.corr.slots[k] with
  | none => s
  | some c =>
    let s' := if c.linked = 0 then s else s.editRecord c.linked (s.earlyCopy c)
    s'.freeContext k c.linked

/-- The correlation unit takes RESTART or HALT: every OPEN context is closed early (R138). -/
def State.corrTakesStop (s : State) (view : StationState) : State :=
  let s' := s.withCorr { s.corr with view := view }
  (List.finRange 4).foldl State.earlyClose s'

end Sys2Proof.Machine
end

