-- ==== Sys2Proof/Machine/MarkLine.lean ====
section
/-! DEFINITION. The mark line interface (ch. 6): edges, the anchor request, the own pulse, the
stuck line; with the commands MARK_FALLING_EDGE, MARK_RELEASE, PULSE_END, STUCK_EXPIRY and
RECOVERY_EXPIRY. -/

namespace Sys2Proof.Machine

/-- A falling edge stamped `now` (R87 steps 1 to 3). -/
def MarkLine.falling (m : MarkLine) (now : Ms) : MarkLine :=
  { m with
    asserted := true, lastEdge := some now, stuckExpiry := some (now + msOf 51)
    recoveryExpiry := none }

/-- A falling edge now is reported: the interface takes the station to be in RUN, and the stamp
differs from the last edge time that it replaces (R87, R88). After a LINK_RESET there is no last
edge time (R98), so an edge in the millisecond of one reported before it is reported again:
DESIGN CHOICE (log entry 24). -/
def State.edgeReported (s : State) : Bool :=
  s.mark.view == .run && s.mark.lastEdge != some s.now

/-- The context slot that a falling edge now opens: the lowest CLOSED one, if the edge is
reported and the correlation unit takes reports (R87, R122). -/
def State.edgeOpens (s : State) : Option (Fin 4) :=
  if s.edgeReported && s.corr.view == .run then s.closedContext else none

/-- The interface takes a falling edge now, and the correlation unit its report (R87, R122). -/
def State.takeFallingEdge (s : State) (failed : Option (Fin 9)) : State :=
  let s' := s.withMark (s.mark.falling s.now)
  match s.edgeOpens with
  | none => s'
  | some k => s'.openContext k s.now failed

/-- MARK_FALLING_EDGE: MARK falls under another station's drive (R87). -/
def execMarkFallingEdge (t : Nat) (failed : Option (Fin 9)) (s : State) :
    Host.Outcome State Fault Refusal :=
  let s := s.elapse t
  .next (if s.mark.asserted then s else s.takeFallingEdge failed)

/-- MARK_RELEASE: MARK returns high; the stuck expiry is cleared, and a STUCK interface sets its
recovery expiry 1000 ms on (R87, R96). The line cannot rise while this station drives it. -/
def execMarkRelease (t : Nat) (s : State) : Host.Outcome State Fault Refusal :=
  let s := s.elapse t
  .next (if s.mark.asserted && !s.mark.drive then
    s.withMark { s.mark with
      asserted := false, stuckExpiry := none
      recoveryExpiry := if s.mark.stuck then some (s.now + msOf 1000) else s.mark.recoveryExpiry }
  else s)

/-- PULSE_END: the pulse end time is reached and the drive turns OFF (R93). -/
def execPulseEnd (t : Nat) (s : State) : Host.Outcome State Fault Refusal :=
  let s := s.elapse t
  .next (if s.due s.mark.pulseEnd then
    s.withMark { s.mark with drive := false, pulseEnd := none }
  else s)

/-- STUCK_EXPIRY: the line is still ASSERTED at the stuck expiry; the interface is STUCK and
MARK_STUCK is raised (R94). -/
def execStuckExpiry (t : Nat) (s : State) : Host.Outcome State Fault Refusal :=
  let s := s.elapse t
  .next (if s.mark.asserted && s.due s.mark.stuckExpiry then
    (s.withMark { s.mark with stuckExpiry := none, stuck := true }).raise .markStuck 0
  else s)

/-- RECOVERY_EXPIRY: the line has stayed RELEASED to the recovery expiry; the interface returns to
NORMAL, and no cause is raised (R96). -/
def execRecoveryExpiry (t : Nat) (s : State) : Host.Outcome State Fault Refusal :=
  let s := s.elapse t
  .next (if s.mark.stuck && !s.mark.asserted && s.due s.mark.recoveryExpiry then
    s.withMark { s.mark with recoveryExpiry := none, stuck := false }
  else s)

/-! The anchor request (R90 to R92). -/

/-- Context `c` is a candidate for a crossing at time `tn`: not anchored, without a linked record
or with an unupgraded SYMPATHETIC one, and its edge within MARK_JOIN of the crossing or holding
the line (R90). -/
def State.isCandidate (s : State) (tn : Ms) (c : Context) : Bool :=
  !c.anchored && (c.linked == 0 || s.upgradable c) &&
  (atOrAfter c.edge (tn - msOf s.markJoin) ||
    (s.mark.asserted && s.mark.lastEdge == some c.edge))

/-- The slots of the candidate contexts (R90). -/
def State.candidates (s : State) (tn : Ms) : List (Fin 4) :=
  (List.finRange 4).filter fun k => s.corr.slots[k].any (s.isCandidate tn)

/-- The slot whose context has the latest edge time (R90). R90 has no two candidates share it; where
two do all the same, by the reading of R98 after a LINK_RESET, the lower slot is taken: DESIGN
CHOICE (log entry 24). -/
def State.latestOf (s : State) : List (Fin 4) → Option (Fin 4)
  | [] => none
  | k :: rest =>
    match s.latestOf rest with
    | none => some k
    | some j => if isBefore (s.edgeOf k) (s.edgeOf j) then some j else some k

/-- The answer to an anchor request: none, a context, or a pulse (R90). -/
inductive AnchorAnswer
  | none
  | context (k : Fin 4)
  | pulse
  deriving DecidableEq, Repr

/-- The answer by the first row of R90's table that applies. -/
def State.anchorAnswer (s : State) (tn : Ms) : AnchorAnswer :=
  if s.mark.view ≠ .run then .none
  else if s.mark.stuck then .none
  else
    match s.latestOf (s.candidates tn) with
    | some k => .context k
    | none => if s.mark.asserted then .none else .pulse

/-- The drive turns ON for a pulse of 2 ms (R91). -/
def State.drivePulse (s : State) : State :=
  s.withMark { s.mark with drive := true, pulseEnd := some (s.now + msOf 2) }

/-- The context the event is anchored to, if any: the answer's, or the one the station's own edge
opens (R90, R91). -/
def State.anchorOf (s : State) (tn : Ms) : Option (Fin 4) :=
  match s.anchorAnswer tn with
  | .none => none
  | .context k => some k
  | .pulse => s.edgeOpens

/-- What the request leaves: with a pulse the drive is ON and the own edge has been taken; the
detector is in EVENT, so no sympathetic record is made (R91). -/
def State.afterAnchor (s : State) (tn : Ms) : State :=
  match s.anchorAnswer tn with
  | .none | .context _ => s
  | .pulse => s.drivePulse.takeFallingEdge none

/-- The interface takes HALT: the drive is OFF and the pulse end time none (R97, R98). -/
def State.markTakesHalt (s : State) : State :=
  s.withMark { s.mark with drive := false, pulseEnd := none, view := .halted }

/-- The interface takes RESTART or LINK_RESET: the drive is OFF, the state NORMAL, and the line is
read afresh (R98). `keepEdge`: the last edge time is kept (RESTART). -/
def State.markTakesReset (s : State) (low keepEdge : Bool) (view : StationState) : State :=
  s.withMark
    { asserted := low
      drive := false
      pulseEnd := none
      lastEdge := if keepEdge then s.mark.lastEdge else none
      stuckExpiry := if low then some (s.now + msOf 51) else none
      recoveryExpiry := none
      stuck := false
      view := view }

end Sys2Proof.Machine
end

