-- ==== Sys2Proof/Machine/Detection.lean ====
section
/-! DEFINITION. The disturbance detector (ch. 4): judging a refresh, the crossing with its anchor
and record, measuring, the end, MAX_OPEN, the held period and the abort; with the commands
DETECTOR_TAKES_REFRESH and MAX_OPEN_EXPIRY. -/

namespace Sys2Proof.Machine

/-- The reference tracker has not yet taken refresh `m` (R39). -/
def State.trackerBehind (s : State) (m : RefIndex) : Bool :=
  s.ref.handed.any fun e => e.index == m

/-- The threshold set in force for refresh `m` of Dk: the following set while the tracker has not
taken m, the set in force once it has (R39, R44). -/
def State.setFor (s : State) (m : RefIndex) (k : Fin 3) : Thresholds :=
  if s.trackerBehind m then s.ref.d[k].following else s.ref.d[k].inForce

/-- The condition after a refresh with value `u`, by the table of R46. -/
def judgeCond (th : Thresholds) (u : Nat) (c : Cond) : Cond :=
  if u < th.dipStart then .outLow
  else if th.swellStart < u then .outHigh
  else if th.dipEnd ≤ u ∧ u ≤ th.swellEnd then .back
  else c

/-- The three conditions after refresh `e` (R46). -/
def State.judgeConds (s : State) (e : Refresh) : Vector Cond 3 :=
  Vector.ofFn fun k => judgeCond (s.setFor e.index k) e.value[dIndex k] s.det.cond[k]

/-- Some condition is `c`. -/
def someCond (conds : Vector Cond 3) (c : Cond) : Bool :=
  (List.finRange 3).any fun k => conds[k] == c

/-- All three conditions are BACK. -/
def isAllBack (conds : Vector Cond 3) : Bool := (List.finRange 3).all fun k => conds[k] == .back

/-- All three quantities lie below their interruption start at refresh `e` (R52). -/
def State.interrupted (s : State) (e : Refresh) : Bool :=
  (List.finRange 3).all fun k => decide (e.value[dIndex k] < (s.setFor e.index k).intStart)

/-- The R in force for refresh `e` of the lowest-numbered quantity that is out (R47 step 3). -/
def State.onsetRef (s : State) (e : Refresh) (conds : Vector Cond 3) : Nat :=
  match (List.finRange 3).find? fun k => conds[k] != .back with
  | none => 0
  | some k => (s.setFor e.index k).ref

/-- The measurement begun with the crossing refresh (R47 step 2). -/
def State.beginMeasure (s : State) (e : Refresh) (conds : Vector Cond 3) : Measurement :=
  { crossing := e.index, time := e.stamp, last := e.index
    dmin := e.dValues, dmax := e.dValues
    low := someCond conds .outLow, high := someCond conds .outHigh
    int := s.interrupted e, clip := e.anyClip, freeRun := e.freeRun
    onset := s.onsetRef e conds }

/-- The measurement updated at a measured refresh (R51, R52, R53). -/
def State.updateMeasure (s : State) (m : Measurement) (e : Refresh) (conds : Vector Cond 3) :
    Measurement :=
  { m with
    last := e.index
    dmin := Vector.ofFn fun k => min m.dmin[k] e.dValues[k]
    dmax := Vector.ofFn fun k => max m.dmax[k] e.dValues[k]
    low := m.low || someCond conds .outLow
    high := m.high || someCond conds .outHigh
    int := m.int || s.interrupted e
    clip := m.clip || e.anyClip
    freeRun := m.freeRun || e.freeRun }

/-- The residual, maximum and six extremes of a measurement. -/
def Measurement.measure (m : Measurement) : RecordMeasure := measureOf m.dmin m.dmax

/-- The class by the table of R55. -/
def Measurement.cls (m : Measurement) : RecordClass :=
  if m.int then .interruption else if m.low then .dip else .swell

/-- The measured refreshes n to l in half-cycles, l - n + 1 (R56). -/
def Measurement.halves (m : Measurement) : Nat := saturate32 ((m.last - m.crossing).toNat + 1)

/-- The detector writes the measurement into a record: extremes, residual, maximum, CLIPPED,
FREE_RUN and MIXED (R51 to R53). -/
def writeMeasure (m : Measurement) (r : Record) : Record :=
  { r with
    measure := m.measure
    flags := { r.flags with clipped := m.clip, freeRun := m.freeRun, mixed := m.low && m.high } }

/-- A new event record as the detector fills it (R49); MIXED stands where the crossing itself
finds both directions (R52; log entry 13). -/
def eventRecord (m : Measurement) (unanchored : Bool) : Record :=
  { id := 0, isOpen := true, running := true, anchorOpen := false
    cls := if m.low then .dip else .swell
    time := ⟨0, 0⟩, durationMs := 0, halfCycles := 0
    measure := m.measure
    onset := m.onset
    flags := { noFlags with
      clipped := m.clip, freeRun := m.freeRun, mixed := m.low && m.high, unanchored := unanchored }
    verdict := none, locus := none, peers := [], wave := .absent .noSlot, link := 0 }

/-- The detector obtains a new event record for the crossing measured by `m`, which the unit links
to context `anchor` if there is one; with no room the event runs without a record (R48, R49,
R50). -/
def State.obtainRecord (s : State) (m : Measurement) (expiry : Ms) (anchor : Option (Fin 4))
    (unanchored : Bool) (failed : Option (Fin 9)) : State :=
  if s.hasRoom then
    let id := s.store.nextId
    let s1 := s.addRecord (eventRecord m unanchored) m.time
    let s2 := match anchor with
      | none => s1
      | some k => s1.linkRecord k id
    let s3 := s2.withDet { s2.det with mode := .event m id expiry }
    s3.captureRequest id m.crossing failed
  else s

/-- The crossing upgrades the SYMPATHETIC record `id`, which becomes the event record (R48,
R126). -/
def State.upgradeRecord (s : State) (m : Measurement) (expiry : Ms) (id : Nat) : State :=
  let s' := s.editRecord id fun r =>
    writeMeasure m { r with
      running := true, onset := m.onset, flags := { r.flags with upgraded := true } }
  s'.withDet { s'.det with mode := .event m id expiry }

/-- The event whose detector state and measurement stand is anchored, and gets its record: an
upgrade where the anchor context is linked to an unupgraded SYMPATHETIC record, else a new
record (R48, R125). `between` is what comes between the answer to the anchor request and the
anchoring: at a stop the correlation unit may take it there, and the anchoring then finds its
context closed and links no record (R125; log entry 3). -/
def State.anchorEvent (s : State) (m : Measurement) (expiry : Ms) (failed : Option (Fin 9))
    (between : State → State) : State :=
  let s1 := between (s.afterAnchor m.time)
  match s.anchorOf m.time with
  | none => s1.obtainRecord m expiry none true failed
  | some k =>
    if s1.corr.view != .run then s1.obtainRecord m expiry none false failed
    else
      let s2 := s1.takeAnchoring k m.crossing
      match s2.corr.slots[k] with
      | none => s2.obtainRecord m expiry none false failed
      | some c =>
        if s2.upgradable c then s2.upgradeRecord m expiry c.linked
        else s2.obtainRecord m expiry (some k) false failed

/-- The crossing at refresh `e` (R47, R48). -/
def State.takeCrossing (s : State) (e : Refresh) (conds : Vector Cond 3)
    (failed : Option (Fin 9)) (between : State → State) : State :=
  let m := s.beginMeasure e conds
  let expiry := e.stamp + msOf (1000 * s.maxOpen)
  let s' := s.withDet { s.det with mode := .event m 0 expiry, cond := conds }
  s'.anchorEvent m expiry failed between

/-- The event of measurement `m` is finished: its duration, class and flags are written into the
record `id`, whose running flag is cleared, and the store judges it; without a record the
measurement goes to the tally (R50, R54, R58, R63, R147). -/
def State.finishEvent (s : State) (m : Measurement) (id halves durationMs : Nat)
    (ongoing aborted : Bool) : State :=
  if id = 0 then
    s.handToTally m.cls m.measure.residual m.measure.maximum (saturate32 durationMs)
  else
    (s.editRecord id fun r => { r with
      durationMs := saturate32 durationMs, halfCycles := halves, cls := m.cls, running := false
      flags := { r.flags with
        ongoing := r.flags.ongoing || ongoing, aborted := r.flags.aborted || aborted } }).judge id

/-- The detector reports an end to the reference tracker (R36). -/
def State.reportEnd (s : State) : State :=
  s.withRef { s.ref with endReports := s.ref.endReports + 1 }

/-- The detector is in WATCH with every condition BACK and no measurement. -/
def State.toWatch (s : State) : State := s.withDet { s.det with mode := .watch, cond := allBack }

/-- Refresh `e` ends the event (R54). -/
def State.endEvent (s : State) (m : Measurement) (id : Nat) (e : Refresh) : State :=
  ((s.finishEvent m id (saturate32 (e.index - m.crossing).toNat) (e.stamp - m.time).toNat
    false false).reportEnd).toWatch

/-- A measured refresh of the event (R51). -/
def State.measureEvent (s : State) (m : Measurement) (id : Nat) (expiry : Ms) (e : Refresh)
    (conds : Vector Cond 3) : State :=
  let m' := s.updateMeasure m e conds
  let s' := s.withDet { s.det with mode := .event m' id expiry, cond := conds }
  if id = 0 then s' else s'.editRecord id (writeMeasure m')

/-- A CONTINUATION record as the detector fills it (R61, R64). -/
def continuationRecord (m : Measurement) (link halves durationMs : Nat) (aborted : Bool) : Record :=
  { id := 0, isOpen := true, running := false, anchorOpen := false
    cls := .continuation
    time := ⟨0, 0⟩, durationMs := saturate32 durationMs, halfCycles := halves
    measure := m.measure
    onset := m.onset
    flags := { noFlags with
      mixed := m.low && m.high, clipped := m.clip, freeRun := m.freeRun, aborted := aborted }
    verdict := none, locus := none, peers := [], wave := .absent .captureOff, link := link }

/-- The return at refresh `e`: the CONTINUATION is made and captured, or counted by the tally; the
end is reported and the detector is in WATCH (R60, R61, R62, R150). -/
def State.takeReturn (s : State) (m : Measurement) (ongoingId : Nat) (e : Refresh)
    (failed : Option (Fin 9)) : State :=
  let halves := saturate32 (e.index - m.crossing).toNat
  let durationMs := (e.stamp - m.time).toNat
  let s' :=
    if s.hasRoom then
      let id := s.store.nextId
      ((s.addRecord (continuationRecord m ongoingId halves durationMs false) e.stamp).captureRequest
        id e.index failed).judge id
    else
      s.handToTally .continuation m.measure.residual m.measure.maximum (saturate32 durationMs)
  s'.reportEnd.toWatch

/-- A measured refresh of the held period: no record is written (R59). -/
def State.measureHeld (s : State) (m : Measurement) (ongoingId : Nat) (e : Refresh)
    (conds : Vector Cond 3) : State :=
  s.withDet { s.det with mode := .held (s.updateMeasure m e conds) ongoingId, cond := conds }

/-- What the detector does with refresh `e`, taken in RUN, by its state (R45). -/
def State.judgeRefresh (s : State) (e : Refresh) (failed : Option (Fin 9))
    (between : State → State) : State :=
  let conds := s.judgeConds e
  match s.det.mode with
  | .watch =>
    if isAllBack conds then s.withDet { s.det with cond := conds }
    else s.takeCrossing e conds failed between
  | .event m id expiry =>
    if isAllBack conds then s.endEvent m id e else s.measureEvent m id expiry e conds
  | .held m ongoingId =>
    if isAllBack conds then s.takeReturn m ongoingId e failed else s.measureHeld m ongoingId e conds

/-- The detector takes the oldest refresh handed to it; outside RUN it does nothing with it (R45).
`between` comes between the answer to the anchor request and the anchoring (R125). -/
def State.detectorTakes (s : State) (failed : Option (Fin 9)) (between : State → State) : State :=
  match s.det.handed with
  | [] => s
  | e :: rest =>
    let s' := s.withDet { s.det with handed := rest }
    if s'.ctl.state = .run then s'.judgeRefresh e failed between else s'

/-- DETECTOR_TAKES_REFRESH (R45). -/
def execDetectorTakesRefresh (t : Nat) (failed : Option (Fin 9)) (s : State) :
    Host.Outcome State Fault Refusal :=
  .next ((s.elapse t).detectorTakes failed id)

/-- MAX_OPEN_EXPIRY: the record is finished ONGOING, the end is reported and the detector enters
HELD with the conditions as they stand (R58). -/
def execMaxOpenExpiry (t : Nat) (s : State) : Host.Outcome State Fault Refusal :=
  let s := s.elapse t
  .next (match s.det.mode with
  | .watch | .held _ _ => s
  | .event m id expiry =>
    if s.reached expiry then
      let s1 := (s.finishEvent m id m.halves (1000 * s.maxOpen) true false).reportEnd
      s1.withDet { s1.det with mode := .held m id }
    else s)

/-- The detector takes RESTART or HALT: an event in progress is finished ABORTED, a held period
makes an ABORTED CONTINUATION without a capture, and the detector is in WATCH; no end is
reported (R63, R64). -/
def State.detTakesStop (s : State) : State :=
  match s.det.mode with
  | .watch => s.toWatch
  | .event m id _ =>
    (s.finishEvent m id m.halves (s.now - m.time).toNat false true).toWatch
  | .held m ongoingId =>
    let durationMs := (s.now - m.time).toNat
    let s' :=
      if s.hasRoom then
        (s.addRecord (continuationRecord m ongoingId m.halves durationMs true) s.now).judge
          s.store.nextId
      else
        s.handToTally .continuation m.measure.residual m.measure.maximum (saturate32 durationMs)
    s'.toWatch

end Sys2Proof.Machine
end

