-- ==== Sys2Proof/Machine/Intervals.lean ====
section
/-! DEFINITION. The interval aggregator (ch. 10): boundaries, accumulating, the entry and the
ring; with the commands AGGREGATOR_TAKES_REFRESH and INTERVAL_BOUNDARY. -/

namespace Sys2Proof.Machine

/-- The whole seconds from station second `sec` to the next boundary: to the next multiple of 600,
or to the wrap of station seconds where that comes first (R158). -/
def secondsToBoundary (sec : Nat) : Nat := min (600 - sec % 600) (2 ^ 32 - sec)

/-- An interval begun at station second `sec` and elapsed time `elapsed`, with cleared
accumulators and its next boundary as a local clock value (R158, R159). -/
def beginInterval (startTime : Ms) (sec : Nat) (elapsed : Ms) (atStart : Bool) : Interval :=
  { start := ⟨sec, 0⟩
    elapsed := elapsed
    atStart := atStart
    boundary := startTime + elapsed + msOf (1000 * secondsToBoundary sec)
    acc := accClear }

/-- The quantities whose squares are summed: D1, D2, D3, U4, I1, I2, I3, I4 (R160). -/
def sumQuantity (j : Fin 8) : Fin 11 :=
  if j.val < 3 then ⟨8 + j.val % 3, by omega⟩
  else if j.val = 3 then 3 else ⟨j.val, by omega⟩

/-- The quantities with minimum and maximum: D1, D2, D3, U4 (R160). -/
def extremeQuantity (j : Fin 4) : Fin 11 := sumQuantity ⟨j.val, by omega⟩

/-- A refresh is taken into the interval (R160). -/
def Accumulators.take (a : Accumulators) (e : Refresh) : Accumulators :=
  { a with
    sums := Vector.ofFn fun j => a.sums[j] + e.value[sumQuantity j] * e.value[sumQuantity j]
    dmin := Vector.ofFn fun j => some (lesserOf a.dmin[j] e.value[extremeQuantity j])
    dmax := Vector.ofFn fun j => some (greaterOf a.dmax[j] e.value[extremeQuantity j])
    count := a.count + 1
    flagged := a.flagged || (e.det != .watch)
    freeRun := a.freeRun || e.freeRun
    clip := a.clip || e.anyClip }

/-- The aggregator takes the oldest refresh handed to it; in RUN with an interval open it is taken
into the interval (R160). -/
def State.aggregatorTakes (s : State) : State :=
  match s.agg.handed with
  | [] => s
  | e :: rest =>
    let cur := s.agg.cur.map fun i =>
      if s.ctl.state = .run then { i with acc := i.acc.take e } else i
    s.withAgg { s.agg with handed := rest, cur := cur }

/-- AGGREGATOR_TAKES_REFRESH (R160). -/
def execAggregatorTakesRefresh (t : Nat) (s : State) : Host.Outcome State Fault Refusal :=
  .next (s.elapse t).aggregatorTakes

/-- The tracker hands over the frequency of a locked cycle: added where the aggregator takes it in
RUN with an interval open (R161). -/
def State.takeLockedCycle (s : State) (inRun : Bool) (freq : Nat) : State :=
  if inRun then
    s.withAgg { s.agg with
      cur := s.agg.cur.map fun i => { i with
        acc := { i.acc with freqSum := i.acc.freqSum + freq, locked := i.acc.locked + 1 } } }
  else s

/-- The entry of an interval of `length` seconds, by the table of R163: zeros where nothing was
taken. -/
def entryOf (i : Interval) (seq length : Nat) (isPartial : Bool) : IntervalEntry :=
  { seq := seq
    start := i.start
    length := length
    count := i.acc.count
    rms := Vector.ofFn fun j => if i.acc.count = 0 then 0 else isqrt (i.acc.sums[j] / i.acc.count)
    dmin := Vector.ofFn fun j => if i.acc.count = 0 then 0 else i.acc.dmin[j].getD 0
    dmax := Vector.ofFn fun j => if i.acc.count = 0 then 0 else i.acc.dmax[j].getD 0
    meanFreq := if i.acc.locked = 0 then 0 else i.acc.freqSum / i.acc.locked
    isPartial := isPartial
    flagged := i.acc.flagged
    freeRun := i.acc.freeRun
    clipped := i.acc.clip }

/-- An entry placed at the end of the ring; a 145th makes the oldest leave (R164). -/
def pushEntry (ring : List IntervalEntry) (e : IntervalEntry) : List IntervalEntry :=
  if ring.length < Config.ringSize then ring ++ [e] else ring.tail ++ [e]

/-- The current interval is written into the ring with the next sequence number, INTERVAL_DONE is
raised, and `next` is the current interval after (R162 to R164, R166). -/
def State.writeInterval (s : State) (i : Interval) (length : Nat) (isPartial : Bool)
    (next : Option Interval) : State :=
  (s.withAgg { s.agg with
    cur := next
    ring := pushEntry s.agg.ring (entryOf i s.agg.nextSeq length isPartial)
    nextSeq := (s.agg.nextSeq + 1) % 2 ^ 32 }).raise .intervalDone 0

/-- INTERVAL_BOUNDARY: the local clock reaches the next boundary; the entry is written and the
next interval begins at the boundary (R162). -/
def execIntervalBoundary (t : Nat) (s : State) : Host.Outcome State Fault Refusal :=
  let s := s.elapse t
  .next (match s.agg.cur with
  | none => s
  | some i =>
    if s.reached i.boundary then
      let length := secondsToBoundary i.start.sec
      let elapsed := i.elapsed + msOf (1000 * length)
      s.writeInterval i length (i.atStart || decide (length < 600))
        (some (beginInterval s.store.startTime ((i.start.sec + length) % 2 ^ 32) elapsed false))
    else s)

/-- The aggregator takes RESTART or HALT: the current interval is written PARTIAL with the whole
seconds it lasted, and no interval is open (R166). -/
def State.aggTakesStop (s : State) : State :=
  match s.agg.cur with
  | none => s
  | some i =>
    s.writeInterval i (((s.now - s.store.startTime) - i.elapsed).toNat / 1000) true none

end Sys2Proof.Machine
end

