-- ==== Sys2Proof/Machine/Tracker.lean ====
section
/-! DEFINITION. The reference tracker (ch. 3): moving the reference, the settle countdown, the two
threshold sets, seeding; with the commands TRACKER_TAKES_REFRESH and
TRACKER_TAKES_END_REPORT. -/

namespace Sys2Proof.Machine

/-- The reference R: the whole decivolts of Rf (R31). -/
def Reference.r (x : Reference) : Nat := x.rf / 65536

/-- The lower end of the band of Rf (R35). -/
def bandLow (declared : Nat) : Nat := declared * 850 / 1000 * 65536

/-- The upper end of the band of Rf (R35). -/
def bandHigh (declared : Nat) : Nat := declared * 1150 / 1000 * 65536

/-- One update of Rf towards value `u`: one 8192nd of the gap, truncated toward zero, clamped to
the band (R34, R35). -/
def movedRf (declared rf u : Nat) : Nat :=
  let diff : Int := (u : Int) * 65536 - (rf : Int)
  let step := diff.tdiv 8192
  (clampInt (bandLow declared) (bandHigh declared) ((rf : Int) + step)).toNat

/-- The last three of the four conditions of R33 for a refresh with detector state `det` and
value `u`: WATCH, countdown 0, and within the motion band. -/
def Reference.mayMove (x : Reference) (det : DetState) (u band : Nat) : Bool :=
  det == .watch && x.settle == 0 && decide (((u : Int) - (x.r : Int)).natAbs ≤ band)

/-- The settle countdown after a refresh taken in RUN under SLIDING (R37). -/
def countedDown (det : DetState) (settle : Nat) : Nat :=
  if det = .watch then settle - 1 else settle

/-- Dk's reference after a refresh taken in RUN under SLIDING, the following set already brought
into force: the update, the countdown, and a new following set where R has changed (R33 to R39). -/
def State.slideReference (s : State) (x : Reference) (det : DetState) (u : Nat) : Reference :=
  let rf := if x.mayMove det u s.motionBand then movedRf s.declared x.rf u else x.rf
  { x with
    rf := rf
    settle := countedDown det x.settle
    following :=
      if rf / 65536 = x.r then x.following else thresholdsFrom s.ctl.items (rf / 65536) }

/-- The tracker takes the oldest refresh handed to it. In RUN the following sets come into force,
and under SLIDING the references may move (R32, R33, R37, R39); in CONFIG and HALTED both sets stay
as they stood (R32, R42, R187). Where R has changed at the last refresh taken before HALT, the
following set is not the one in force, and R32's text would have a refresh taken in HALTED bring it
into force: DESIGN CHOICE (log entry 23), frozen as R32's table, R42 and R187 have it. -/
def State.trackerTakes (s : State) : State :=
  match s.ref.handed with
  | [] => s
  | e :: rest =>
    s.withRef { s.ref with
      handed := rest
      d := Vector.ofFn fun k =>
        let x := { s.ref.d[k] with inForce := s.ref.d[k].following }
        if s.ctl.state ≠ .run then s.ref.d[k]
        else if s.sliding then s.slideReference x e.det e.value[dIndex k]
        else x }

/-- TRACKER_TAKES_REFRESH (R33). -/
def execTrackerTakesRefresh (t : Nat) (s : State) : Host.Outcome State Fault Refusal :=
  .next (s.elapse t).trackerTakes

/-- The tracker takes one report of an end; under SLIDING every settle countdown is loaded with
100, under FIXED none is (R31, R36). Outside RUN the report is taken without effect (R42; log
entry 12). -/
def State.trackerTakesReport (s : State) : State :=
  if s.ref.endReports = 0 then s
  else
    s.withRef { s.ref with
      endReports := s.ref.endReports - 1
      d := Vector.ofFn fun k =>
        if s.ctl.state = .run ∧ s.sliding = true then { s.ref.d[k] with settle := 100 }
        else s.ref.d[k] }

/-- TRACKER_TAKES_END_REPORT (R36). -/
def execTrackerTakesEndReport (t : Nat) (s : State) : Host.Outcome State Fault Refusal :=
  .next (s.elapse t).trackerTakesReport

/-- Rf of every quantity reseeded from the declared voltage, the countdowns 0, both sets computed
(R40, R41, R42). -/
def State.seedReferences (s : State) : State :=
  s.withRef { s.ref with d := Vector.replicate 3 (seededReference s.ctl.items) }

/-- Both sets of every quantity recomputed from the unchanged Rf (R40). -/
def State.recomputeSets (s : State) : State :=
  s.withRef { s.ref with
    d := Vector.ofFn fun k =>
      let th := thresholdsFrom s.ctl.items s.ref.d[k].r
      { s.ref.d[k] with inForce := th, following := th } }

/-- A SET of the declared voltage: Rf of every quantity reseeded and both sets recomputed (R40). -/
def State.reseedDeclared (s : State) : State :=
  s.withRef { s.ref with
    d := Vector.ofFn fun k =>
      let th := thresholdsFrom s.ctl.items s.declared
      { s.ref.d[k] with rf := s.declared * 65536, inForce := th, following := th } }

/-- The tracker takes RESTART: it reseeds, and reports of ends not yet taken are dropped (R42;
log entry 12). -/
def State.refTakesRestart (s : State) : State :=
  let s' := s.seedReferences
  s'.withRef { s'.ref with endReports := 0 }

end Sys2Proof.Machine
end

