-- ==== Sys2Proof/Machine/Stops.lean ====
section
/-! DEFINITION. The changes of station state as the station controller hands them to the blocks:
HALT (R187), RESTART and LINK_RESET (R186) and an accepted START (R185). -/

namespace Sys2Proof.Machine

/-- The order in which the blocks take the stop that is taken now: the free value of log
entry 3. -/
def State.order (s : State) : StopOrder := Config.freeOrder s.free

/-- The store takes the change of station state; it does so before the reports that the other
blocks make under it, since every record OPEN at the stop reaches the host ABORTED (R151). -/
def State.storeTakes (s : State) (view : StationState) : State :=
  s.withStore { s.store with view := view }

/-- The controller enters HALTED: HALT is raised and the PRESENT period expiry cleared (R187). -/
def State.enterHalted (s : State) : State :=
  let s' := s.raise .halt 0
  s'.withCtl { s'.ctl with state := .halted, presentExpiry := none }

/-- `f` applied where `c`. -/
def State.when (s : State) (c : Bool) (f : State → State) : State := if c then f s else s

/-- A stop as the blocks take it: HALT (R187), or RESTART with the level of MARK read afresh, the
correlation unit reading the peer table before the notice link clears it or after (R186; log
entry 3). -/
inductive Stop
  | halt
  | restart (low tableFirst : Bool)
  deriving DecidableEq, Repr

/-- The station state that a stop brings (R184). -/
def Stop.view : Stop → StationState
  | .halt => .halted
  | .restart _ _ => .config

/-- The mark line interface takes a stop (R97, R98). -/
def State.markStops (s : State) : Stop → State
  | .halt => s.markTakesHalt
  | .restart low _ => s.markTakesReset low true .config

/-- The notice link takes a stop (R120, R121). -/
def State.linkStops (s : State) : Stop → State
  | .halt => s.linkTakesHalt
  | .restart _ tableFirst =>
    let s' := s.linkDropsQueue .config
    if tableFirst then s' else s'.linkClearsPeers

/-- The correlation unit takes a stop (R138); the peer table is cleared after it, where it reads the
table first. -/
def State.corrStops (s : State) (k : Stop) : State :=
  let s' := s.corrTakesStop k.view
  match k with
  | .restart _ true => s'.linkClearsPeers
  | .halt | .restart _ false => s'

/-- The capture unit takes a stop (R85). -/
def State.capStops (s : State) : Stop → State
  | .halt => s.capTakesHalt
  | .restart _ _ => s.capTakesRestart

/-- Which blocks take a stop in one of its two phases, before or after the readers may take a
refresh in RUN. -/
structure StopPhase where
  store : Bool
  link : Bool
  mark : Bool
  det : Bool
  corr : Bool
  cap : Bool
  agg : Bool
  deriving DecidableEq, Repr

/-- The blocks that take the stop first. The store is among them where any block that reports to it
is, since a record OPEN at the stop reaches the host ABORTED (R151), and the notice link where the
correlation unit is, since its drops are reported first, so that every linked record carries UNSENT
(R138; log entry 15); both too where the correlation unit may take it within the crossing that
follows (R125). -/
def earlyPhase (o : StopOrder) : StopPhase :=
  { store := o.storeEarly || o.detEarly || o.corrEarly || o.corrWithin || o.capEarly
    link := o.linkEarly || o.corrEarly || o.corrWithin
    mark := o.markEarly
    det := o.detEarly
    corr := o.corrEarly
    cap := o.capEarly
    agg := o.aggEarly }

/-- The blocks that take the stop last: those that have not taken it. -/
def StopPhase.others (p : StopPhase) : StopPhase :=
  ⟨!p.store, !p.link, !p.mark, !p.det, !p.corr, !p.cap, !p.agg⟩

/-- The blocks of a phase take the stop, store, notice link and mark line first, the detector before
or after the correlation unit (R139). -/
def State.stopBlocks (s : State) (k : Stop) (p : StopPhase) (detectorFirst : Bool) : State :=
  let corr (st : State) : State := st.corrStops k
  let s1 := ((s.when p.store fun st => st.storeTakes k.view).when p.link
    fun st => st.linkStops k).when p.mark fun st => st.markStops k
  let s2 :=
    if detectorFirst then (s1.when p.det State.detTakesStop).when p.corr corr
    else (s1.when p.corr corr).when p.det State.detTakesStop
  (s2.when p.cap fun st => st.capStops k).when p.agg State.aggTakesStop

/-- The readers that take, before the station leaves RUN, the oldest refresh handed to them, each by
the free value, and not where it has taken the stop already (R29); then the end report that may be
outstanding (R36). A crossing that the detector takes so asks for its anchor before or after the
mark line interface has taken the stop (R97), and the correlation unit may take it between the
answer and the anchoring, and then takes no refresh in RUN any more (R125). -/
def State.readersTake (s : State) (k : Stop) (o : StopOrder) (failed : Option (Fin 9)) : State :=
  let between (st : State) : State :=
    st.when (o.corrWithin && !o.corrEarly) fun x => x.corrStops k
  let det (st : State) : State :=
    st.when (o.detTakes && !o.detEarly) fun x => x.detectorTakes failed between
  let corr (st : State) : State :=
    st.when (o.corrTakes && !o.corrEarly && st.corr.view == .run) State.correlationTakes
  let s1 := s.when o.trackerTakes State.trackerTakes
  let s2 := if o.corrBeforeDet then det (corr s1) else corr (det s1)
  (s2.when o.reportTakes State.trackerTakesReport).when (o.aggTakes && !o.aggEarly)
    State.aggregatorTakes

/-- The blocks take a stop: some of them before the events `act` that come with it; in RUN some
readers then take a refresh; and the other blocks take the stop (R29, R97, R184; log entry 3). The
controller's own state follows. -/
def State.takeStop (s : State) (k : Stop) (o : StopOrder) (failed : Option (Fin 9))
    (act : State → State) : State :=
  let s1 := act (s.stopBlocks k (earlyPhase o) o.detectorFirst)
  let s2 := s1.when (s.ctl.state == .run) fun st => st.readersTake k o failed
  (s2.stopBlocks k (earlyPhase o).others o.detectorFirst).withFree (s.free + 1)

/-- RESTART as the controller hands it to every block; `low` is the level of MARK read afresh
(R186). The PRESENT period expiry is cleared and the station is in CONFIG. The reference tracker
reseeds last, so that a refresh that the detector takes in RUN within the RESTART is judged against
the sets of the run (R39, R44, R65); R42 and R184 do not order the two: DESIGN CHOICE (log entry
3). -/
def State.takeRestart (s : State) (low : Bool) : State :=
  let s1 := s.takeStop (.restart low s.order.tableFirst) s.order s.order.checkFails id
  s1.refTakesRestart.withCtl { s1.ctl with state := .config, presentExpiry := none }

/-- LINK_RESET as the controller hands it to the mark line interface and the notice link; the
station state stays (R186). -/
def State.takeLinkReset (s : State) (low : Bool) : State :=
  (s.linkTakesReset s.link.view).markTakesReset low false s.mark.view

/-- An accepted START: the station is in RUN, the PRESENT period runs, the references are seeded,
the START time is set, an interval begins and a PRESENT is handed over (R41, R146, R159, R185). -/
def State.takeStart (s : State) : State :=
  let s1 := s.withCtl { s.ctl with state := .run, presentExpiry := some (s.now + msOf 60000) }
  let s2 := s1.seedReferences
  let s3 := s2.withStore { s2.store with
    startTime := s.now, frozenBase := some s.timeBase, view := .run }
  let s4 := s3.withAgg { s3.agg with
    cur := some (beginInterval s.now (s.timeBase % 2 ^ 32) 0 true) }
  let s5 := s4.withCap { s4.cap with view := .run }
  let s6 := s5.withMark { s5.mark with view := .run }
  let s7 := s6.withCorr { s6.corr with view := .run }
  s7.withLink ({ s7.link with view := .run } : NoticeLink).handPresent

end Sys2Proof.Machine
end

