-- ==== Sys2Proof/Machine/FrontEnd.lean ====
section
/-! DEFINITION. The channel front end, its frequency tracker and the RMS engine (ch. 1 and 2),
with the commands TAKE_RESULT, POSITION_CLOSE and CYCLE_TIMEOUT, and the HALT that a double
overrun brings (R187). -/

namespace Sys2Proof.Machine

/-- floor((raw x gain + 8192) / 16384) + offset (R2). -/
def scaleSample (raw gain offset : Int) : Int := Int.fdiv (raw * gain + 8192) 16384 + offset

/-- A scaled value clamped to -32767..32767 (R3). -/
def clampSample (x : Int) : Int := clampInt (-32767) 32767 x

/-- A result is taken: it is the last raw sample, and is scaled and clamped (R1 to R3); the late
result of an overrun is discarded (R7); a result beyond the one conversion of the position
changes nothing (log entry 5). -/
def Channel.takeResult (c : Channel) (raw gain offset : Int) : Channel :=
  if c.late ≠ 0 then { c with late := c.late - 1 }
  else if c.taken then c
  else
    let x := scaleSample raw gain offset
    { c with
      lastRaw := raw
      lastScaled := clampSample x
      clip := c.clip || (clampSample x != x)
      taken := true
      clampedNow := clampSample x != x }

/-- TAKE_RESULT: the result of a conversion of channel `ch` arrives (R1, R2, R3, R7, R15). -/
def execTakeResult (t : Nat) (ch : Fin 8) (code : BitVec 16) (s : State) :
    Host.Outcome State Fault Refusal :=
  let s := s.elapse t
  .next (s.withCfe { s.cfe with
    ch := s.cfe.ch.set ch
      (s.cfe.ch[ch].takeResult code.toInt (s.item (gainItem ch)) (s.item (offsetItem ch))) })

/-! The frequency tracker (R9 to R13). -/

/-- The band of the FREQ strap, mHz (R10). -/
def freqBand : Freq → Nat × Nat
  | .hz50 => (45000, 55000)
  | .hz60 => (54000, 66000)

/-- The timeout of a cycle in ticks (R10). -/
def cycleTimeout : Freq → Nat
  | .hz50 => 300000
  | .hz60 => 250000

/-- The crossing time in whole ticks: t_a + (t_b - t_a) (-s_a) / (s_b - s_a), rounded down; the
instants are in 1/128 tick (R9). Asked only for a crossing, so s_a < 0 <= s_b. -/
def crossingTime (ta tb : Nat) (sa sb : Int) : Nat :=
  let den := (sb - sa).toNat
  (ta * den + (tb - ta) * (-sa).toNat) / (128 * den)

/-- The frequency of a cycle of `p` ticks, mHz (R10). -/
def frequencyOf (p : Nat) : Nat := 10000000000 / p

/-- The cycle of `p` ticks with greatest magnitude `peak` is valid (R10). -/
def cycleValid (f : Freq) (p peak : Nat) : Bool :=
  decide ((freqBand f).1 ≤ frequencyOf p ∧ frequencyOf p ≤ (freqBand f).2) && decide (500 ≤ peak)

/-- A valid cycle of `p` ticks ends: frequency, count, state and spacing (R10, R11, R12). -/
def FreqTracker.endValid (k : FreqTracker) (p : Nat) : FreqTracker :=
  let count := min (k.validCount + 1) 5
  let state := if count = 5 then .locked else k.state
  { k with
    freq := frequencyOf p
    validCount := count
    state := state
    spacing := if state = .locked then p else k.spacing }

/-- An invalid cycle ends: count 0, FREE_RUN and its spacing (R10, R11, R12). -/
def FreqTracker.endInvalid (k : FreqTracker) (f : Freq) : FreqTracker :=
  { k with validCount := 0, state := .freeRun, spacing := freeRunSpacing f }

/-- The D1 samples `sa`, `sb` are a crossing that the tracker receives (R9). -/
def FreqTracker.isCrossing (k : FreqTracker) (sa sb : Int) : Bool :=
  k.armed && decide (sa < 0) && decide (0 ≤ sb)

/-- The tracker takes the D1 sample `sb` of the position that closes, after `sa` of the position
before: a crossing ends the cycle in progress and starts the next; a sample of -50 or less arms
the detector (R9, R10). -/
def FreqTracker.takeSample (k : FreqTracker) (f : Freq) (sa sb : Int) : FreqTracker :=
  let peak := max k.peak sb.natAbs
  if k.isCrossing sa sb then
    let tc := crossingTime k.prevInstant k.instant sa sb
    let ended :=
      match k.start with
      | none => k
      | some t0 => if cycleValid f (tc - t0) peak then k.endValid (tc - t0) else k.endInvalid f
    { ended with armed := false, start := some tc, peak := 0 }
  else { k with armed := k.armed || decide (sb ≤ -50), peak := peak }

/-- The frequency that the tracker hands the aggregator at this sample: that of a valid cycle
ending while the tracker was already LOCKED (R13). -/
def FreqTracker.lockedCycle (k : FreqTracker) (f : Freq) (sa sb : Int) : Option Nat :=
  if k.isCrossing sa sb && k.state == .locked then
    match k.start with
    | none => none
    | some t0 =>
      let p := crossingTime k.prevInstant k.instant sa sb - t0
      if cycleValid f p (max k.peak sb.natAbs) then some (frequencyOf p) else none
  else none

/-- FREE_RUN is raised where the tracker has moved from LOCKED to FREE_RUN (R11). -/
def State.raiseFreeRun (s : State) (before after : TrackState) : State :=
  if before = .locked ∧ after = .freeRun then s.raise .freeRun 0 else s

/-- CYCLE_TIMEOUT: the cycle in progress reaches its timeout and ends invalid; no cycle is in
progress until the next crossing (R10, R11). -/
def execCycleTimeout (t : Nat) (s : State) : Host.Outcome State Fault Refusal :=
  let s := s.elapse t
  .next (match s.cfe.trk.start with
  | none => s
  | some t0 =>
    if t0 + cycleTimeout s.ctl.straps.freq ≤ s.time then
      let trk := { s.cfe.trk.endInvalid s.ctl.straps.freq with start := none }
      (s.withCfe { s.cfe with trk := trk }).raiseFreeRun s.cfe.trk.state trk.state
    else s)

/-! The steps of a position close (R1). -/

/-- The channels that overrun: no result taken for the position (R7). -/
def FrontEnd.overruns (c : FrontEnd) : List (Fin 8) :=
  (List.finRange 8).filter fun k => !c.ch[k].taken

/-- Some channel's overrun hold is running (R8). -/
def FrontEnd.holdRunning (c : FrontEnd) : Bool :=
  (List.finRange 8).any fun k => decide (0 < c.ch[k].hold)

/-- A channel after the close of a position: an overrun loads the hold and leaves a result to
come; otherwise the hold counts down (R7, R8). The next position's conversion begins. -/
def Channel.closed (c : Channel) : Channel :=
  { c with
    hold := if c.taken then c.hold - 1 else 128
    late := if c.taken then c.late else c.late + 1
    taken := false
    clampedNow := false }

/-- The two voltages that form Dk under DELTA: U1 - U2, U2 - U3, U3 - U1 (R4). -/
def deltaPair (k : Fin 3) : Fin 8 × Fin 8 :=
  (⟨k.val, by omega⟩, ⟨(k.val + 1) % 3, by omega⟩)

/-- The detection quantity Dk formed from the settled samples of the position (R4). -/
def FrontEnd.formD (c : FrontEnd) (w : Wiring) (k : Fin 3) : DetQuantity :=
  let a := c.ch[(deltaPair k).1]
  let b := c.ch[(deltaPair k).2]
  match w with
  | .star => ⟨a.lastScaled, a.lastScaled, c.dq[k].clip || a.clampedNow⟩
  | .delta =>
    let x := a.lastScaled - b.lastScaled
    ⟨x, clampSample x, c.dq[k].clip || (clampSample x != x) || a.clampedNow || b.clampedNow⟩

/-- The sample of quantity `q` at the position: channels 0 to 7, then D1 to D3. -/
def FrontEnd.sample (c : FrontEnd) (q : Fin 11) : Int :=
  if h : q.val < 8 then c.ch[q.val].lastScaled
  else (c.dq[q.val - 8]'(by have := q.isLt; omega)).lastScaled

/-- The clip flag of quantity `q`. -/
def FrontEnd.clipOf (c : FrontEnd) (q : Fin 11) : Bool :=
  if h : q.val < 8 then c.ch[q.val].clip
  else (c.dq[q.val - 8]'(by have := q.isLt; omega)).clip

/-- The ring position written 128 positions before `p`: (p + 512) mod 640 (R17). -/
def leavingPos (p : Fin 640) : Fin 640 := p + 512

/-- The square of a sample. -/
def square (x : Int) : Nat := x.natAbs * x.natAbs

/-- The eleven samples of the position written at ring position `p` (R5). -/
def FrontEnd.writeRings (c : FrontEnd) : FrontEnd :=
  { c with rings := Vector.ofFn fun q => c.rings[q].set c.pos (c.sample q) }

/-- The RMS engine takes the samples of ring position `p`: the square that enters is added, the
square that leaves subtracted, and the fill count rises (R17). -/
def RmsEngine.takePosition (r : RmsEngine) (c : FrontEnd) : RmsEngine :=
  { r with
    sums := Vector.ofFn fun q =>
      r.sums[q] + square (c.rings[q][c.pos]) - square (c.rings[q][leavingPos c.pos])
    fill := min (r.fill + 1) 128 }

/-- A half-cycle ends at the close that writes ring position `p` (R6). -/
def endsSegment (p : Fin 640) : Bool := p.val % 64 == 63

/-- The twelve flags cleared for the next half-cycle (R6). -/
def FrontEnd.clearFlags (c : FrontEnd) : FrontEnd :=
  { c with
    ch := Vector.ofFn fun k => { c.ch[k] with clip := false }
    dq := Vector.ofFn fun k => { c.dq[k] with clip := false }
    freeRunSeen := false }

/-- The refresh entry built at a half-cycle end from the sums, the flags just handed and the
previous ones (R21 to R24). -/
def RmsEngine.build (r : RmsEngine) (clips : Vector Bool 11) (freeRun : Bool) (stamp : Ms)
    (det : DetState) : Refresh :=
  { index := r.nextIndex
    stamp := stamp
    value := Vector.ofFn fun q => isqrt (r.sums[q] / 128)
    clip := Vector.ofFn fun q => clips[q] || r.prevClip[q]
    freeRun := freeRun || r.prevFreeRun
    det := det }

/-- The refresh placed in the history, of which four are kept, with the flags stored and the next
index raised (R20, R25, R26). -/
def RmsEngine.emit (r : RmsEngine) (e : Refresh) (clips : Vector Bool 11) (freeRun : Bool) :
    RmsEngine :=
  { r with
    prevClip := clips
    prevFreeRun := freeRun
    nextIndex := r.nextIndex + 1
    history := (e :: r.history).take 4 }

/-- The refresh handed to the four readers that take it at a moment of their own (R27). -/
def State.handRefresh (s : State) (e : Refresh) : State :=
  let s1 := s.withRef { s.ref with handed := s.ref.handed ++ [e] }
  let s2 := s1.withDet { s1.det with handed := s1.det.handed ++ [e] }
  let s3 := s2.withCorr { s2.corr with handed := s2.corr.handed ++ [e] }
  s3.withAgg { s3.agg with handed := s3.agg.handed ++ [e] }

/-- The half-cycle end: the flags are handed and cleared; within the start-up fill they are
stored, after it a refresh is emitted and handed on (R6, R20). -/
def State.halfCycleEnd (s : State) : State :=
  let clips := Vector.ofFn s.cfe.clipOf
  let freeRun := s.cfe.freeRunSeen
  let s1 := s.withCfe s.cfe.clearFlags
  if s.rms.fill < 128 then
    s1.withRms { s.rms with prevClip := clips, prevFreeRun := freeRun }
  else
    let e := s.rms.build clips freeRun s.now s.det.mode.state
    (s1.withRms (s.rms.emit e clips freeRun)).handRefresh e

/-- Steps 1 to 3 of R1 for the front end: the samples settle, D1 to D3 are formed, the rings are
written. -/
def FrontEnd.settle (c : FrontEnd) (w : Wiring) : FrontEnd :=
  let c1 := { c with dq := Vector.ofFn fun k => c.formD w k }
  { c1.writeRings with ch := Vector.ofFn fun k => c1.ch[k].closed }

/-- The instants move on: the position in progress closes at `next`, and the next sample instant
follows at the spacing in force before this close (R12; log entry 6). -/
def FreqTracker.advance (k : FreqTracker) : FreqTracker :=
  { k with prevInstant := k.instant, instant := k.next, next := k.next + k.spacing }

/-- The front end takes a position through R1: samples, rings, tracker, ring position counter.
The free-run flag is set where the tracker is FREE_RUN before or after the sample (R6; log entry
8). -/
def FrontEnd.closePosition (c : FrontEnd) (straps : Straps) : FrontEnd :=
  let c1 := c.settle straps.wiring
  let trk := c.trk.takeSample straps.freq c.dq[0].lastScaled c1.dq[0].lastScaled
  { c1 with
    trk := { trk with
      prevInstant := c.trk.advance.prevInstant
      instant := c.trk.advance.instant
      next := c.trk.advance.next }
    freeRunSeen := c.freeRunSeen || c.trk.state == .freeRun || trk.state == .freeRun
    pos := c.pos + 1 }

/-- OVERRUN, and DOUBLE_OVERRUN where a hold was running, raised with the lowest-numbered channel
that overran (R7, R8). -/
def State.raiseOverruns (s : State) : State :=
  match s.cfe.overruns with
  | [] => s
  | k :: _ =>
    if s.cfe.holdRunning then (s.raise .doubleOverrun k.val).raise .overrun k.val
    else s.raise .overrun k.val

/-- The close is a double overrun (R8). -/
def State.doubleOverrun (s : State) : Bool := !s.cfe.overruns.isEmpty && s.cfe.holdRunning

/-- Steps 2 to 5 of R1 for the whole part: samples, rings, RMS engine, tracker with its FREE_RUN
cause and ring counter. -/
def State.measurePosition (s : State) : State :=
  let c := s.cfe.settle s.ctl.straps.wiring
  ((s.withRms (s.rms.takePosition c)).withCfe
    (s.cfe.closePosition s.ctl.straps)).raiseFreeRun
      s.cfe.trk.state (s.cfe.closePosition s.ctl.straps).trk.state

/-- The locked cycle of this close, if there is one, handed to the aggregator, which holds the
station in RUN or not as it last took it (R13, R161). -/
def State.handLockedCycle (s : State) (inRun : Bool) (freq : Option Nat) : State :=
  match freq with
  | none => s
  | some f => s.takeLockedCycle inRun f

/-- The moment of a position close: the next sample instant, in whole ticks (R1, R12). -/
def State.closeMoment (s : State) : Nat := s.cfe.trk.next / 128

/-- The events of a position close after its measurement: the locked cycle is handed over; at a
half-cycle end a refresh may be emitted, and with it the fill copies the half-cycle (R13, R20,
R75). -/
def State.closeEvents (s : State) (locked : Option Nat) (ends emits fails : Bool) : State :=
  let s1 := s.handLockedCycle (s.ctl.state == .run) locked
  if ends then
    let m := s.rms.nextIndex
    if emits then s1.halfCycleEnd.fillCopy m fails else s1.halfCycleEnd
  else s1

/-- POSITION_CLOSE: the next sample instant closes the sample position (R1). With a double overrun
in RUN the controller halts the station (R187), and each block takes HALT before or after the
events of the close, among them a refresh that it emits, as the free value has it (log entry 3). -/
def execPositionClose (checks : CloseChecks) (s : State) : Host.Outcome State Fault Refusal :=
  let s := s.elapse s.closeMoment
  let locked := s.cfe.trk.lockedCycle s.ctl.straps.freq s.cfe.dq[0].lastScaled
    (s.cfe.settle s.ctl.straps.wiring).dq[0].lastScaled
  let ends := endsSegment s.cfe.pos
  let s1 := s.raiseOverruns.measurePosition
  let emits := ends && s1.rms.fill == 128
  let act (st : State) : State := st.closeEvents locked ends emits checks.fails
  .next (if s.doubleOverrun && s.ctl.state == .run then
    (s1.takeStop .halt s.order checks.failed act).enterHalted
  else act s1)

end Sys2Proof.Machine
end

