-- ==== Sys2Proof/Machine/Receiver.lean ====
section
/-! DEFINITION. The receive side of the notice link controller (ch. 7): bytes, frames, the peer
table and the matching of VERDICTs; with the commands NOTICE_FALLING_EDGE, FRAME_MALFORMED,
FRAME_COMPLETE, RECEIVER_RECOVERED and PEER_AGING_EXPIRY. -/

namespace Sys2Proof.Machine

/-- The byte that a falling edge begins, and whether its stop bit reads low; none for a glitch. -/
def edgeByte : EdgeSample → Option (Byte × Bool)
  | .glitch _ => none
  | .start b => some (b, false)
  | .broken b _ => some (b, true)

/-- The fault that byte `b`, the one after `bytes`, puts into a frame: a stop bit that reads low, a
first byte other than the leader, a second byte of unknown kind (R111). -/
def byteFault (bytes : List Byte) (b : Byte) (stopLow : Bool) : Option FrameFault :=
  if stopLow then some .framing
  else if bytes.length = 0 ∧ b ≠ Config.leader then some .badLeader
  else if bytes.length = 1 ∧ frameLength b = none then some .badKind
  else none

/-- A byte whose start bit falls at `edge` is taken into the frame in reception: byte 1 sets the
expected length, and the last expected byte, without a fault, brings TRAILING (R111; log entry
9). -/
def NoticeLink.takeByte (l : NoticeLink) (edge : Nat) (b : Byte) (stopLow : Bool) : NoticeLink :=
  let bytes := l.rxBytes ++ [b]
  let expected := if bytes.length = 2 then frameLength b else l.rxExpected
  let fault := byteFault l.rxBytes b stopLow
  { l with
    rxBytes := bytes
    rxExpected := expected
    rxEnd := edge + 10 * Config.ticksPerBit
    rxFault := fault
    rx := if expected = some bytes.length ∧ fault = none then .trailing else .receiving }

/-- A new frame in reception, whose leader arrives at `now` (R111). -/
def NoticeLink.newFrame (l : NoticeLink) (now : Ms) : NoticeLink :=
  { l with
    rx := .receiving, rxBytes := [], rxLeader := now, rxExpected := none, rxFault := none
    rxOwn := false }

/-- The receiver at a start bit at `edge`, with the clock at `now`: an IDLE one enters RECEIVING; a
RECEIVING one takes the byte if it comes within 20 bit times of the previous stop bit and the
frame has no fault yet; in TRAILING the frame is too long, unless the line had been idle for more
than 20 bit times, when the frame was complete; a RECOVERING one takes nothing (R111, R112). -/
def NoticeLink.takeStart (l : NoticeLink) (edge : Nat) (now : Ms) (b : Byte) (stopLow : Bool) :
    NoticeLink :=
  match l.rx with
  | .idle => (l.newFrame now).takeByte edge b stopLow
  | .receiving =>
    if l.rxFault = none ∧ edge ≤ l.rxEnd + Config.frameGapTicks then l.takeByte edge b stopLow
    else l
  | .trailing =>
    if idleFor edge l.idleFrom (Config.frameGapTicks + 1) then l
    else { l with rxFault := some .tooLong }
  | .recovering => l

/-- The link at a falling edge at `edge`, with the clock at `now`: the receiver takes a start bit,
and the idle period ends; a glitch changes no more than that (R100, R111). R111 says so of a glitch
in IDLE alone: that one between two bytes of a frame is ignored too, the 20 bit times still counted
from the last stop bit, and one in TRAILING, is a DESIGN CHOICE (log entry 9). -/
def NoticeLink.takeEdge (l : NoticeLink) (edge : Nat) (now : Ms) (e : EdgeSample) : NoticeLink :=
  match edgeByte e with
  | none => l.seeEdge edge e
  | some (b, stopLow) => (l.takeStart edge now b stopLow).seeEdge edge e

/-- NOTICE_FALLING_EDGE: a falling edge ends the idle period, which counts afresh, and is taken by
the receiver (R100, R107, R111). -/
def execNoticeFallingEdge (t : Nat) (e : EdgeSample) (s : State) :
    Host.Outcome State Fault Refusal :=
  let s := s.elapse t
  .next (if e.wf then s.withLink (s.link.takeEdge s.time s.now e) else s)

/-- The frame in reception is dropped at `time` and the receiver enters RECOVERING; the bytes are
gone (R112). -/
def NoticeLink.dropFrame (l : NoticeLink) (time : Nat) : NoticeLink :=
  { l with
    rx := .recovering, rxBytes := [], rxExpected := none, rxFault := none
    rxOwn := false }.leaveByte time

/-- The fault is found in the frame in reception (R111): no further start bit for more than 20 bit
times; a start bit too early after the last expected byte; or the fault of the last byte taken,
from the middle of its stop bit on (log entry 9). -/
def faultPossible (f : FrameFault) (l : NoticeLink) (time : Nat) : Bool :=
  match f with
  | .tooShort =>
    l.rx == .receiving && l.rxFault.isNone && decide (l.rxEnd + Config.frameGapTicks < time)
  | .tooLong => l.rx == .trailing && l.rxFault == some .tooLong
  | .framing | .badLeader | .badKind =>
    l.rx == .receiving && l.rxFault == some f && decide (l.rxEnd ≤ time + Config.ticksPerBit / 2)

/-- FRAME_MALFORMED: the fault drops the frame where it is found, FRAME_ERROR is raised and the
receiver enters RECOVERING (R111, R112). -/
def execFrameMalformed (t : Nat) (f : FrameFault) (s : State) : Host.Outcome State Fault Refusal :=
  let s := s.elapse t
  .next (if faultPossible f s.link s.time then
    (s.withLink (s.link.dropFrame s.time)).raise .frameError 0
  else s)

/-! The peer table (R114, R117) and the matching (R115, R116). -/

/-- The sender address of a notice. -/
def senderOf : Notice → Fin 16
  | .present a _ _ _ => a
  | .verdict a _ _ _ _ _ _ _ => a

/-- The entry of the sender of a received frame whose leader arrived at `leader` (R114). -/
def Peer.hear (p : Peer) (n : Notice) (leader : Ms) : Peer :=
  match n with
  | .present _ level wiring freq =>
    { p with
      present := true, level := some level, wiring := some wiring, freq := some freq
      lastHeard := some leader }
  | .verdict _ level _ _ _ _ _ _ =>
    { p with present := true, level := some level, lastHeard := some leader }

/-- `s` with entry `a` of the peer table as `p`. -/
def State.setPeer (s : State) (a : Fin 16) (p : Peer) : State :=
  s.withLink { s.link with peers := s.link.peers.set a p }

/-- A received frame updates its sender's entry; one that was ABSENT raises PEER_CHANGE (R114). -/
def State.updatePeer (s : State) (n : Notice) (leader : Ms) : State :=
  let old := s.link.peers[senderOf n]
  let s' := s.setPeer (senderOf n) (old.hear n leader)
  if old.present then s' else s'.raise .peerChange (senderOf n).val

/-- The distance of the edge time of slot `k`'s context from the estimate; none for a CLOSED
slot. -/
def State.edgeDistance (s : State) (estimate : Ms) (k : Fin 4) : Option Nat :=
  s.corr.slots[k].map fun c => clockDistance c.edge estimate

/-- The slots whose edge time lies within 3 ms of the estimate (R115). -/
def State.matchCandidates (s : State) (estimate : Ms) : List (Fin 4) :=
  (List.finRange 4).filter fun k => (s.edgeDistance estimate k).any fun d => decide (d ≤ 3)

/-- Slot `k` is the better match of the two: nearer the estimate, or equally near with the earlier
edge time (R115). Of two with one edge time neither is, and the lower slot is taken: DESIGN CHOICE
(log entry 24). -/
def State.betterMatch (s : State) (estimate : Ms) (k j : Fin 4) : Bool :=
  let dk := (s.edgeDistance estimate k).getD 0
  let dj := (s.edgeDistance estimate j).getD 0
  decide (dk < dj) ||
    (dk == dj &&
      isBefore (s.corr.slots[k].elim 0 Context.edge) (s.corr.slots[j].elim 0 Context.edge))

/-- The best match of a list of slots. -/
def State.bestMatch (s : State) (estimate : Ms) : List (Fin 4) → Option (Fin 4)
  | [] => none
  | k :: rest =>
    match s.bestMatch estimate rest with
    | none => some k
    | some j => if s.betterMatch estimate j k then some j else some k

/-- A peer verdict entry taken into a context; a second one from the same address is
ignored (R116). -/
def Context.addPeer (c : Context) (v : PeerVerdict) : Context :=
  if c.peers.any fun p => p.addr == v.addr then c else { c with peers := c.peers ++ [v] }

/-- The entry with its unmatched notice count raised by one, up to 255 (R116). -/
def Peer.countUnmatched (p : Peer) : Peer := { p with unmatched := min (p.unmatched + 1) 255 }

/-- In RUN a received VERDICT is matched by its mark age, and taken into the context it matches or
counted as unmatched (R115, R116). -/
def State.matchVerdict (s : State) (v : PeerVerdict) (estimate : Ms) : State :=
  match s.bestMatch estimate (s.matchCandidates estimate) with
  | some k =>
    s.withCorr { s.corr with
      slots := s.corr.slots.set k (s.corr.slots[k].map fun c => c.addPeer v) }
  | none => s.setPeer v.addr s.link.peers[v.addr].countUnmatched

/-- A received frame from another address: the peer table, then, in RUN, the matching of a VERDICT
(R113, R114, R115). -/
def State.takeNotice (s : State) (n : Notice) (leader : Ms) : State :=
  let s' := s.updatePeer n leader
  match n with
  | .present _ _ _ _ => s'
  | .verdict addr level v k origin age dU dI =>
    if s.link.view = .run then
      s'.matchVerdict ⟨addr, level, v, k, dU.toInt, dI.toInt, origin⟩ (leader - age.setWidth 48)
    else s'

/-- The receiver is IDLE with no frame in reception. -/
def NoticeLink.endFrame (l : NoticeLink) : NoticeLink :=
  { l with rx := .idle, rxBytes := [], rxExpected := none, rxFault := none, rxOwn := false }

/-- A complete frame is judged (R112, R113): FRAME_ERROR and RECOVERING where a step fails; an own
frame is discarded; the station's own address in another's frame is an ADDRESS_CLASH. -/
def State.judgeFrame (s : State) : State :=
  match decodeNotice s.link.rxBytes with
  | none => (s.withLink (s.link.dropFrame s.time)).raise .frameError 0
  | some n =>
    let s' := s.withLink s.link.endFrame
    if s.link.rxOwn then s'
    else if senderOf n = s.ctl.straps.addr then s'.raise .addressClash (senderOf n).val
    else s'.takeNotice n s.link.rxLeader

/-- FRAME_COMPLETE: in TRAILING, with no further start bit, the line has stayed high for 20 bit
times, and the frame is judged (R111, R112). -/
def execFrameComplete (t : Nat) (s : State) : Host.Outcome State Fault Refusal :=
  let s := s.elapse t
  .next (if s.link.rx == .trailing && s.link.rxFault.isNone &&
      idleFor s.time s.link.idleFrom Config.frameGapTicks then
    s.judgeFrame
  else s)

/-- RECEIVER_RECOVERED: in RECOVERING the line has been high for 20 bit times, and the receiver is
IDLE. They count from the line's last rise; where none is known, as after pin reset, the command
says that they have passed (R112, R121; log entry 9). -/
def execReceiverRecovered (t : Nat) (s : State) : Host.Outcome State Fault Refusal :=
  let s := s.elapse t
  let high := s.link.highFrom.getD (s.time - Config.frameGapTicks)
  .next (if s.link.rx == .recovering && decide (high + Config.frameGapTicks ≤ s.time) then
    s.withLink { s.link with rx := .idle, highFrom := some high }
  else s)

/-- PEER_AGING_EXPIRY: a PRESENT entry unheard for 180,000 ms becomes ABSENT and PEER_CHANGE is
raised; its other fields are kept (R117). -/
def execPeerAgingExpiry (t : Nat) (a : Fin 16) (s : State) : Host.Outcome State Fault Refusal :=
  let s := s.elapse t
  let p := s.link.peers[a]
  .next (if p.present && s.due (p.lastHeard.map fun h => h + msOf 180000) then
    (s.setPeer a { p with present := false }).raise .peerChange a.val
  else s)

end Sys2Proof.Machine
end

