-- ==== Sys2Proof/Machine/Responses.lean ====
section
/-! DEFINITION. The bytes of the responses of the record port: status codes, payloads and the
layout of a record (R174 to R178). -/

namespace Sys2Proof.Machine

/-- The status codes (R175). -/
inductive Status
  | done | empty | notReady | notPresent | notHead | locked | clamped | conflict | unknown | halted
  deriving DecidableEq, Repr

/-- The value of a status code (R175). -/
def statusByte : Status → Byte
  | .done => 0x01
  | .empty => 0x02
  | .notReady => 0x03
  | .notPresent => 0x04
  | .notHead => 0x05
  | .locked => 0x06
  | .clamped => 0x07
  | .conflict => 0x08
  | .unknown => 0x09
  | .halted => 0x0A

/-- A response: the status byte, the payload length in two bytes, the payload (R174). -/
def responseBytes (st : Status) (payload : List Byte) : List Byte :=
  statusByte st :: (bigEndian 2 payload.length ++ payload)

/-- A signed value in `n` bytes, two's complement, most significant byte first (ch. 0). -/
def signedBytes (n : Nat) (x : Int) : List Byte := bigEndian n (x % (256 ^ n : Int)).toNat

/-- A flag as 0 or 1. -/
def flagNat (b : Bool) : Nat := if b then 1 else 0

/-- The number whose bit `i` is the i-th of the flags. -/
def bitsOf (flags : List Bool) : Nat := flags.foldr (fun b acc => flagNat b + 2 * acc) 0

/-- A field of one byte that may be UNKNOWN, sent as 0xFF (R175). -/
def unknownByte (x : Option Nat) : Byte := x.elim 0xFF (BitVec.ofNat 8)

/-- Station time as seconds and milliseconds (R176). -/
def stationTimeBytes (t : StationTime) : List Byte := bigEndian 4 t.sec ++ bigEndian 2 t.ms

/-- The station state as STATUS returns it (R176). -/
def StationState.code : StationState → Nat
  | .config => 0
  | .run => 1
  | .halted => 2

/-- The tracker state as STATUS returns it (R176). -/
def TrackState.code : TrackState → Nat
  | .locked => 0
  | .freeRun => 1

/-- The number of FREE slots (R86, R176). -/
def State.freeSlots (s : State) : Nat :=
  (List.finRange 8).countP fun k => s.cap.slots[k].state == .free

/-- The number of PRESENT peer table entries (R118). -/
def State.presentPeers (s : State) : Nat :=
  (List.finRange 16).countP fun p => s.link.peers[p].present

/-- The head id, 0 for an empty queue (R156). -/
def State.headId (s : State) : Nat := s.store.queue.head?.elim 0 Record.id

/-- The head state, 1 for CLOSED and for an empty queue (R156). -/
def State.headClosed (s : State) : Nat := s.store.queue.head?.elim 1 fun r => flagNat !r.isOpen

/-- The station summary of STATUS, 24 bytes (R176). -/
def State.statusPayload (s : State) : List Byte :=
  bigEndian 1 s.ctl.state.code ++ bigEndian 1 s.ctl.straps.addr.val ++
  bigEndian 1 s.ctl.straps.level.val ++ bigEndian 1 s.ctl.straps.freq.code ++
  bigEndian 1 s.ctl.straps.wiring.code ++ bigEndian 1 s.store.queue.length ++
  bigEndian 2 s.headId ++ bigEndian 1 s.headClosed ++ bigEndian 1 s.freeSlots ++
  bigEndian 1 (flagNat !s.cap.on) ++ bigEndian 1 s.openContexts ++
  bigEndian 1 s.cfe.trk.state.code ++ bigEndian 4 s.cfe.trk.freq ++ bigEndian 1 s.presentPeers ++
  stationTimeBytes (s.stationTime s.now)

/-- The last raw sample, last scaled sample and clip flag of quantity `q` (R14). -/
def State.lastSamples (s : State) (q : Fin 11) : Int × Int × Bool :=
  if h : q.val < 8 then
    let c := s.cfe.ch[q.val]
    (c.lastRaw, c.lastScaled, c.clip)
  else
    let d := s.cfe.dq[q.val - 8]'(by have := q.isLt; omega)
    (d.lastRaw, d.lastScaled, d.clip)

/-- The live values of quantity `q`, 22 bytes; zeros for the entry while the history is empty
(R28, R176). R176 gives the clip flag one byte and no code: 1 set, 0 clear, DESIGN CHOICE (log
entry 29). -/
def State.livePayload (s : State) (q : Fin 11) : List Byte :=
  (match s.rms.history with
    | [] => bigEndian 1 0 ++ bigEndian 6 0 ++ bigEndian 6 0 ++ bigEndian 2 0
    | e :: _ =>
      bigEndian 1 1 ++ bigEndian 6 e.index.toNat ++ bigEndian 6 e.stamp.toNat ++
        bigEndian 2 e.value[q]) ++
  signedBytes 4 (s.lastSamples q).1 ++ signedBytes 2 (s.lastSamples q).2.1 ++
  bigEndian 1 (flagNat (s.lastSamples q).2.2)

/-- R and the six thresholds of one set, 14 bytes (R43, R176). -/
def Thresholds.payload (th : Thresholds) : List Byte :=
  bigEndian 2 th.ref ++ bigEndian 2 th.dipStart ++ bigEndian 2 th.dipEnd ++
  bigEndian 2 th.swellStart ++ bigEndian 2 th.swellEnd ++ bigEndian 2 th.intStart ++
  bigEndian 2 th.intEnd

/-- The latest references and thresholds, those of the following sets, 42 bytes (R43, R176). -/
def State.referencePayload (s : State) : List Byte :=
  s.ref.d[0].following.payload ++ s.ref.d[1].following.payload ++ s.ref.d[2].following.payload

/-- An interval entry, 53 bytes (R176). Bits 7..4 of the flag byte have no value in R176: sent as 0,
DESIGN CHOICE (log entry 29). -/
def IntervalEntry.payload (e : IntervalEntry) : List Byte :=
  bigEndian 4 e.seq ++ stationTimeBytes e.start ++ bigEndian 2 e.length ++ bigEndian 4 e.count ++
  (List.finRange 4).flatMap (fun k =>
    bigEndian 2 e.rms[k.val] ++ bigEndian 2 e.dmin[k] ++ bigEndian 2 e.dmax[k]) ++
  (List.finRange 4).flatMap (fun k => bigEndian 2 (e.rms[k.val + 4]'(by omega))) ++
  bigEndian 4 e.meanFreq ++
  bigEndian 1 (bitsOf [e.isPartial, e.flagged, e.freeRun, e.clipped])

/-- A tally set, 10 bytes; its three values as 0 while its count is 0 (R176). -/
def TallySet.payload (t : TallySet) : List Byte :=
  let value (v : Option Nat) := if t.count = 0 then 0 else v.getD 0
  bigEndian 2 t.count ++ bigEndian 2 (value t.residual) ++ bigEndian 2 (value t.maximum) ++
  bigEndian 4 (value t.duration)

/-- The five tally sets, 50 bytes (R176). -/
def State.tallyPayload (s : State) : List Byte :=
  (List.finRange 5).flatMap fun k => s.store.tally[k].payload

/-- The detail byte of a cause: bit 7 the EXT flag, bits 3..0 the number (R176). Bits 6..4 have no
value in R176: sent as 0, DESIGN CHOICE (log entry 29). -/
def CauseEntry.detail (c : CauseEntry) : Nat := 128 * flagNat c.ext + c.num % 16

/-- The cause set and the thirteen details, 15 bytes (R176). Bits 15..13 of the cause set have no
value in R176: sent as 0, DESIGN CHOICE (log entry 29). -/
def causesPayload (causes : Vector CauseEntry 13) : List Byte :=
  bigEndian 2 (bitsOf ((List.finRange 13).map fun k => causes[k].isSet)) ++
  (List.finRange 13).flatMap fun k => bigEndian 1 causes[k].detail

/-- A peer table entry, 11 bytes; a last heard time that is not held is sent as zeros (R175, R176).
Bits 7..2 of the state byte have no value in R176: sent as 0, DESIGN CHOICE (log entry 29). -/
def Peer.payload (p : Peer) : List Byte :=
  bigEndian 1 (bitsOf [p.present, p.lastHeard.isSome]) ++
  [unknownByte (p.level.map Fin.val), unknownByte (p.wiring.map Wiring.code),
    unknownByte (p.freq.map Freq.code)] ++
  bigEndian 6 (p.lastHeard.elim 0 BitVec.toNat) ++ bigEndian 1 p.unmatched

/-- The sixteen entries in address order, 176 bytes (R176). -/
def State.peersPayload (s : State) : List Byte :=
  (List.finRange 16).flatMap fun p => s.link.peers[p].payload

/-! The record (R178). -/

/-- The class as byte 2 gives it. -/
def RecordClass.code (c : RecordClass) : Nat := c.index.val

/-- The parts present, byte 3. -/
def Record.parts (r : Record) : Nat :=
  bitsOf [r.verdict.isSome, r.locus.isSome,
    (match r.wave with
      | .present _ _ => true
      | .absent _ => false),
    r.cls == .continuation]

/-- The flags, bytes 4 and 5. -/
def RecordFlags.word (f : RecordFlags) : Nat :=
  bitsOf [f.mixed, f.ongoing, f.upgraded, f.clipped, f.freeRun, f.preDisturbed, f.unsent, f.aborted,
    f.unanchored, f.waveLost]

/-- The measurement fields, bytes 20 to 35. -/
def RecordMeasure.bytes (m : RecordMeasure) : List Byte :=
  bigEndian 2 m.dmin[0] ++ bigEndian 2 m.dmax[0] ++ bigEndian 2 m.dmin[1] ++
  bigEndian 2 m.dmax[1] ++ bigEndian 2 m.dmin[2] ++ bigEndian 2 m.dmax[2] ++
  bigEndian 2 m.residual ++ bigEndian 2 m.maximum

/-- The verdict block, bytes 38 to 43. -/
def verdictBytes : Option VerdictBlock → List Byte
  | none => bigEndian 6 0
  | some v =>
    bigEndian 1 v.verdict.code ++ bigEndian 1 (v.k.val + 1) ++ signedBytes 2 v.dU ++
    signedBytes 2 v.dI

/-- The locus kind as byte 44 gives it. -/
def LocusKind.code : LocusKind → Nat
  | .above => 0
  | .below => 1
  | .unknown => 2

/-- The locus block, bytes 44 to 49. -/
def locusBytes : Option Locus → List Byte
  | none => bigEndian 6 0
  | some l =>
    bigEndian 1 l.kind.code ++ bigEndian 1 l.level ++ bigEndian 1 l.addr ++
    bigEndian 1 (flagNat l.ambiguous) ++ bigEndian 1 l.reporters ++ bigEndian 1 l.silent

/-- The absence reason as byte 53 gives it. -/
def AbsenceReason.code : AbsenceReason → Nat
  | .noSlot => 1
  | .waveBusy => 2
  | .captureOff => 3
  | .waveLost => 4

/-- The waveform part, bytes 50 to 53; the filled count is read from the slot now. -/
def State.waveBytes (s : State) : WavePart → List Byte
  | .present k offset =>
    bigEndian 1 k.val ++ bigEndian 1 offset ++ bigEndian 1 s.cap.slots[k].filled ++ bigEndian 1 0
  | .absent why => bigEndian 3 0 ++ bigEndian 1 why.code

/-- The continuation link, bytes 54 and 55: absent, as zero, for every class but CONTINUATION. -/
def Record.linkBytes (r : Record) : List Byte :=
  bigEndian 2 (if r.cls = .continuation then r.link else 0)

/-- A peer verdict entry, 9 bytes. -/
def PeerVerdict.bytes (v : PeerVerdict) : List Byte :=
  bigEndian 1 v.addr.val ++ bigEndian 1 v.level.val ++ bigEndian 1 v.verdict.code ++
  bigEndian 1 (v.k.val + 1) ++ bigEndian 1 v.origin.code ++ signedBytes 2 v.dU ++ signedBytes 2 v.dI

/-- A record as the host reads it: 57 bytes and 9 for each peer verdict entry (R178). -/
def State.recordBytes (s : State) (r : Record) : List Byte :=
  bigEndian 2 r.id ++ bigEndian 1 r.cls.code ++ bigEndian 1 r.parts ++ bigEndian 2 r.flags.word ++
  stationTimeBytes r.time ++ bigEndian 4 r.durationMs ++ bigEndian 4 r.halfCycles ++
  r.measure.bytes ++ bigEndian 2 r.onset ++ verdictBytes r.verdict ++ locusBytes r.locus ++
  s.waveBytes r.wave ++ r.linkBytes ++ bigEndian 1 r.peers.length ++
  r.peers.flatMap PeerVerdict.bytes

end Sys2Proof.Machine
end

