-- ==== Sys2Proof/Machine/RecordPort.lean ====
section
/-! DEFINITION. The record port (ch. 11): the select periods, and the serving of every request.
The commands that serve take their operands from the request in service; a command whose request
is not in service changes no more than the clock (log entry 4). -/

namespace Sys2Proof.Machine

/-! Select periods (R169 to R173). -/

/-- The first complete byte of a request frame begins a request: PDOUT has carried 0xFF during it
(R169), the buffer is emptied, RDY deasserted, the read position cleared, and requests in service
or pending are superseded (R171). -/
def RecordPort.beginRequest (p : RecordPort) (code : Byte) : RecordPort :=
  { p with
    frame := .request code
    superseded := p.superseded || p.inService.isSome
    pendingReq := p.pendingReq.map fun r => (r.1, true)
    buffer := none
    readPos := 0
    rdy := false
    pdout := [0xFF] }

/-- REQUEST_BEGIN: the first complete byte of a select period, not 0x00, begins a request (R169,
R171). -/
def execRequestBegin (t : Nat) (code : Byte) (s : State) : Host.Outcome State Fault Refusal :=
  let s := s.elapse t
  .next (if s.port.frame = .none ∧ code ≠ 0 then s.withPort (s.port.beginRequest code) else s)

/-- A taken request enters service, or becomes the pending request in place of one already held
(R171). -/
def RecordPort.takeRequest (p : RecordPort) (r : Request) : RecordPort :=
  match p.inService with
  | none => { p with frame := .none, inService := some r, superseded := false }
  | some _ => { p with frame := .none, pendingReq := some (r, false) }

/-- REQUEST_TAKEN: at the rising edge of PSELN the request frame, its code byte and the complete
bytes after it, is taken (R171). -/
def execRequestTaken (t : Nat) (bytes : List Byte) (s : State) : Host.Outcome State Fault Refusal :=
  let s := s.elapse t
  .next (match s.port.frame with
  | .request code => s.withPort (s.port.takeRequest (decodeRequest (code :: bytes)))
  | .none | .read | .ignored => s)

/-- The port after a read frame of `count` bytes: PDOUT carried 0xFF, then the response, then 0xFF;
a complete read empties the buffer and deasserts RDY (R169, R173). -/
def RecordPort.readFrame (p : RecordPort) (count : Nat) : RecordPort :=
  match p.buffer with
  | none => { p with pdout := List.replicate count 0xFF, readPos := 0 }
  | some resp =>
    { p with
      pdout := 0xFF :: (resp ++ List.replicate (count - 1 - resp.length) 0xFF).take (count - 1)
      readPos := min (count - 1) resp.length
      buffer := if resp.length ≤ count - 1 then none else some resp
      rdy := if resp.length ≤ count - 1 then false else p.rdy }

/-- READ_FRAME: a select period of `count` complete bytes whose first is 0x00 (R169, R173). -/
def execReadFrame (t : Nat) (count : Nat) (s : State) : Host.Outcome State Fault Refusal :=
  let s := s.elapse t
  .next (if s.port.frame = .none ∧ 0 < count then s.withPort (s.port.readFrame count) else s)

/-- IGNORED_PERIOD_END: the rising edge of PSELN ends a period whose frame state is IGNORED (R169,
R183). -/
def execIgnoredPeriodEnd (t : Nat) (s : State) : Host.Outcome State Fault Refusal :=
  let s := s.elapse t
  .next (if s.port.frame = .ignored then s.withPort { s.port with frame := .none } else s)

/-! Serving (R172). -/

/-- The response is placed in the buffer and RDY asserted, or discarded where it is superseded
(R172 step 4). -/
def RecordPort.offer (p : RecordPort) (resp : List Byte) : RecordPort :=
  if p.superseded then p else { p with buffer := some resp, rdy := true }

/-- The request in service has been served; the pending request, if any, enters service with its
mark (R172). -/
def RecordPort.serveNext (p : RecordPort) : RecordPort :=
  match p.pendingReq with
  | none => { p with inService := none }
  | some (r, mark) => { p with inService := some r, superseded := mark, pendingReq := none }

/-- The answer to the request in service (R172 steps 3 and 4, R174). -/
def State.answer (s : State) (st : Status) (payload : List Byte) : State :=
  s.withPort (s.port.offer (responseBytes st payload)).serveNext

/-- MALFORMED_REQUEST is served with UNKNOWN and no effect (R171). -/
def execMalformedRequest (t : Nat) (s : State) : Host.Outcome State Fault Refusal :=
  let s := s.elapse t
  .next (if s.port.inService = some .malformed then s.answer .unknown [] else s)

/-- STATUS returns the station summary (R176). -/
def execStatus (t : Nat) (s : State) : Host.Outcome State Fault Refusal :=
  let s := s.elapse t
  .next (if s.port.inService = some .status then s.answer .done s.statusPayload else s)

/-- LIVE returns the live values of q; a q above 10 is answered NOT_PRESENT (R28, R176). -/
def execLive (t : Nat) (s : State) : Host.Outcome State Fault Refusal :=
  let s := s.elapse t
  .next (match s.port.inService with
  | some (.live q) =>
    if h : q.toNat < 11 then s.answer .done (s.livePayload ⟨q.toNat, h⟩) else s.answer .notPresent []
  | _ => s)

/-- REFERENCE returns the latest references and thresholds (R43, R176). -/
def execReference (t : Nat) (s : State) : Host.Outcome State Fault Refusal :=
  let s := s.elapse t
  .next (if s.port.inService = some .reference then s.answer .done s.referencePayload else s)

/-- HEAD returns the head record if it is CLOSED (R152, R177). -/
def execHead (t : Nat) (s : State) : Host.Outcome State Fault Refusal :=
  let s := s.elapse t
  .next (if s.port.inService = some .head then
    match s.store.queue with
    | [] => s.answer .empty []
    | r :: _ => if r.isOpen then s.answer .notReady [] else s.answer .done (s.recordBytes r)
  else s)

/-- The head record leaves the queue, after its hold on a slot is dropped (R153). -/
def State.removeHead (s : State) (r : Record) : State :=
  let s' := match r.wave with
    | .present k _ => s.dropHold k
    | .absent _ => s
  s'.withStore { s'.store with queue := s'.store.queue.tail }

/-- RELEASE is answered from the queue; the CLOSED head with the id named is removed (R153). -/
def execRelease (t : Nat) (s : State) : Host.Outcome State Fault Refusal :=
  let s := s.elapse t
  .next (match s.port.inService with
  | some (.release id) =>
    match s.store.queue with
    | [] => s.answer .notPresent []
    | r :: rest =>
      if r.id = id.toNat then
        if r.isOpen then s.answer .notReady [] else (s.removeHead r).answer .done []
      else if rest.any fun x => x.id == id.toNat then s.answer .notHead []
      else s.answer .notPresent []
  | _ => s)

/-- The slot that WAVE reads: the record is held, its waveform part present, q at most 10 and h at
most 39 (R177), and position h has been copied (R83). -/
def State.waveSlot (s : State) (id : BitVec 16) (q h : Byte) : Option (Fin 8) :=
  match (s.recordOf id.toNat).map Record.wave with
  | some (.present k _) =>
    if q.toNat ≤ 10 ∧ h.toNat ≤ 39 ∧ h.toNat < s.cap.slots[k].filled then some k else none
  | some (.absent _) | none => none

/-- The 64 samples of quantity `q` at position `h` of slot `k`, 128 bytes (R177). -/
def State.wavePayload (s : State) (k : Fin 8) (q h : Byte) : List Byte :=
  (List.finRange 64).flatMap fun i =>
    signedBytes 2 (s.cap.slots[k].contents[Fin.ofNat 40 h.toNat][Fin.ofNat 11 q.toNat])[i]

/-- WAVE returns the samples of one quantity in one half-cycle, or NOT_PRESENT; a read that `fails`
its check is a memory check error in the slot (R83, R177). -/
def execWave (t : Nat) (fails : Bool) (s : State) : Host.Outcome State Fault Refusal :=
  let s := s.elapse t
  .next (match s.port.inService with
  | some (.wave id q h) =>
    match s.waveSlot id q h with
    | none => s.answer .notPresent []
    | some k =>
      if fails then (s.memoryError k).answer .notPresent []
      else s.answer .done (s.wavePayload k q h)
  | _ => s)

/-- INTERVAL returns the entry with the sequence number named, if the ring holds it (R165). -/
def execInterval (t : Nat) (s : State) : Host.Outcome State Fault Refusal :=
  let s := s.elapse t
  .next (match s.port.inService with
  | some (.interval seq) =>
    match s.agg.ring.find? fun e => e.seq == seq.toNat with
    | none => s.answer .notPresent []
    | some e => s.answer .done e.payload
  | _ => s)

/-- TALLY returns the five sets and clears them in the same step (R155). -/
def execTally (t : Nat) (s : State) : Host.Outcome State Fault Refusal :=
  let s := s.elapse t
  .next (if s.port.inService = some .tally then
    (s.withStore { s.store with tally := Vector.replicate 5 tallyClear }).answer .done s.tallyPayload
  else s)

/-- CAUSES returns the cause set and the details and clears them; ATTN follows (R190, R191). -/
def execCauses (t : Nat) (s : State) : Host.Outcome State Fault Refusal :=
  let s := s.elapse t
  .next (if s.port.inService = some .causes then
    (s.withCtl { s.ctl with causes := causesClear, attn := attnOf causesClear s.attnMask }).answer
      .done (causesPayload s.ctl.causes)
  else s)

/-- PEERS returns the sixteen peer table entries (R118, R176). -/
def execPeers (t : Nat) (s : State) : Host.Outcome State Fault Refusal :=
  let s := s.elapse t
  .next (if s.port.inService = some .peers then s.answer .done s.peersPayload else s)

/-! The configuration items (R180, R181). -/

/-- The number that a SET value stands for: unsigned for the time base, else signed (R181). -/
def setValue (i : Fin 30) (v : BitVec 32) : Int := if i = 28 then (v.toNat : Int) else v.toInt

/-- The value that a SET stores: the nearer end of the range where it lies outside (R181). -/
def storedValue (i : Fin 30) (v : BitVec 32) : Int :=
  clampInt (itemRow i).lo (itemRow i).hi (setValue i v)

/-- The stored item is taken by its owner: the declared voltage reseeds the references and the
thresholds, items 2 to 5 recompute the thresholds (R40), the mask reassesses ATTN (R191). -/
def State.itemTaken (s : State) (i : Fin 30) : State :=
  if i = 0 then s.reseedDeclared
  else if 2 ≤ i.val ∧ i.val ≤ 5 then s.recomputeSets
  else if i = 29 then s.withCtl { s.ctl with attn := attnOf s.ctl.causes s.attnMask }
  else s

/-- Item `i` stored as `x` and taken by its owner (R181). -/
def State.storeItem (s : State) (i : Fin 30) (x : Int) : State :=
  (s.withCtl { s.ctl with items := s.ctl.items.set i x }).itemTaken i

/-- SET stores an item in CONFIG, clamped to its range; LOCKED outside CONFIG, UNKNOWN above item
29 (R181). -/
def execSet (t : Nat) (s : State) : Host.Outcome State Fault Refusal :=
  let s := s.elapse t
  .next (match s.port.inService with
  | some (.set item v) =>
    if h : item.toNat < 30 then
      let i : Fin 30 := ⟨item.toNat, h⟩
      if s.ctl.state ≠ .config then s.answer .locked []
      else
        (s.storeItem i (storedValue i v)).answer
          (if storedValue i v = setValue i v then .done else .clamped)
          (signedBytes 4 (storedValue i v))
    else s.answer .unknown []
  | _ => s)

/-- GET returns an item in four bytes, or UNKNOWN above item 29 (R181). -/
def execGet (t : Nat) (s : State) : Host.Outcome State Fault Refusal :=
  let s := s.elapse t
  .next (match s.port.inService with
  | some (.get item) =>
    if h : item.toNat < 30 then s.answer .done (signedBytes 4 (s.item ⟨item.toNat, h⟩))
    else s.answer .unknown []
  | _ => s)

/-! Start, restart and link reset (R182). -/

/-- START is refused: swell start - hysteresis <= dip start + hysteresis (R182). -/
def State.conflict (s : State) : Bool := decide (s.item 3 - s.item 5 ≤ s.item 2 + s.item 5)

/-- START, answered by the station state and the conflict check (R182). -/
def execStart (t : Nat) (s : State) : Host.Outcome State Fault Refusal :=
  let s := s.elapse t
  .next (if s.port.inService = some .start then
    match s.ctl.state with
    | .config => if s.conflict then s.answer .conflict [] else s.takeStart.answer .done []
    | .run => s.answer .done []
    | .halted => s.answer .halted []
  else s)

/-- RESTART is handed to every block and answered DONE; `markLow` is the level of MARK read afresh
(R98, R182, R186). -/
def execRestart (t : Nat) (markLow : Bool) (s : State) : Host.Outcome State Fault Refusal :=
  let s := s.elapse t
  .next (if s.port.inService = some .restart then (s.takeRestart markLow).answer .done [] else s)

/-- LINK_RESET is handed to the mark line interface and the notice link and answered DONE (R98,
R121, R182, R186). -/
def execLinkReset (t : Nat) (markLow : Bool) (s : State) : Host.Outcome State Fault Refusal :=
  let s := s.elapse t
  .next (if s.port.inService = some .linkReset then (s.takeLinkReset markLow).answer .done [] else s)

end Sys2Proof.Machine
end

