-- ==== Sys2Proof/Machine/Station.lean ====
section
/-! DEFINITION. The command PIN_RESET. -/

namespace Sys2Proof.Machine

/-- PIN_RESET: the assertion and release of RESETN. The straps are latched and every block takes
its pin-reset state; the clock counts from the release (R23, R179, R192). The levels of MARK and
PSELN are those at the release (R98, R183). -/
def execPinReset (straps : Straps) (markLow pselLow : Bool) (s : State) :
    Host.Outcome State Fault Refusal :=
  .next (State.afterPinReset straps markLow pselLow s.free s.pending)

end Sys2Proof.Machine
end

