-- ==== Sys2Proof/Machine/Dispatch.lean ====
section
/-! DEFINITION. The effect of every command on everything but the queue: one arm per command. -/

namespace Sys2Proof.Machine

/-- The effect of a command (spec/opcode_table.json). -/
def exec (i : Instr) (s : State) : Host.Outcome State Fault Refusal :=
  match i with
  | .pinReset straps markLow pselLow => Sys2Proof.Machine.execPinReset straps markLow pselLow s
  | .takeResult t ch code => Sys2Proof.Machine.execTakeResult t ch code s
  | .positionClose checks => Sys2Proof.Machine.execPositionClose checks s
  | .cycleTimeout t => Sys2Proof.Machine.execCycleTimeout t s
  | .trackerTakesRefresh t => Sys2Proof.Machine.execTrackerTakesRefresh t s
  | .trackerTakesEndReport t => Sys2Proof.Machine.execTrackerTakesEndReport t s
  | .detectorTakesRefresh t failed => Sys2Proof.Machine.execDetectorTakesRefresh t failed s
  | .maxOpenExpiry t => Sys2Proof.Machine.execMaxOpenExpiry t s
  | .correlationTakesRefresh t => Sys2Proof.Machine.execCorrelationTakesRefresh t s
  | .aggregatorTakesRefresh t => Sys2Proof.Machine.execAggregatorTakesRefresh t s
  | .markFallingEdge t failed => Sys2Proof.Machine.execMarkFallingEdge t failed s
  | .markRelease t => Sys2Proof.Machine.execMarkRelease t s
  | .pulseEnd t => Sys2Proof.Machine.execPulseEnd t s
  | .stuckExpiry t => Sys2Proof.Machine.execStuckExpiry t s
  | .recoveryExpiry t => Sys2Proof.Machine.execRecoveryExpiry t s
  | .presentPeriodExpiry t => Sys2Proof.Machine.execPresentPeriodExpiry t s
  | .attemptStart t => Sys2Proof.Machine.execAttemptStart t s
  | .readbackMismatch t => Sys2Proof.Machine.execReadbackMismatch t s
  | .attemptSuccess t => Sys2Proof.Machine.execAttemptSuccess t s
  | .frameMalformed t fault => Sys2Proof.Machine.execFrameMalformed t fault s
  | .frameComplete t => Sys2Proof.Machine.execFrameComplete t s
  | .receiverRecovered t => Sys2Proof.Machine.execReceiverRecovered t s
  | .peerAgingExpiry t addr => Sys2Proof.Machine.execPeerAgingExpiry t addr s
  | .contextClose t slot => Sys2Proof.Machine.execContextClose t slot s
  | .scrubComplete t slot => Sys2Proof.Machine.execScrubComplete t slot s
  | .scrubLocationError t slot => Sys2Proof.Machine.execScrubLocationError t slot s
  | .intervalBoundary t => Sys2Proof.Machine.execIntervalBoundary t s
  | .requestBegin t code => Sys2Proof.Machine.execRequestBegin t code s
  | .requestTaken t bytes => Sys2Proof.Machine.execRequestTaken t bytes s
  | .readFrame t count => Sys2Proof.Machine.execReadFrame t count s
  | .malformedRequest t => Sys2Proof.Machine.execMalformedRequest t s
  | .status t => Sys2Proof.Machine.execStatus t s
  | .live t => Sys2Proof.Machine.execLive t s
  | .reference t => Sys2Proof.Machine.execReference t s
  | .head t => Sys2Proof.Machine.execHead t s
  | .release t => Sys2Proof.Machine.execRelease t s
  | .wave t fails => Sys2Proof.Machine.execWave t fails s
  | .interval t => Sys2Proof.Machine.execInterval t s
  | .tally t => Sys2Proof.Machine.execTally t s
  | .causes t => Sys2Proof.Machine.execCauses t s
  | .peers t => Sys2Proof.Machine.execPeers t s
  | .set t => Sys2Proof.Machine.execSet t s
  | .get t => Sys2Proof.Machine.execGet t s
  | .start t => Sys2Proof.Machine.execStart t s
  | .restart t markLow => Sys2Proof.Machine.execRestart t markLow s
  | .linkReset t markLow => Sys2Proof.Machine.execLinkReset t markLow s
  | .noticeFallingEdge t sample => Sys2Proof.Machine.execNoticeFallingEdge t sample s
  | .ignoredPeriodEnd t => Sys2Proof.Machine.execIgnoredPeriodEnd t s

end Sys2Proof.Machine
end

