-- ==== Sys2Proof/Safety.lean ====
section
/-! DEFINITION. What claims about runs of this block are stated in: the invariants of a sound
state, the blocks a command may change, and the moment it comes at. -/

namespace Sys2Proof.Machine

/-! Invariants. -/

/-- RDY is asserted while the response buffer holds a response (ch. 11 sec. 11.1, R172). -/
abbrev State.rdyFollowsBuffer (s : State) : Prop := s.port.rdy = s.port.buffer.isSome

/-- ATTN is asserted while a fault cause, or an unmasked event cause, is set (R191). -/
abbrev State.attnFollowsCauses (s : State) : Prop :=
  s.ctl.attn = true ↔ ∃ b : Fin 13, s.ctl.causes[b].isSet = true ∧
    (b.val < 8 ∨ s.attnMask.testBit (b.val - 8) = false)

/-- Every block holds the station state that the controller holds (R184): a stop is taken by all
blocks within one command. -/
abbrev State.viewsAgree (s : State) : Prop :=
  s.cap.view = s.ctl.state ∧ s.mark.view = s.ctl.state ∧ s.link.view = s.ctl.state ∧
  s.corr.view = s.ctl.state ∧ s.store.view = s.ctl.state

/-- The counts of the manual's state tables keep their ranges (R8, R11, R17, R26, R36, R70, R103,
R109, R116, R143, R144, R147, R164). -/
abbrev State.withinCapacity (s : State) : Prop :=
  (∀ k : Fin 8, s.cfe.ch[k].hold ≤ 128) ∧ s.cfe.trk.validCount ≤ 5 ∧ s.rms.fill ≤ 128 ∧
  s.rms.history.length ≤ 4 ∧ (∀ k : Fin 3, s.ref.d[k].settle ≤ 100) ∧
  (∀ k : Fin 8, s.cap.slots[k].filled ≤ 40) ∧ s.link.queue.length ≤ 8 ∧ s.link.attempts ≤ 7 ∧
  s.store.queue.length ≤ 48 ∧ (1 ≤ s.store.nextId ∧ s.store.nextId ≤ 65535) ∧
  s.agg.ring.length ≤ 144 ∧ (∀ a : Fin 16, s.link.peers[a].unmatched ≤ 255) ∧
  ∀ c : Fin 5, s.store.tally[c].count ≤ 65535

/-- Every sample the front end holds lies within -32767..32767 (R3, R4, R5). -/
abbrev State.samplesInRange (s : State) : Prop :=
  (∀ k : Fin 8, s.cfe.ch[k].lastScaled.natAbs ≤ 32767) ∧
  (∀ k : Fin 3, s.cfe.dq[k].lastScaled.natAbs ≤ 32767) ∧
  (∀ (q : Fin 11) (p : Fin 640), s.cfe.rings[q][p].natAbs ≤ 32767)

/-- The sum of squares of each quantity is that of the last 128 samples written (R17). -/
abbrev State.sumsMatchRings (s : State) : Prop :=
  ∀ q : Fin 11, s.rms.sums[q] =
    ((List.finRange 128).map fun j =>
      square (s.cfe.rings[q][s.cfe.pos - 1 - Fin.ofNat 640 j.val])).sum

/-- Every value of the refresh history fits the range of a one-cycle value (R21, R22). -/
abbrev State.valuesInRange (s : State) : Prop :=
  ∀ e ∈ s.rms.history, ∀ q : Fin 11, e.value[q] ≤ 32767

/-- Rf of every quantity lies in its band of the declared voltage (R35). -/
abbrev State.referencesInBand (s : State) : Prop :=
  ∀ k : Fin 3, bandLow s.declared ≤ s.ref.d[k].rf ∧ s.ref.d[k].rf ≤ bandHigh s.declared

/-- Every configuration item lies in its range (R180, R181). -/
abbrev State.itemsInRange (s : State) : Prop :=
  ∀ i : Fin 30, (itemRow i).lo ≤ s.item i ∧ s.item i ≤ (itemRow i).hi

/-- The number of slots that are FILLING. -/
def State.fillings (s : State) : Nat :=
  (List.finRange 8).countP fun k => s.cap.slots[k].state == .filling

/-- At most one slot is FILLING (R71). -/
abbrev State.oneFilling (s : State) : Prop := s.fillings ≤ 1

/-- Outside RUN nothing is in progress: the detector is in WATCH, no context is open, no slot is
filling, no interval is held, the PRESENT period does not run, the drive is OFF and the
transmitter IDLE (R45, R85, R93, R106, R138, R166, R185, R186). -/
abbrev State.quietOutsideRun (s : State) : Prop :=
  s.ctl.state ≠ .run →
    s.det.mode = .watch ∧ (∀ k : Fin 4, s.corr.slots[k] = none) ∧ s.fillings = 0 ∧
    s.agg.cur = none ∧ s.ctl.presentExpiry = none ∧ s.mark.drive = false ∧ s.link.tx = .idle

/-- The transmitter is IDLE exactly where the queue is empty or the station is not in RUN, and in
CONFIG the queue is empty (R106, R120). -/
abbrev State.transmitterFollowsQueue (s : State) : Prop :=
  (s.link.tx = .idle ↔ (s.link.queue = [] ∨ s.link.view ≠ .run)) ∧
  (s.link.view = .config → s.link.queue = [])

/-- The record names slot `k` in its waveform part. -/
def Record.names (r : Record) (k : Fin 8) : Bool :=
  match r.wave with
  | .present j _ => j == k
  | .absent _ => false

/-- The holder count of every slot is the number of records that name it; a slot that is FREE or
SCRUBBING has none, and a HELD one has one at least (R77, R79, R80, R153). -/
abbrev State.holdersCountRecords (s : State) : Prop :=
  (∀ k : Fin 8, s.cap.slots[k].holders = s.store.queue.countP fun r => r.names k) ∧
  ∀ k : Fin 8, s.cap.slots[k].holders = 0 ↔ s.cap.slots[k].inUse = false

/-- No CLOSED record names a slot that is FILLING (R149). -/
abbrev State.closedAreNotFilling (s : State) : Prop :=
  ∀ r ∈ s.store.queue, r.isOpen = false → s.slotFilling r = false

/-- The ids of the records held are those that precede the next one, in order (R144, R145). -/
abbrev State.idsInOrder (s : State) : Prop :=
  ∀ i : Fin s.store.queue.length,
    (s.store.queue[i].id + (s.store.queue.length - i.val)) % 65535 = s.store.nextId % 65535 ∧
    1 ≤ s.store.queue[i].id ∧ s.store.queue[i].id ≤ 65535

/-- No OPEN record meets all three conditions of CLOSED: a record closes as soon as it does, and
then raises RECORD_CLOSED (R149). -/
abbrev State.openRecordsWait (s : State) : Prop :=
  ∀ r ∈ s.store.queue, r.isOpen = true → s.closable r = false

/-- A flag that keeps a record OPEN has its reason: the running flag is set only in EVENT and on the
event record, and anchor open only on the linked record of an OPEN context (R67, R125, R149). -/
abbrev State.flagsHaveReasons (s : State) : Prop :=
  ∀ r ∈ s.store.queue,
    (r.running = true → ∃ m expiry, s.det.mode = .event m r.id expiry) ∧
    (r.anchorOpen = true → ∃ (k : Fin 4) (c : Context), s.corr.slots[k] = some c ∧ c.linked = r.id)

/-- The record linked to an OPEN context is held, is OPEN and has its anchor open, and no record is
linked to two contexts (R122, R124, R125, R145). -/
abbrev State.linkedAreOpen (s : State) : Prop :=
  (∀ (k : Fin 4) (c : Context), s.corr.slots[k] = some c → c.linked ≠ 0 →
    ∃ r ∈ s.store.queue, r.id = c.linked ∧ r.isOpen = true ∧ r.anchorOpen = true) ∧
  ∀ (j k : Fin 4) (c d : Context), j ≠ k → s.corr.slots[j] = some c → s.corr.slots[k] = some d →
    c.linked ≠ 0 → c.linked ≠ d.linked

/-- Only a station that is sending or receiving waits for the end of a stop bit: any other finds
NOTICE idle whenever it is high (R100). -/
abbrev State.stopBitAwaitedOnLine (s : State) : Prop :=
  s.link.onLine = false → s.link.lastStop ≤ s.time

/-- A peer verdict list holds one entry for an address and none for the station's own (R113,
R116, R133). -/
abbrev peerListSound (own : Fin 16) (l : List PeerVerdict) : Prop :=
  (l.map PeerVerdict.addr).Nodup ∧ ∀ p ∈ l, p.addr ≠ own

/-- Every peer verdict list, of a context and of a record, is sound, and the peer table's entry for
the station's own address is ABSENT with nothing known (ch. 7 sec. 7.1, R133). -/
abbrev State.peersSound (s : State) : Prop :=
  (∀ (k : Fin 4) (c : Context), s.corr.slots[k] = some c →
    peerListSound s.ctl.straps.addr c.peers) ∧
  (∀ r ∈ s.store.queue, peerListSound s.ctl.straps.addr r.peers) ∧
  s.link.peers[s.ctl.straps.addr] = ⟨false, none, none, none, none, 0⟩

/-- Record times do not decrease from the head to the tail (R143, R146). -/
abbrev State.recordTimesInOrder (s : State) : Prop :=
  s.store.queue.Pairwise fun a b =>
    a.time.sec < b.time.sec ∨ a.time.sec = b.time.sec ∧ a.time.ms ≤ b.time.ms

/-- The sequence numbers of the interval ring are consecutive, and the next one follows the last
(R164). -/
abbrev State.ringInOrder (s : State) : Prop :=
  s.agg.nextSeq < 2 ^ 32 ∧ ∀ i : Fin s.agg.ring.length,
    s.agg.ring[i].seq < 2 ^ 32 ∧
    (s.agg.ring[i].seq + (s.agg.ring.length - i.val)) % 2 ^ 32 = s.agg.nextSeq

/-- No two OPEN contexts have one edge time (R122). -/
abbrev State.edgesDiffer (s : State) : Prop :=
  ∀ (j k : Fin 4) (c d : Context), j ≠ k → s.corr.slots[j] = some c → s.corr.slots[k] = some d →
    c.edge ≠ d.edge

/-! What a position close meets. -/

/-- Dk has been clamped, or a channel it is formed from has, in this half-cycle up to the position
that closes (R4). -/
def State.clipSeen (s : State) (k : Fin 3) : Prop :=
  let a := s.cfe.ch[k.val]
  let b := s.cfe.ch[(k.val + 1) % 3]
  s.cfe.dq[k].clip = true ∨ a.clampedNow = true ∨
    (s.ctl.straps.wiring = .delta ∧
      (b.clampedNow = true ∨ 32767 < (a.lastScaled - b.lastScaled).natAbs))

/-- The tracker is FREE_RUN at some close of this half-cycle, `s'` being the state after the close
of `s` (R6; log entry 8). -/
def freeRunSeen (s s' : State) : Prop :=
  s.cfe.freeRunSeen = true ∨ s.cfe.trk.state = .freeRun ∨ s'.cfe.trk.state = .freeRun

/-- The position that closes ends a half-cycle, and the start-up fill is complete with it: a
refresh is emitted (R6, R19, R20). -/
abbrev State.emitsNext (s : State) : Prop := s.cfe.pos.val % 64 = 63 ∧ 127 ≤ s.rms.fill

/-- The position that closes is a double overrun in RUN, which brings HALT (R8, R187). -/
abbrev State.haltsNext (s : State) : Prop :=
  s.ctl.state = .run ∧ (∃ k : Fin 8, s.cfe.ch[k].taken = false) ∧ ∃ j : Fin 8, 0 < s.cfe.ch[j].hold

/-! What a new record, a memory check error and an interval that ends leave. -/

/-- The record `s.store.nextId` has been created at the tail of the queue of `s`, STORE_FULL being
raised where it is the 48th (R145), and `s'` is what its capture request, anchored at refresh `a`,
then makes of the rings, the history and the capture unit of `s` (R71; the copies and a failed one
among them: log entries 11, 16 and 28). -/
def recordMade (s s' : State) (a : RefIndex) (failed : Option (Fin 9)) : Prop :=
  (∃ (made : State) (r : Record), s' = made.captureRequest s.store.nextId a failed ∧
    made.store.queue = s.store.queue ++ [r] ∧ r.id = s.store.nextId ∧ made.cap = s.cap ∧
    made.rms = s.rms ∧ made.cfe = s.cfe) ∧
  s'.store.nextId = (if 65535 ≤ s.store.nextId then 1 else s.store.nextId + 1) ∧
  s'.ctl.causes[9] =
    if s.store.queue.length = 47 then ⟨true, 0, false⟩ else s.ctl.causes[9]

/-- What a memory check error in slot `k`, taken in `s`, has made in `s'`. It is a double capture
fault where a scrub is in progress in any slot and the unit is ON (R79, R81, R82).
1. SLOT_ERROR names the slot; a double fault raises CAPTURE_OFF too and turns the unit OFF.
2. A slot in use is SCRUBBING without holders, and a scrub of 5 ms runs where the unit stays ON.
3. A double fault abandons every scrub and ends the fill in any other slot, which is HELD.
4. Every record that names a slot so lost is WAVE_LOST and keeps every other field; a record that
only its slot's fill kept OPEN closes.
That a slot in SCRUBBING keeps its contents, its scrub running or abandoned, is the model's choice
(DESIGN CHOICE, log entry 28). -/
def errsInto (s s' : State) (k : Fin 8) : Prop :=
  let double := s.cap.on && (List.finRange 8).any fun j => s.cap.slots[j].scrubEnd.isSome
  let lost (r : Record) : Bool := s.cap.slots[k].inUse && r.names k
  let stopped (r : Record) : Prop := double = true ∧
    ∃ (j : Fin 8) (offset : Nat), r.wave = .present j offset ∧ j ≠ k ∧
      s.cap.slots[j].state = .filling
  s'.ctl.causes[2] = ⟨true, k.val, false⟩ ∧
  s'.ctl.causes[3] = (if double then ⟨true, k.val, false⟩ else s.ctl.causes[3]) ∧
  s'.cap.on = (s.cap.on && !double) ∧
  (s.cap.slots[k].inUse = true → s'.cap.slots[k] = { s.cap.slots[k] with
    state := .scrubbing, holders := 0
    scrubEnd := if s.cap.on && !double then some (s'.now + 5) else none }) ∧
  (s.oneFilling → ∀ j : Fin 8, (j ≠ k ∨ s.cap.slots[k].inUse = false) →
    s'.cap.slots[j] =
      if double then { s.cap.slots[j] with
        scrubEnd := none
        state := if s.cap.slots[j].state = .filling then .held else s.cap.slots[j].state }
      else s.cap.slots[j]) ∧
  s'.store = { s.store with queue := s'.store.queue } ∧
  s'.store.queue.length = s.store.queue.length ∧
  ∀ (i : Nat) (r : Record), s.store.queue[i]? = some r → ∃ r', s'.store.queue[i]? = some r' ∧
    r' = { r with
      isOpen := r'.isOpen
      wave := if lost r then .absent .waveLost else r.wave
      flags := { r.flags with
        waveLost := r.flags.waveLost || lost r, aborted := r'.flags.aborted } } ∧
    (s.idsInOrder → s.withinCapacity → s.oneFilling →
      ((lost r = true ∨ stopped r) → (r'.isOpen = true ↔
        r.isOpen = true ∧ (r.running = true ∨ r.anchorOpen = true))) ∧
      (¬(lost r = true ∨ stopped r) → r'.isOpen = r.isOpen) ∧
      (r'.isOpen = r.isOpen → r'.flags.aborted = r.flags.aborted) ∧
      (r.isOpen = true → r'.isOpen = false → s'.ctl.causes[8] = ⟨true, 0, false⟩ ∧
        r'.flags.aborted = (r.flags.aborted || (s.store.view != .run))))

/-- The entry holds what the accumulators of the interval give: the refresh count, the flags, the
square roots of the mean squares, minima, maxima and the mean frequency, with zeros where nothing
was taken (R163). -/
def entryHolds (i : Interval) (en : IntervalEntry) : Prop :=
  en.count = i.acc.count ∧ en.flagged = i.acc.flagged ∧ en.freeRun = i.acc.freeRun ∧
  en.clipped = i.acc.clip ∧ (i.acc.count = 0 → ∀ j : Fin 8, en.rms[j] = 0) ∧
  (i.acc.count ≠ 0 → ∀ j : Fin 8, en.rms[j] ^ 2 ≤ i.acc.sums[j] / i.acc.count ∧
    i.acc.sums[j] / i.acc.count < (en.rms[j] + 1) ^ 2) ∧
  (∀ j : Fin 4, en.dmin[j] = (if i.acc.count = 0 then 0 else (i.acc.dmin[j]).getD 0) ∧
    en.dmax[j] = (if i.acc.count = 0 then 0 else (i.acc.dmax[j]).getD 0)) ∧
  en.meanFreq = (if i.acc.locked = 0 then 0 else i.acc.freqSum / i.acc.locked)

/-- Interval `i`, begun as the current interval of `s`, has been written into the ring of at most
144 entries as one of `length` seconds with the next sequence number, and INTERVAL_DONE raised
(R163, R164). -/
def intervalWritten (s s' : State) (i : Interval) (length : Nat) (isPartial : Bool) : Prop :=
  s'.ctl.causes[10] = ⟨true, 0, false⟩ ∧
  s'.agg.nextSeq = (s.agg.nextSeq + 1) % 4294967296 ∧
  ∃ en, s'.agg.ring = (s.agg.ring ++ [en]).drop (s.agg.ring.length + 1 - 144) ∧
    en.seq = s.agg.nextSeq ∧ en.start = i.start ∧ en.length = length ∧
    en.isPartial = isPartial ∧ entryHolds i en

/-- A stop has ended the interval of `s`, `i` being that interval with all that was taken into it:
it is written PARTIAL with the whole seconds it lasted, and none is open (R166). -/
def endsPartial (s s' : State) (i : Interval) : Prop :=
  s'.agg.cur = none ∧
  intervalWritten s s' i ((s'.now - s.store.startTime - i.elapsed).toNat / 1000) true

/-- No interval has been open, and none is written (R166). -/
def noInterval (s s' : State) : Prop :=
  s'.agg.cur = none ∧ s'.agg.ring = s.agg.ring ∧ s'.agg.nextSeq = s.agg.nextSeq ∧
  s'.ctl.causes[10] = s.ctl.causes[10]

/-- No reader has a refresh to take and no report of an end is outstanding, so that nothing is taken
in RUN between the moments at which two blocks take a stop (R29, R36). -/
abbrev State.nothingWaits (s : State) : Prop :=
  s.ref.handed = [] ∧ s.ref.endReports = 0 ∧ s.det.handed = [] ∧ s.corr.handed = [] ∧
  s.agg.handed = []

/-- A locked cycle ends with the position that closes: a valid one, the tracker having been LOCKED
before its end. `s'` is the state after the close of `s`, and the frequency measured there is that
of the cycle (R10, R11, R13). -/
def lockedCycleEnds (s s' : State) : Prop :=
  s.cfe.trk.state = .locked ∧ s.cfe.trk.armed = true ∧ s.cfe.trk.start ≠ none ∧
  s.cfe.dq[0].lastScaled < 0 ∧ 0 ≤ s'.cfe.dq[0].lastScaled ∧ s'.cfe.trk.state = .locked

/-- The accumulators with a locked cycle of frequency `f` added (R161). -/
def Accumulators.addCycle (a : Accumulators) (f : Nat) : Accumulators :=
  { a with freqSum := a.freqSum + f, locked := a.locked + 1 }

/-- A VERDICT with property `p` is queued and not withdrawn: a stop, or a LINK_RESET, reports its
drop (R105, R120). -/
def State.verdictQueued (s : State) (p : QueuedVerdict → Prop) : Prop :=
  ∃ v, QueuedFrame.verdict v ∈ s.link.queue ∧ v.withdrawn = false ∧ p v

/-! What a stop leaves. -/

/-- Nothing that was in progress outlasts a stop: every record held at it is still held and CLOSED,
the record of a VERDICT dropped by it carries UNSENT (R120, R132), every context is closed (R138),
and the detector is in WATCH (R45). -/
def stopLeavesNothing (s s' : State) : Prop :=
  s'.det.mode = .watch ∧ (∀ k : Fin 4, s'.corr.slots[k] = none) ∧
  (∀ r ∈ s'.store.queue, r.isOpen = false) ∧
  ∀ r ∈ s.store.queue, ∃ r' ∈ s'.store.queue, r'.id = r.id ∧
    ((r.flags.unsent = true ∨ s.verdictQueued fun v => v.recordId ≠ 0 ∧ v.recordId = r.id) →
      r'.flags.unsent = true)

/-- What RESTART or HALT, taken in `s`, has made in `s'` of the detector's work and of the records:
an event is finished ABORTED (R63), a held period makes an ABORTED CONTINUATION or goes to the
tally (R64), and every OPEN record has closed ABORTED (R149, R151). A new CONTINUATION raises
STORE_FULL as the 48th record, and RECORD_CLOSED as it closes (R145, R149). -/
def abortsInto (s s' : State) : Prop :=
  s'.det.mode = .watch ∧ (∀ k : Fin 3, s'.det.cond[k] = .back) ∧
  (∀ r ∈ s.store.queue, r.isOpen = true →
    ∃ r' ∈ s'.store.queue, r'.id = r.id ∧ r'.isOpen = false ∧ r'.flags.aborted = true ∧
      r'.running = false ∧ r'.anchorOpen = false) ∧
  (∀ m id expiry, s.det.mode = .event m id expiry →
    let cls : RecordClass := if m.int then .interruption else if m.low then .dip else .swell
    let halves := min ((m.last - m.crossing).toNat + 1) 4294967295
    let ms := min (s'.now - m.time).toNat 4294967295
    (id ≠ 0 → ∀ r ∈ s.store.queue, r.id = id → ∃ r' ∈ s'.store.queue, r'.id = id ∧
      r'.flags.aborted = true ∧ r'.cls = cls ∧ r'.halfCycles = halves ∧ r'.durationMs = ms) ∧
    (id = 0 → s'.store.queue.length = s.store.queue.length ∧ s'.store.tally[cls.index] =
      s.store.tally[cls.index].add m.measure.residual m.measure.maximum ms)) ∧
  ∀ m id, s.det.mode = .held m id →
    let ms := min (s'.now - m.time).toNat 4294967295
    (s.store.queue.length < 48 → ∃ r ∈ s'.store.queue, r.id = s.store.nextId ∧
      r.cls = .continuation ∧ r.link = id ∧ r.isOpen = false ∧ r.flags.aborted = true ∧
      r.wave = .absent .captureOff ∧ r.measure.dmin = m.dmin ∧ r.measure.dmax = m.dmax ∧
      r.onset = m.onset ∧ r.halfCycles = min ((m.last - m.crossing).toNat + 1) 4294967295 ∧
      r.durationMs = ms ∧ s'.ctl.causes[8] = ⟨true, 0, false⟩ ∧ s'.ctl.causes[9] =
        if s.store.queue.length = 47 then ⟨true, 0, false⟩ else s.ctl.causes[9]) ∧
    (48 ≤ s.store.queue.length → s'.store.queue.length = s.store.queue.length ∧
      s'.store.tally[4] = s.store.tally[4].add m.measure.residual m.measure.maximum ms)

/-- What the early close of the context `c` of slot `k` has made in `s'` of its linked record: the
peer verdict list and UNSENT are copied, UNSENT with the report of a VERDICT that the stop drops, in
whatever order (R120, R132); without an own verdict the two blocks stay as they were and the record
is ABORTED; with one they are copied, unless the record was, or may meanwhile have
been made, ABORTED by the detector (R138, R139). -/
def closesEarlyInto (s s' : State) (k : Fin 4) (c : Context) : Prop :=
  s'.corr.slots[k] = none ∧
  (c.linked ≠ 0 → ∀ r ∈ s.store.queue, r.id = c.linked → ∃ r' ∈ s'.store.queue, r'.id = r.id ∧
      r'.peers = c.peers ∧ r'.anchorOpen = false ∧
      (r'.flags.unsent = true ↔ r.flags.unsent = true ∨ c.unsent = true ∨
        s.verdictQueued fun v => v.edge = c.edge ∨ v.recordId ≠ 0 ∧ v.recordId = r.id) ∧
      (c.own = none → r'.flags.aborted = true ∧ r'.verdict = r.verdict ∧ r'.locus = r.locus) ∧
      (∀ o, c.own = some o →
        let copied := r'.verdict = some ⟨o.verdict, o.k, o.dU, o.dI⟩ ∧
          r'.flags.preDisturbed = o.preDisturbed ∧
          ∃ l, r'.locus = some l ∧
            (l.kind, l.level, l.addr, l.ambiguous) = locusOf (reporters s.ctl.straps c) ∧
            l.reporters = 1 + c.peers.length
        let kept := r'.verdict = r.verdict ∧ r'.locus = r.locus
        (r.flags.aborted = true → kept) ∧
        (r.flags.aborted = false → (∀ m expiry, s.det.mode ≠ .event m r.id expiry) → copied) ∧
        (r.flags.aborted = false → copied ∨ kept)))

/-! Bytes of a payload, most significant first. -/

/-- One byte. -/
def u8 (x : Nat) : List Byte := [BitVec.ofNat 8 x]
/-- Two bytes. -/
def u16 (x : Nat) : List Byte := [BitVec.ofNat 8 (x / 256), BitVec.ofNat 8 x]
/-- Four bytes. -/
def u32 (x : Nat) : List Byte := u16 (x / 65536) ++ u16 x
/-- Six bytes. -/
def u48 (x : Nat) : List Byte := u16 (x / 4294967296) ++ u32 x
/-- Two bytes, two's complement. -/
def i16 (x : Int) : List Byte := u16 (x % 65536).toNat
/-- Four bytes, two's complement. -/
def i32 (x : Int) : List Byte := u32 (x % 4294967296).toNat
/-- A flag as the value `n` of its bit. -/
def bit (b : Bool) (n : Nat) : Nat := if b then n else 0

/-! What a command may change. -/

/-- The twelve blocks of the part. -/
inductive Block
  | cfe | rms | ref | det | cap | mark | link | corr | store | agg | port | ctl
  deriving DecidableEq, Repr

/-- The block is the same in both states. -/
def Block.same (b : Block) (s s' : State) : Prop :=
  match b with
  | .cfe => s'.cfe = s.cfe
  | .rms => s'.rms = s.rms
  | .ref => s'.ref = s.ref
  | .det => s'.det = s.det
  | .cap => s'.cap = s.cap
  | .mark => s'.mark = s.mark
  | .link => s'.link = s.link
  | .corr => s'.corr = s.corr
  | .store => s'.store = s.store
  | .agg => s'.agg = s.agg
  | .port => s'.port = s.port
  | .ctl => s'.ctl = s.ctl

/-- Every block outside the list and the queue of waiting commands are as before. -/
def onlyChanges (touched : List Block) (s s' : State) : Prop :=
  (∀ b : Block, b ∉ touched → b.same s s') ∧ s'.pending = s.pending

/-- The blocks that a command may change; PIN_RESET, RESTART and POSITION_CLOSE reach every
block (but the halt and the restart leave the port, R183). -/
def touches : Instr → List Block
  | .pinReset _ _ _ => [.cfe, .rms, .ref, .det, .cap, .mark, .link, .corr, .store, .agg, .port, .ctl]
  | .takeResult _ _ _ => [.cfe]
  | .positionClose _ => [.cfe, .rms, .ref, .det, .cap, .mark, .link, .corr, .store, .agg, .ctl]
  | .cycleTimeout _ => [.cfe, .ctl]
  | .trackerTakesRefresh _ | .trackerTakesEndReport _ => [.ref]
  | .detectorTakesRefresh _ _ => [.ref, .det, .cap, .mark, .corr, .store, .ctl]
  | .maxOpenExpiry _ => [.ref, .det, .store, .ctl]
  | .correlationTakesRefresh _ => [.link, .corr, .store]
  | .aggregatorTakesRefresh _ => [.agg]
  | .markFallingEdge _ _ => [.cap, .mark, .corr, .store, .ctl]
  | .markRelease _ | .pulseEnd _ | .recoveryExpiry _ => [.mark]
  | .stuckExpiry _ => [.mark, .ctl]
  | .presentPeriodExpiry _ => [.link, .ctl]
  | .attemptStart _ | .attemptSuccess _ | .receiverRecovered _ | .noticeFallingEdge _ _ => [.link]
  | .readbackMismatch _ => [.link, .corr, .store]
  | .frameMalformed _ _ | .peerAgingExpiry _ _ => [.link, .ctl]
  | .frameComplete _ => [.link, .corr, .ctl]
  | .contextClose _ _ => [.link, .corr, .store, .ctl]
  | .scrubComplete _ _ => [.cap]
  | .scrubLocationError _ _ => [.cap, .store, .ctl]
  | .intervalBoundary _ => [.agg, .ctl]
  | .requestBegin _ _ | .requestTaken _ _ | .readFrame _ _ | .ignoredPeriodEnd _ => [.port]
  | .malformedRequest _ | .status _ | .live _ | .reference _ | .head _ | .interval _ | .peers _
  | .get _ => [.port]
  | .release _ => [.cap, .store, .port]
  | .wave _ _ => [.cap, .store, .ctl, .port]
  | .tally _ => [.store, .port]
  | .causes _ => [.ctl, .port]
  | .set _ => [.ref, .ctl, .port]
  | .start _ => [.ref, .cap, .mark, .link, .corr, .store, .agg, .ctl, .port]
  | .restart _ _ => [.ref, .det, .cap, .mark, .link, .corr, .store, .agg, .ctl, .port]
  | .linkReset _ _ => [.mark, .link, .corr, .store, .port]

end Sys2Proof.Machine
end

