-- ==== Sys2Proof/Certificates/Slice0/Obligations.lean ====
section
/-! DEFINITION. The statements for the provers: what a step is, what each command does and leaves
alone, and the invariants that every step keeps. -/

open Sys2Proof Sys2Proof.Machine

/-! The machine as a whole. -/

/-- A step takes the command at the front of the queue and is that command's effect on the state
with the rest of the queue; with nothing waiting the block idles (log entry 1). -/
def Obligations.StepRunsTheFrontCommand : Prop :=
  (∀ (s : State) (c : Instr) (rest : List Instr), s.pending = c :: rest →
    step s = exec c (s.withPending rest)) ∧
  ∀ s : State, s.pending = [] → step s = .next s

/-- The frame of every command: it changes no block outside the list `touches` gives it, never the
queue of waiting commands, and the counter of free values only at a stop. -/
def Obligations.CommandsKeepWhatIsNotTheirs : Prop :=
  ∀ (i : Instr) (s s' : State), exec i s = .next s' →
    onlyChanges (touches i) s s' ∧
    ((∀ t low, i ≠ .restart t low) → (∀ c, i ≠ .positionClose c) → s'.free = s.free)

/-- The tick count from which the local clock is read (R23) never falls, but at pin reset: a command
of an earlier moment leaves it where it stands, the model's choice (log entry 1). The clock itself
is a count of 48 bits that wraps. -/
def Obligations.TheClockOnlyMovesOn : Prop :=
  ∀ (i : Instr) (s s' : State), exec i s = .next s' →
    (∀ straps low psel, i ≠ .pinReset straps low psel) → s.time ≤ s'.time

/-- The straps latched at a pin reset stand until the next one (R179), and the configuration items
change only by a SET served in CONFIG, and by pin reset (R181). The START time, and the time base
frozen with it, change only by a START served in CONFIG, and by pin reset (R146, R157; the frozen
base as state: DEDUCED, log entry 27). -/
def Obligations.StrapsAndItemsStand : Prop :=
  (∀ (straps : Straps) (low psel : Bool) (s : State),
    ∃ s', exec (.pinReset straps low psel) s = .next s' ∧ s'.ctl.straps = straps) ∧
  ∀ (i : Instr) (s s' : State), exec i s = .next s' →
    (∀ straps low psel, i ≠ .pinReset straps low psel) →
    s'.ctl.straps = s.ctl.straps ∧
    (s'.ctl.items = s.ctl.items ∨ ((∃ t, i = .set t) ∧ s.ctl.state = .config)) ∧
    (s'.store.startTime = s.store.startTime ∧ s'.store.frozenBase = s.store.frozenBase ∨
      (∃ t, i = .start t) ∧ s.ctl.state = .config)

/-- The station state moves only as the table of R184 has it. -/
def Obligations.StationStateMovesByItsTable : Prop :=
  ∀ (i : Instr) (s s' : State), exec i s = .next s' →
    (∀ straps low psel, i ≠ .pinReset straps low psel) →
    s'.ctl.state = s.ctl.state ∨
    (s.ctl.state = .config ∧ s'.ctl.state = .run ∧ ∃ t, i = .start t) ∨
    (s.ctl.state ≠ .config ∧ s'.ctl.state = .config ∧ ∃ t low, i = .restart t low) ∨
    (s.ctl.state = .run ∧ s'.ctl.state = .halted ∧ ∃ c, i = .positionClose c)

/-- A cause once set stays set until a CAUSES request or pin reset (R189, R190). -/
def Obligations.CausesStaySetUntilRead : Prop :=
  ∀ (i : Instr) (s s' : State), exec i s = .next s' →
    (∀ straps low psel, i ≠ .pinReset straps low psel) → (∀ t, i ≠ .causes t) →
    ∀ b : Fin 13, s.ctl.causes[b].isSet = true → s'.ctl.causes[b].isSet = true

/-! Invariants. -/

/-- ATTN follows the cause set and the mask at every step (R191), and RDY follows the response
buffer (R172). -/
def Obligations.AttnAndRdyFollow : Prop :=
  (∀ s s' : State, s.attnFollowsCauses → step s = .next s' → s'.attnFollowsCauses) ∧
  ∀ s s' : State, s.rdyFollowsBuffer → step s = .next s' → s'.rdyFollowsBuffer

/-- All blocks agree on the station state, at most one slot is filling, outside RUN nothing is in
progress, and the transmitter follows its queue: every step keeps this. That the blocks take a
change of state within one command is the model's choice (log entry 3). -/
def Obligations.NothingRunsOutsideRun : Prop :=
  ∀ s s' : State,
    (s.viewsAgree ∧ s.oneFilling ∧ s.quietOutsideRun ∧ s.transmitterFollowsQueue) →
    step s = .next s' →
    s'.viewsAgree ∧ s'.oneFilling ∧ s'.quietOutsideRun ∧ s'.transmitterFollowsQueue

/-- Every step keeps these counts in their ranges: overrun holds, the valid-cycle count, the fill,
the refresh history, the settle countdowns, the filled counts, the transmit queue, the attempt
count, the unmatched counts, the records held, the next record id, the tally counts and the
interval ring; and the configuration items in theirs, and each Rf in its band of the declared
voltage (R35). Holder counts and peer verdict lists have statements of their own. -/
def Obligations.CountsStayInTheirRanges : Prop :=
  ∀ s s' : State, (s.withinCapacity ∧ s.itemsInRange ∧ s.referencesInBand) → step s = .next s' →
    s'.withinCapacity ∧ s'.itemsInRange ∧ s'.referencesInBand

/-- The sums of squares stay those of the last 128 samples in the rings (R17); samples stay within
-32767..32767, and with them one-cycle values within 0..32767 (R3, R21). -/
def Obligations.SumsSamplesAndValuesFit : Prop :=
  (∀ s s' : State, s.sumsMatchRings → step s = .next s' → s'.sumsMatchRings) ∧
  ∀ s s' : State, (s.samplesInRange ∧ s.sumsMatchRings ∧ s.valuesInRange) → step s = .next s' →
    s'.samplesInRange ∧ s'.valuesInRange

/-- The holder count of every slot stays the number of records that name it (R77, R153). -/
def Obligations.HoldersCountTheRecords : Prop :=
  ∀ s s' : State,
    (s.holdersCountRecords ∧ s.closedAreNotFilling ∧ s.idsInOrder ∧ s.withinCapacity) →
    step s = .next s' →
    s'.holdersCountRecords ∧ s'.closedAreNotFilling ∧ s'.idsInOrder ∧ s'.withinCapacity

/-- No record stays OPEN once its three conditions are met, a CLOSED one does not become OPEN again,
and a step that closes one raises RECORD_CLOSED (R149). -/
def Obligations.OpenRecordsWaitForSomething : Prop :=
  ∀ s s' : State,
    (s.openRecordsWait ∧ s.holdersCountRecords ∧ s.closedAreNotFilling ∧ s.idsInOrder ∧
      s.withinCapacity) →
    step s = .next s' →
    s'.openRecordsWait ∧ s'.holdersCountRecords ∧ s'.closedAreNotFilling ∧ s'.idsInOrder ∧
      s'.withinCapacity ∧
      ∀ r ∈ s.store.queue, ∀ r' ∈ s'.store.queue, r'.id = r.id →
        (r.isOpen = false → r'.isOpen = false) ∧
        (r.isOpen = true → r'.isOpen = false → s'.ctl.causes[8] = ⟨true, 0, false⟩)

/-- A record's running flag is set only in EVENT and on the event record (R67), and its anchor open
only while an OPEN context is linked to it (R125, R149); and the record linked to an OPEN context is
held, OPEN and with its anchor open, and linked to no other (R122, R124, R125, R145). -/
def Obligations.RecordFlagsHaveReasons : Prop :=
  (∀ s s' : State, (s.flagsHaveReasons ∧ s.idsInOrder ∧ s.withinCapacity) → step s = .next s' →
    s'.flagsHaveReasons ∧ s'.idsInOrder ∧ s'.withinCapacity) ∧
  ∀ s s' : State, (s.linkedAreOpen ∧ s.idsInOrder ∧ s.withinCapacity) → step s = .next s' →
    s'.linkedAreOpen ∧ s'.idsInOrder ∧ s'.withinCapacity

/-- A peer verdict list holds at most one entry for an address and none for the station's own, so
at most 15 (R133); the peer table's entry of the station's own address stays ABSENT with nothing
known of it (ch. 7 sec. 7.1). -/
def Obligations.PeerListsStaySound : Prop :=
  (∀ s s' : State, s.peersSound → step s = .next s' → s'.peersSound) ∧
  ∀ s : State, s.peersSound →
    (∀ (k : Fin 4) (c : Context), s.corr.slots[k] = some c → c.peers.length ≤ 15) ∧
    ∀ r ∈ s.store.queue, r.peers.length ≤ 15

/-- Record times do not decrease along the queue (R143, R146), and the sequence numbers of the
interval ring are consecutive, the next one following the last (R164). -/
def Obligations.RecordTimesAndSequenceNumbersRise : Prop :=
  (∀ s s' : State, s.recordTimesInOrder → step s = .next s' → s'.recordTimesInOrder) ∧
  ∀ s s' : State, s.ringInOrder → step s = .next s' → s'.ringInOrder

/-- No two OPEN contexts come to have one edge time (R122), but where an edge falls in the
millisecond of an OPEN context's edge that is no longer the last one: after a LINK_RESET in that
millisecond (log entry 24), or after the clock has wrapped (log entry 10). -/
def Obligations.EdgeTimesDiffer : Prop :=
  ∀ s s' : State, s.edgesDiffer → step s = .next s' →
    (∀ (k : Fin 4) (c : Context), s.corr.slots[k] = some c → c.edge = s'.now →
      s.mark.lastEdge = some c.edge) →
    s'.edgesDiffer

/-! Pin reset. -/

/-- PIN_RESET leaves every block as the reset tables have it, with the straps, the level of MARK
and the level of PSELN that it finds (R16, R30, R42, R69, R86, R98, R121, R142, R157, R168, R183,
R192). The 60 Hz spacing is held as 166,667 ticks a cycle (DEDUCED, log entry 6). No time base is
frozen (DEDUCED, log entry 27). -/
def Obligations.PinResetSetsEveryBlock : Prop :=
  ∀ (straps : Straps) (low psel : Bool) (s : State),
    ∃ s', exec (.pinReset straps low psel) s = .next s' ∧ s'.now = 0 ∧
      (∀ k : Fin 8, s'.cfe.ch[k].lastRaw = 0 ∧ s'.cfe.ch[k].lastScaled = 0 ∧
        s'.cfe.ch[k].clip = false ∧ s'.cfe.ch[k].hold = 0) ∧
      (∀ k : Fin 3, s'.cfe.dq[k] = ⟨0, 0, false⟩) ∧
      s'.cfe.freeRunSeen = false ∧ s'.cfe.pos = 0 ∧
      (∀ (q : Fin 11) (p : Fin 640), s'.cfe.rings[q][p] = 0) ∧
      s'.cfe.trk.state = .freeRun ∧ s'.cfe.trk.freq = 0 ∧ s'.cfe.trk.validCount = 0 ∧
      s'.cfe.trk.armed = false ∧ s'.cfe.trk.start = none ∧
      s'.cfe.trk.spacing = (match straps.freq with
        | .hz50 => 200000
        | .hz60 => 166667) ∧
      (∀ q : Fin 11, s'.rms.sums[q] = 0) ∧ s'.rms.fill = 0 ∧ s'.rms.nextIndex = 0 ∧
      s'.rms.history = [] ∧ (∀ q : Fin 11, s'.rms.prevClip[q] = false) ∧
      s'.rms.prevFreeRun = false ∧
      s'.ref.handed = [] ∧ s'.ref.endReports = 0 ∧ s'.det.handed = [] ∧ s'.corr.handed = [] ∧
      s'.agg.handed = [] ∧
      (∀ k : Fin 3, s'.ref.d[k].rf = 2300 * 65536 ∧ s'.ref.d[k].settle = 0 ∧
        s'.ref.d[k].inForce = ⟨2300, 2070, 2116, 2530, 2484, 115, 161⟩ ∧
        s'.ref.d[k].following = s'.ref.d[k].inForce) ∧
      s'.det.mode = .watch ∧ (∀ k : Fin 3, s'.det.cond[k] = .back) ∧
      (∀ k : Fin 8, s'.cap.slots[k].state = .free ∧ s'.cap.slots[k].holders = 0 ∧
        s'.cap.slots[k].first = 0 ∧ s'.cap.slots[k].filled = 0 ∧
        s'.cap.slots[k].scrubEnd = none ∧
        ∀ (j : Fin 40) (q : Fin 11) (i : Fin 64), s'.cap.slots[k].contents[j][q][i] = 0) ∧
      s'.cap.on = true ∧
      s'.mark.asserted = low ∧ s'.mark.drive = false ∧ s'.mark.lastEdge = none ∧
      s'.mark.pulseEnd = none ∧ s'.mark.recoveryExpiry = none ∧
      s'.mark.stuck = false ∧ s'.mark.stuckExpiry = (if low then some 51 else none) ∧
      s'.link.queue = [] ∧ s'.link.tx = .idle ∧ s'.link.attempts = 0 ∧ s'.link.rx = .recovering ∧
      s'.link.txBytes = [] ∧ s'.link.rxBytes = [] ∧ s'.link.rxExpected = none ∧
      s'.link.rxFault = none ∧ s'.link.rxOwn = false ∧
      (∀ a : Fin 16, s'.link.peers[a] = ⟨false, none, none, none, none, 0⟩) ∧
      (∀ k : Fin 4, s'.corr.slots[k] = none) ∧
      s'.store.queue = [] ∧ s'.store.nextId = 1 ∧ s'.store.startTime = 0 ∧ s'.store.frozenBase = none ∧
      (∀ c : Fin 5, s'.store.tally[c] = ⟨0, none, none, none⟩) ∧
      s'.agg.cur = none ∧ s'.agg.ring = [] ∧ s'.agg.nextSeq = 1 ∧
      s'.port.frame = (if psel then .ignored else .none) ∧ s'.port.inService = none ∧
      s'.port.pendingReq = none ∧ s'.port.superseded = false ∧ s'.port.buffer = none ∧
      s'.port.readPos = 0 ∧ s'.port.rdy = false ∧ s'.store.view = .config ∧
      s'.cap.view = .config ∧ s'.mark.view = .config ∧ s'.link.view = .config ∧
      s'.corr.view = .config ∧
      s'.ctl.state = .config ∧ s'.ctl.straps = straps ∧ s'.ctl.presentExpiry = none ∧
      s'.ctl.attn = false ∧ (∀ b : Fin 13, s'.ctl.causes[b] = ⟨false, 0, false⟩) ∧
      s'.ctl.items.toList = [2300, 1, 900, 1100, 50, 20, 60, 50, 200, 60, 2000, 40] ++
        List.replicate 8 16384 ++ List.replicate 8 0 ++ [0, 0]

/-- The state after any pin reset, State.reset among them, meets every invariant stated here. -/
def Obligations.PinResetMeetsTheInvariants : Prop :=
  ∀ (straps : Straps) (low psel : Bool) (free : Nat) (pending : List Instr),
    let s := State.afterPinReset straps low psel free pending
    s.attnFollowsCauses ∧ s.rdyFollowsBuffer ∧ s.viewsAgree ∧ s.oneFilling ∧ s.quietOutsideRun ∧
    s.transmitterFollowsQueue ∧ s.withinCapacity ∧ s.itemsInRange ∧ s.sumsMatchRings ∧
    s.samplesInRange ∧ s.valuesInRange ∧ s.referencesInBand ∧ s.holdersCountRecords ∧
    s.closedAreNotFilling ∧ s.idsInOrder ∧ s.openRecordsWait ∧ s.flagsHaveReasons ∧
    s.linkedAreOpen ∧ s.stopBitAwaitedOnLine ∧ s.peersSound ∧ s.recordTimesInOrder ∧
    s.ringInOrder ∧ s.edgesDiffer

/-! The channel front end and the RMS engine. -/

/-- TAKE_RESULT: the late result of an overrun is discarded (R7); otherwise the result of the
position is taken, scaled and clamped (R1, R2, R3), and it is known whether this result was
clamped, on which the clip flag of Dk rests (R4). That a second result of one position changes
nothing is the model's choice (log entry 5). -/
def Obligations.ResultIsScaledAndClamped : Prop :=
  ∀ (t : Nat) (ch : Fin 8) (code : BitVec 16) (s : State), ∃ c : Channel,
    exec (.takeResult t ch code) s =
      .next ((s.elapse t).withCfe { s.cfe with ch := s.cfe.ch.set ch c }) ∧
    (s.cfe.ch[ch].late ≠ 0 → c = { s.cfe.ch[ch] with late := s.cfe.ch[ch].late - 1 }) ∧
    (s.cfe.ch[ch].late = 0 → s.cfe.ch[ch].taken = true → c = s.cfe.ch[ch]) ∧
    (s.cfe.ch[ch].late = 0 → s.cfe.ch[ch].taken = false →
      let x := (code.toInt * s.item (gainItem ch) + 8192) / 16384 + s.item (offsetItem ch)
      c.lastRaw = code.toInt ∧ c.lastScaled = max (-32767) (min 32767 x) ∧
      (c.clip = true ↔ s.cfe.ch[ch].clip = true ∨ x < -32767 ∨ 32767 < x) ∧
      (c.clampedNow = true ↔ x < -32767 ∨ 32767 < x) ∧ c.taken = true ∧
      c.hold = s.cfe.ch[ch].hold ∧ c.late = 0)

/-- POSITION_CLOSE writes the settled samples of the eleven quantities at the ring position and
advances the counter; every other ring position reads as before (R1, R4, R5). It comes at the next
sample instant, or now where that has passed (log entry 1). -/
def Obligations.PositionCloseWritesTheSamples : Prop :=
  ∀ (checks : CloseChecks) (s : State), ∃ s',
    exec (.positionClose checks) s = .next s' ∧
    s'.time = max s.time (s.cfe.trk.next / 128) ∧
    s'.cfe.pos.val = (s.cfe.pos.val + 1) % 640 ∧
    (∀ k : Fin 8, s'.cfe.ch[k].lastScaled = s.cfe.ch[k].lastScaled ∧
      s'.cfe.ch[k].lastRaw = s.cfe.ch[k].lastRaw ∧ s'.cfe.ch[k].clampedNow = false) ∧
    (∀ k : Fin 3,
      let u := s.cfe.ch[k.val].lastScaled
      let v := s.cfe.ch[(k.val + 1) % 3].lastScaled
      (s.ctl.straps.wiring = .star → s'.cfe.dq[k].lastRaw = u ∧ s'.cfe.dq[k].lastScaled = u) ∧
      (s.ctl.straps.wiring = .delta → s'.cfe.dq[k].lastRaw = u - v ∧
        s'.cfe.dq[k].lastScaled = max (-32767) (min 32767 (u - v)))) ∧
    (∀ (q : Fin 11) (p : Fin 640), p ≠ s.cfe.pos → s'.cfe.rings[q][p] = s.cfe.rings[q][p]) ∧
    (∀ k : Fin 8, s'.cfe.rings[k.val][s.cfe.pos] = s.cfe.ch[k].lastScaled) ∧
    ∀ k : Fin 3, s'.cfe.rings[dIndex k][s.cfe.pos] = s'.cfe.dq[k].lastScaled

/-- The channels at a position close: one whose result was not taken loads its hold with 128 and
has a result to come; the others count their hold down. OVERRUN, and DOUBLE_OVERRUN where a hold
was already running, name the lowest channel that overran (R7, R8). The count of late results is
the model's (log entry 5). -/
def Obligations.OverrunIsRaisedAndHeld : Prop :=
  ∀ (checks : CloseChecks) (s : State), ∃ s',
    exec (.positionClose checks) s = .next s' ∧
    (∀ k : Fin 8, s.cfe.ch[k].taken = false →
      s'.cfe.ch[k].hold = 128 ∧ s'.cfe.ch[k].late = s.cfe.ch[k].late + 1) ∧
    (∀ k : Fin 8, s.cfe.ch[k].taken = true →
      s'.cfe.ch[k].hold = s.cfe.ch[k].hold - 1 ∧ s'.cfe.ch[k].late = s.cfe.ch[k].late) ∧
    (∀ k : Fin 8, s'.cfe.ch[k].taken = false) ∧
    (∀ k : Fin 8, s.cfe.ch[k].taken = false → (∀ j : Fin 8, j < k → s.cfe.ch[j].taken = true) →
      s'.ctl.causes[0] = ⟨true, k.val, false⟩ ∧
      s'.ctl.causes[1] =
        if ∃ j : Fin 8, 0 < s.cfe.ch[j].hold then ⟨true, k.val, false⟩ else s.ctl.causes[1]) ∧
    ((∀ k : Fin 8, s.cfe.ch[k].taken = true) →
      s'.ctl.causes[0] = s.ctl.causes[0] ∧ s'.ctl.causes[1] = s.ctl.causes[1])

/-- A half-cycle end after the start-up fill emits one refresh: its index, stamp, values, flags and
detector state, the history of four, and the hand-over to the four readers; before the fill it
only stores the flags, and a close that ends no half-cycle only gathers them (R4, R6, R20 to R27;
the free-run flag at a close that changes the tracker's state: log entry 8). Where the close
brings HALT a reader may take the oldest refresh handed to it within the close (R29; log
entry 3). -/
def Obligations.HalfCycleEndEmitsARefresh : Prop :=
  ∀ (checks : CloseChecks) (s : State), ∃ s',
    exec (.positionClose checks) s = .next s' ∧
    (s.cfe.pos.val % 64 = 63 →
      (∀ k : Fin 8, s'.cfe.ch[k].clip = false ∧ s'.rms.prevClip[k.val] = s.cfe.ch[k].clip) ∧
      (∀ k : Fin 3, s'.cfe.dq[k].clip = false ∧
        (s'.rms.prevClip[dIndex k] = true ↔ s.clipSeen k)) ∧
      s'.cfe.freeRunSeen = false ∧ (s'.rms.prevFreeRun = true ↔ freeRunSeen s s')) ∧
    (s.cfe.pos.val % 64 ≠ 63 →
      (∀ k : Fin 8, s'.cfe.ch[k].clip = s.cfe.ch[k].clip) ∧
      (∀ k : Fin 3, s'.cfe.dq[k].clip = true ↔ s.clipSeen k) ∧
      (s'.cfe.freeRunSeen = true ↔ freeRunSeen s s') ∧ s'.rms.prevClip = s.rms.prevClip ∧
      s'.rms.prevFreeRun = s.rms.prevFreeRun) ∧
    s'.rms.fill = min (s.rms.fill + 1) 128 ∧
    (¬s.emitsNext → s'.rms.history = s.rms.history ∧ s'.rms.nextIndex = s.rms.nextIndex ∧
      let stays (old new : List Refresh) : Prop := new = old ∨ s.haltsNext ∧ new = old.tail
      stays s.ref.handed s'.ref.handed ∧ stays s.det.handed s'.det.handed ∧
      stays s.corr.handed s'.corr.handed ∧ stays s.agg.handed s'.agg.handed) ∧
    (s.emitsNext → ∃ e : Refresh,
      s'.rms.history = (e :: s.rms.history).take 4 ∧ e.index = s.rms.nextIndex ∧
      s'.rms.nextIndex = s.rms.nextIndex + 1 ∧ e.stamp = s'.now ∧
      (∀ q : Fin 11, e.value[q] * e.value[q] ≤ s'.rms.sums[q] / 128 ∧
        s'.rms.sums[q] / 128 < (e.value[q] + 1) * (e.value[q] + 1)) ∧
      (∀ q : Fin 11, e.clip[q] = (s'.rms.prevClip[q] || s.rms.prevClip[q])) ∧
      e.freeRun = (s'.rms.prevFreeRun || s.rms.prevFreeRun) ∧
      (e.det = s.det.mode.state ∨ s.haltsNext ∧ e.det = .watch) ∧
      let handsOn (old new : List Refresh) : Prop :=
        new = old ++ [e] ∨ s.haltsNext ∧ new = (old ++ [e]).tail
      handsOn s.ref.handed s'.ref.handed ∧ handsOn s.det.handed s'.det.handed ∧
      handsOn s.corr.handed s'.corr.handed ∧ handsOn s.agg.handed s'.agg.handed)

/-- A double overrun in RUN halts the station (R187): the detector is in WATCH, every context
closed, no slot filling, no interval held, the drive OFF, the transmitter IDLE and every queued
VERDICT withdrawn. That every block has taken the HALT by the end of the close is the model's
choice (log entry 3). The interval in progress is written PARTIAL, with INTERVAL_DONE (R166), a
locked cycle that ends with the close in it or not (R161). Where the close emits no refresh and none
waits, the queue, the references with both threshold sets and the capture-unit state are otherwise
as they were (R42, R85); else readers may have taken one in RUN (R29), the aggregator among them. -/
def Obligations.DoubleOverrunHaltsARunningStation : Prop :=
  ∀ (checks : CloseChecks) (s : State), s.haltsNext →
    ∃ s', exec (.positionClose checks) s = .next s' ∧ s'.ctl.state = .halted ∧
      s'.ctl.presentExpiry = none ∧ s'.ctl.causes[7] = ⟨true, 0, false⟩ ∧ s'.viewsAgree ∧
      s'.free = s.free + 1 ∧
      s'.det.mode = .watch ∧ (∀ k : Fin 3, s'.det.cond[k] = .back) ∧
      (∀ k : Fin 4, s'.corr.slots[k] = none) ∧ (s.oneFilling → s'.fillings = 0) ∧
      s'.mark.drive = false ∧ s'.mark.pulseEnd = none ∧ s'.mark.stuck = s.mark.stuck ∧
      s'.link.tx = .idle ∧ s'.link.peers = s.link.peers ∧ s'.link.rx = s.link.rx ∧
      (∀ v, QueuedFrame.verdict v ∈ s'.link.queue → v.withdrawn = true) ∧
      s'.port = s.port ∧ s'.ctl.items = s.ctl.items ∧
      (s.agg.cur = none → noInterval s s') ∧
      (∀ i, s.agg.cur = some i → s.agg.ring.length ≤ 144 →
        ∃ acc : Accumulators, endsPartial s s' { i with acc := acc } ∧
          i.acc.count ≤ acc.count ∧ acc.count ≤ i.acc.count + 1 ∧
          (acc.freqSum = i.acc.freqSum ∧ acc.locked = i.acc.locked ∨ lockedCycleEnds s s' ∧
            acc.freqSum = i.acc.freqSum + s'.cfe.trk.freq ∧ acc.locked = i.acc.locked + 1)) ∧
      (¬s.emitsNext ∧ s.det.handed = [] ∨ checks = ⟨false, none⟩ → s'.cap.on = s.cap.on) ∧
      (¬s.emitsNext → s.nothingWaits → s'.link.attempts = s.link.attempts ∧
        s'.link.queue = s.link.queue.map QueuedFrame.withdraw ∧
        (∀ k : Fin 3, s'.ref.d[k] = s.ref.d[k]) ∧ s'.ref.endReports = s.ref.endReports ∧
        s'.mark.asserted = s.mark.asserted ∧ s'.mark.lastEdge = s.mark.lastEdge)

/-- A crossing found at a position close: the armed detector sees D1 go from below 0 to 0 or above.
The crossing time is interpolated and rounded down to a tick; a cycle in progress is judged by its
period and its peak, and the next one starts with a peak of 0 (R9 to R12; what counts for the peak
is the model's choice, log entry 7). The sample instant already set stands, and a new spacing counts
from there: the model's reading of R12, and so is the 60 Hz spacing of 166,667 ticks (DEDUCED, log
entry 6). A valid cycle that ends while the tracker is LOCKED is handed to the aggregator, which
adds it in RUN (R13, R161). CYCLE_TIMEOUT ends a cycle that has reached its timeout as invalid, and
none is in progress. -/
def Obligations.CyclesEnd : Prop :=
  (∀ (checks : CloseChecks) (s : State), ∃ s',
    exec (.positionClose checks) s = .next s' ∧
    let k := s.cfe.trk
    let k' := s'.cfe.trk
    let sa := s.cfe.dq[0].lastScaled
    let sb := s'.cfe.dq[0].lastScaled
    let den := (sb - sa).toNat
    let tc := (k.prevInstant * den + (k.instant - k.prevInstant) * (-sa).toNat) / (128 * den)
    let noneHanded := ¬s.haltsNext → s'.agg.cur = s.agg.cur
    k'.prevInstant = k.instant ∧ k'.instant = k.next ∧ k'.next = k.next + k.spacing ∧
    (k.armed = true → sa < 0 → 0 ≤ sb →
      k'.armed = false ∧ k'.start = some tc ∧ k'.peak = 0 ∧
      (k.start = none → k'.state = k.state ∧ k'.freq = k.freq ∧
        k'.validCount = k.validCount ∧ k'.spacing = k.spacing ∧ noneHanded) ∧
      (∀ t0, k.start = some t0 →
        let f := 10000000000 / (tc - t0)
        let band := match s.ctl.straps.freq with
          | .hz50 => 45000 ≤ f ∧ f ≤ 55000
          | .hz60 => 54000 ≤ f ∧ f ≤ 66000
        ((band ∧ 500 ≤ max k.peak sb.natAbs) →
          k'.freq = f ∧ k'.validCount = min (k.validCount + 1) 5 ∧
          (k'.state = .locked ↔ k.state = .locked ∨ 4 ≤ k.validCount) ∧
          k'.spacing = (if k'.state = .locked then tc - t0 else k.spacing) ∧
          (k.state = .freeRun → noneHanded) ∧
          (k.state = .locked → ¬s.haltsNext → s'.agg.cur =
            if s.ctl.state = .run then s.agg.cur.map fun i => { i with acc := { i.acc with
              freqSum := i.acc.freqSum + f, locked := i.acc.locked + 1 } }
            else s.agg.cur)) ∧
        (¬(band ∧ 500 ≤ max k.peak sb.natAbs) →
          k'.freq = k.freq ∧ k'.validCount = 0 ∧ k'.state = .freeRun ∧
          k'.spacing = (match s.ctl.straps.freq with
            | .hz50 => 200000
            | .hz60 => 166667) ∧ noneHanded ∧
          (k.state = .locked → s'.ctl.causes[12] = ⟨true, 0, false⟩)))) ∧
    (¬(k.armed = true ∧ sa < 0 ∧ 0 ≤ sb) →
      (k'.armed = true ↔ k.armed = true ∨ sb ≤ -50) ∧ k'.start = k.start ∧
      k'.peak = max k.peak sb.natAbs ∧ k'.state = k.state ∧ k'.freq = k.freq ∧
      k'.validCount = k.validCount ∧ k'.spacing = k.spacing ∧ noneHanded)) ∧
  ∀ (t t0 : Nat) (s : State), s.cfe.trk.start = some t0 →
    t0 + (match s.ctl.straps.freq with
      | .hz50 => 300000
      | .hz60 => 250000) ≤ max s.time t →
    ∃ s', exec (.cycleTimeout t) s = .next s' ∧
      s'.cfe = { s.cfe with trk := { s.cfe.trk with
        start := none, validCount := 0, state := .freeRun
        spacing := match s.ctl.straps.freq with
          | .hz50 => 200000
          | .hz60 => 166667 } } ∧
      s'.ctl.causes[12] =
        if s.cfe.trk.state = .locked then ⟨true, 0, false⟩ else s.ctl.causes[12]

/-! The reference tracker. -/

/-- TRACKER_TAKES_REFRESH: in RUN the following sets come into force; outside RUN both sets stay as
they stood (for the first refresh after HALT the model's choice between R32's text and its table,
log entry 23); in RUN under SLIDING each reference moves by one 8192nd of the gap, truncated toward
zero and clamped to the band, where the entry carries WATCH, the countdown is 0 and the value lies
within the motion band; the countdowns count; and a new following set is computed where R has
changed (R32 to R39). The six thresholds of a set are the floors of R times their per-mille items
over 1000, for every R and all items of R180's signs, hysteresis at most swell start (R38).
TRACKER_TAKES_END_REPORT loads every settle countdown with 100 in RUN under SLIDING, under FIXED
none (R31, R36); outside RUN none, the model's choice (log entry 12). -/
def Obligations.TrackerTakesRefreshesAndReports : Prop :=
  (∀ (t : Nat) (e : Refresh) (rest : List Refresh) (s : State), s.ref.handed = e :: rest →
    ∃ s', exec (.trackerTakesRefresh t) s = .next s' ∧ onlyChanges [.ref] s s' ∧
      s'.ref.handed = rest ∧ s'.ref.endReports = s.ref.endReports ∧
      ∀ k : Fin 3,
        let x := s.ref.d[k]
        let y := s'.ref.d[k]
        let u := e.value[dIndex k]
        let slides := s.ctl.state = .run ∧ s.item 1 = 1
        y.inForce = (if s.ctl.state = .run then x.following else x.inForce) ∧
        ((slides ∧ e.det = .watch ∧ x.settle = 0 ∧
            ((u : Int) - (x.rf / 65536 : Nat)).natAbs ≤ s.motionBand) →
          (y.rf : Int) =
            max (((s.declared * 850 / 1000) * 65536 : Nat) : Int)
              (min (((s.declared * 1150 / 1000) * 65536 : Nat) : Int)
                ((x.rf : Int) + Int.tdiv ((u : Int) * 65536 - (x.rf : Int)) 8192))) ∧
        (¬(slides ∧ e.det = .watch ∧ x.settle = 0 ∧
            ((u : Int) - (x.rf / 65536 : Nat)).natAbs ≤ s.motionBand) → y.rf = x.rf) ∧
        y.settle = (if slides ∧ e.det = .watch then x.settle - 1 else x.settle) ∧
        y.following =
          if y.rf / 65536 = x.rf / 65536 then x.following
          else thresholdsFrom s.ctl.items (y.rf / 65536)) ∧
  (∀ (items : Vector Int 30) (r : Nat),
    0 ≤ items[2] → 0 ≤ items[4] → 0 ≤ items[5] → items[5] ≤ items[3] →
    let th := thresholdsFrom items r
    th.ref = r ∧ (th.dipStart : Int) = (r : Int) * items[2] / 1000 ∧
    (th.dipEnd : Int) = (r : Int) * (items[2] + items[5]) / 1000 ∧
    (th.swellStart : Int) = (r : Int) * items[3] / 1000 ∧
    (th.swellEnd : Int) = (r : Int) * (items[3] - items[5]) / 1000 ∧
    (th.intStart : Int) = (r : Int) * items[4] / 1000 ∧
    (th.intEnd : Int) = (r : Int) * (items[4] + items[5]) / 1000) ∧
  ∀ (t : Nat) (s : State), s.ref.endReports ≠ 0 →
    ∃ s', exec (.trackerTakesEndReport t) s = .next s' ∧ onlyChanges [.ref] s s' ∧
      s'.ref.endReports = s.ref.endReports - 1 ∧ s'.ref.handed = s.ref.handed ∧
      ∀ k : Fin 3, s'.ref.d[k] =
        if s.ctl.state = .run ∧ s.item 1 = 1 then { s.ref.d[k] with settle := 100 }
        else s.ref.d[k]

/-! The disturbance detector. -/

/-- DETECTOR_TAKES_REFRESH where no event begins or ends: outside RUN the refresh is only taken off;
in RUN the conditions follow the table of R46; a quiet WATCH stays one, and a refresh of an event
or a held period with a quantity still out is measured for its
extremes, its directions and its interruption, clip and free-run flags (R45, R46, R51 to R53,
R59). The thresholds for refresh n are the following set while a refresh of that index waits for
the tracker, and the set in force once none does (R39, R44). -/
def Obligations.DetectorJudgesTheRefresh : Prop :=
  (∀ (s : State) (n : RefIndex) (k : Fin 3),
    ((∃ x ∈ s.ref.handed, x.index = n) → s.setFor n k = s.ref.d[k].following) ∧
    ((∀ x ∈ s.ref.handed, x.index ≠ n) → s.setFor n k = s.ref.d[k].inForce)) ∧
  ∀ (t : Nat) (failed : Option (Fin 9)) (e : Refresh) (rest : List Refresh) (s : State)
    (conds : Vector Cond 3), s.det.handed = e :: rest →
    (∀ k : Fin 3,
      let th := s.setFor e.index k
      let u := e.value[dIndex k]
      conds[k] =
        if u < th.dipStart then .outLow
        else if th.swellStart < u then .outHigh
        else if th.dipEnd ≤ u ∧ u ≤ th.swellEnd then .back
        else s.det.cond[k]) →
    let below := ∀ k : Fin 3, e.value[dIndex k] < (s.setFor e.index k).intStart
    let clipped := ∃ q : Fin 11, e.clip[q] = true
    (s.ctl.state ≠ .run → exec (.detectorTakesRefresh t failed) s =
      .next ((s.elapse t).withDet { s.det with handed := rest })) ∧
    (s.ctl.state = .run → s.det.mode = .watch → (∀ k : Fin 3, conds[k] = .back) →
      exec (.detectorTakesRefresh t failed) s =
        .next ((s.elapse t).withDet ⟨.watch, conds, rest⟩)) ∧
    (∀ m id expiry, s.ctl.state = .run → s.det.mode = .event m id expiry →
      (∃ k : Fin 3, conds[k] ≠ .back) →
      ∃ s' m', exec (.detectorTakesRefresh t failed) s = .next s' ∧
        onlyChanges [.det, .store] s s' ∧ s'.det = ⟨.event m' id expiry, conds, rest⟩ ∧
        m'.crossing = m.crossing ∧ m'.time = m.time ∧ m'.last = e.index ∧ m'.onset = m.onset ∧
        (∀ k : Fin 3, m'.dmin[k] = min m.dmin[k] e.value[dIndex k] ∧
          m'.dmax[k] = max m.dmax[k] e.value[dIndex k]) ∧
        (m'.low = true ↔ m.low = true ∨ ∃ k : Fin 3, conds[k] = .outLow) ∧
        (m'.high = true ↔ m.high = true ∨ ∃ k : Fin 3, conds[k] = .outHigh) ∧
        (m'.int = true ↔ m.int = true ∨ below) ∧ (m'.clip = true ↔ m.clip = true ∨ clipped) ∧
        (m'.freeRun = true ↔ m.freeRun = true ∨ e.freeRun = true) ∧
        s'.store.queue = s.store.queue.map fun r =>
          if id ≠ 0 ∧ r.id = id then writeMeasure m' r else r) ∧
    (∀ m id, s.ctl.state = .run → s.det.mode = .held m id → (∃ k : Fin 3, conds[k] ≠ .back) →
      ∃ m', exec (.detectorTakesRefresh t failed) s =
          .next ((s.elapse t).withDet ⟨.held m' id, conds, rest⟩) ∧
        m'.crossing = m.crossing ∧ m'.time = m.time ∧ m'.last = e.index ∧
        m'.onset = m.onset ∧
        (∀ k : Fin 3, m'.dmin[k] = min m.dmin[k] e.value[dIndex k] ∧
          m'.dmax[k] = max m.dmax[k] e.value[dIndex k]) ∧
        (m'.low = true ↔ m.low = true ∨ ∃ k : Fin 3, conds[k] = .outLow) ∧
        (m'.high = true ↔ m.high = true ∨ ∃ k : Fin 3, conds[k] = .outHigh) ∧
        (m'.int = true ↔ m.int = true ∨ below) ∧ (m'.clip = true ↔ m.clip = true ∨ clipped) ∧
        (m'.freeRun = true ↔ m.freeRun = true ∨ e.freeRun = true))

/-- A crossing: in RUN and WATCH some quantity is found out, and the detector enters EVENT with the
measurement begun, the reference at onset and the MAX_OPEN expiry; it asks for its anchor, and a
pulse is driven where that is the answer (R47, R90, R91). An anchor context linked to an upgradable
SYMPATHETIC record makes that the event record, UPGRADED, which keeps its time, class and waveform
part and asks for no capture (R48, R126); otherwise, with room, a new record is made with the fields
of R49, with STORE_FULL as the 48th (R145), captured at the crossing refresh (R48, R71) and linked
to the anchor context (R125), UNANCHORED without one; with no room there is none (R50). The anchor
context is anchored, and with its own verdict absent takes the crossing's reference refresh and
pre-values (R125). MIXED of a new record: log entry 13; the copies of its capture: log entries 11,
16 and 28. -/
def Obligations.CrossingBeginsAnEvent : Prop :=
  ∀ (t : Nat) (failed : Option (Fin 9)) (e : Refresh) (rest : List Refresh) (s : State)
    (conds : Vector Cond 3), s.det.handed = e :: rest →
    (∀ k : Fin 3, conds[k] = judgeCond (s.setFor e.index k) e.value[dIndex k] s.det.cond[k]) →
    s.ctl.state = .run → s.det.mode = .watch → (∃ k : Fin 3, conds[k] ≠ .back) →
    s.idsInOrder → s.withinCapacity →
    ∃ s' m id, exec (.detectorTakesRefresh t failed) s = .next s' ∧
      s'.det = ⟨.event m id (e.stamp + BitVec.ofNat 48 (1000 * s.maxOpen)), conds, rest⟩ ∧
      m.crossing = e.index ∧ m.time = e.stamp ∧ m.last = e.index ∧
      (∀ k : Fin 3, m.dmin[k] = e.value[dIndex k] ∧ m.dmax[k] = e.value[dIndex k]) ∧
      (m.low = true ↔ ∃ k : Fin 3, conds[k] = .outLow) ∧
      (m.high = true ↔ ∃ k : Fin 3, conds[k] = .outHigh) ∧
      (m.int = true ↔ ∀ k : Fin 3, e.value[dIndex k] < (s.setFor e.index k).intStart) ∧
      (m.clip = true ↔ ∃ q : Fin 11, e.clip[q] = true) ∧ m.freeRun = e.freeRun ∧
      (∀ k : Fin 3, conds[k] ≠ .back → (∀ j : Fin 3, j < k → conds[j] = .back) →
        m.onset = (s.setFor e.index k).ref) ∧
      (s.anchorAnswer e.stamp = .pulse →
        s'.mark.drive = true ∧ s'.mark.pulseEnd = some (s'.now + 2) ∧
        s'.mark.asserted = true ∧ s'.mark.lastEdge = some s'.now) ∧
      let anchor := (s.elapse t).anchorOf e.stamp
      let upgrades := ∃ k c, anchor = some k ∧ s.corr.slots[k] = some c ∧ s.upgradable c = true
      let measured (r : Record) : Prop := r.running = true ∧ r.onset = m.onset ∧
        r.measure.dmin = m.dmin ∧ r.measure.dmax = m.dmax ∧
        (∀ k : Fin 3, r.measure.residual ≤ m.dmin[k] ∧ m.dmax[k] ≤ r.measure.maximum) ∧
        (∃ k : Fin 3, r.measure.residual = m.dmin[k]) ∧
        (∃ k : Fin 3, r.measure.maximum = m.dmax[k]) ∧
        r.flags.clipped = m.clip ∧ r.flags.freeRun = m.freeRun ∧
        r.flags.mixed = (m.low && m.high)
      (∀ k c, s.corr.view = .run → s.corr.slots[k] = some c → anchor = some k →
        s.upgradable c = true →
        id = c.linked ∧ s'.store.queue.length = s.store.queue.length ∧ s'.cap = s.cap ∧
        s'.ctl = s.ctl ∧
        (∃ r ∈ s.store.queue, r.id = id ∧ r.cls = .sympathetic ∧
          ∃ r' ∈ s'.store.queue, r'.id = id ∧ r'.flags.upgraded = true ∧ measured r' ∧
            r'.time = r.time ∧ r'.cls = r.cls ∧ r'.wave = r.wave ∧ r'.isOpen = r.isOpen ∧
            r'.anchorOpen = r.anchorOpen) ∧
        s'.corr.slots[k] = some (if c.own = none then
          { c with anchored := true, ref := e.index, pre := s.preValues e.index }
          else { c with anchored := true })) ∧
      (s.hasRoom = true → (s.corr.view ≠ .run ∨ ¬upgrades) →
        id = s.store.nextId ∧ s'.store.queue.length = s.store.queue.length + 1 ∧
        recordMade s s' e.index failed ∧
        ∃ r ∈ s'.store.queue, r.id = id ∧ measured r ∧ r.isOpen = true ∧
          r.cls = (if m.low then .dip else .swell) ∧ r.time = s.recordTime e.stamp ∧
          r.durationMs = 0 ∧ r.halfCycles = 0 ∧ r.verdict = none ∧ r.locus = none ∧
          r.peers = [] ∧ r.flags.upgraded = false ∧ r.flags.ongoing = false ∧
          r.flags.aborted = false ∧ r.flags.unanchored = anchor.isNone ∧
          r.anchorOpen = (anchor.isSome && (s.corr.view == .run))) ∧
      (s.hasRoom = false → (s.corr.view ≠ .run ∨ ¬upgrades) →
        id = 0 ∧ s'.store = s.store ∧ s'.cap = s.cap ∧ s'.ctl = s.ctl) ∧
      (∀ k, s.corr.view = .run → anchor = some k → ¬upgrades → ∃ c', s'.corr.slots[k] = some c' ∧
        c'.anchored = true ∧ c'.linked = (if s.hasRoom then s.store.nextId else 0) ∧
        (∀ c, s.corr.slots[k] = some c → c'.edge = c.edge ∧ c'.close = c.close ∧
          c'.own = c.own ∧ c'.peers = c.peers ∧ c'.unsent = c.unsent ∧
          c'.ref = (if c.own = none then e.index else c.ref) ∧
          c'.pre = (if c.own = none then s.preValues e.index else c.pre)) ∧
        (s.corr.slots[k] = none → c'.edge = s'.now ∧
          c'.close = s'.now + BitVec.ofNat 48 s.window ∧ c'.own = none ∧ c'.peers = [] ∧
          c'.ref = e.index ∧ c'.pre = s.preValues e.index)) ∧
      ∀ k, anchor ≠ some k → s'.corr.slots[k] = s.corr.slots[k]

/-- The end of an event: all three conditions are BACK; the duration and the class are written, the
running flag is cleared, the end is reported and the detector is in WATCH; an event without a
record goes to the tally (R54, R55). -/
def Obligations.EventEndsWhenAllAreBack : Prop :=
  ∀ (t : Nat) (failed : Option (Fin 9)) (e : Refresh) (rest : List Refresh) (s : State)
    (m : Measurement) (id : Nat) (expiry : Ms), s.det.handed = e :: rest →
    (∀ k : Fin 3, judgeCond (s.setFor e.index k) e.value[dIndex k] s.det.cond[k] = .back) →
    s.ctl.state = .run → s.det.mode = .event m id expiry →
    ∃ s', exec (.detectorTakesRefresh t failed) s = .next s' ∧
      s'.det.mode = .watch ∧ (∀ k : Fin 3, s'.det.cond[k] = .back) ∧ s'.det.handed = rest ∧
      s'.ref.endReports = s.ref.endReports + 1 ∧
      let cls : RecordClass := if m.int then .interruption else if m.low then .dip else .swell
      (id ≠ 0 → ∀ r ∈ s.store.queue, r.id = id →
        ∃ r' ∈ s'.store.queue, r'.id = id ∧ r'.running = false ∧ r'.cls = cls ∧
          r'.measure = r.measure ∧
          r'.halfCycles = min (e.index - m.crossing).toNat 4294967295 ∧
          r'.durationMs = min (e.stamp - m.time).toNat 4294967295) ∧
      (id = 0 → s'.store.queue = s.store.queue ∧
        s'.store.tally[cls.index] = s.store.tally[cls.index].add m.measure.residual
          m.measure.maximum (min (e.stamp - m.time).toNat 4294967295))

/-- MAX_OPEN_EXPIRY: the record is finished ONGOING with l - n + 1 half-cycles and 1000 x MAX_OPEN
ms, the end is reported, and the detector is in HELD with the measurement and the id, its
conditions unchanged; without a record the measurement goes to the tally (R58). -/
def Obligations.MaxOpenHoldsTheEvent : Prop :=
  ∀ (t : Nat) (s : State) (m : Measurement) (id : Nat) (expiry : Ms),
    s.det.mode = .event m id expiry → (s.elapse t).reached expiry = true →
    ∃ s', exec (.maxOpenExpiry t) s = .next s' ∧
      s'.det = { s.det with mode := .held m id } ∧ s'.ref.endReports = s.ref.endReports + 1 ∧
      let cls : RecordClass := if m.int then .interruption else if m.low then .dip else .swell
      (id ≠ 0 → ∀ r ∈ s.store.queue, r.id = id →
        ∃ r' ∈ s'.store.queue, r'.id = id ∧ r'.running = false ∧ r'.flags.ongoing = true ∧
          r'.cls = cls ∧ r'.halfCycles = min ((m.last - m.crossing).toNat + 1) 4294967295 ∧
          r'.durationMs = min (1000 * s.maxOpen) 4294967295) ∧
      (id = 0 → s'.store.queue = s.store.queue ∧
        s'.store.tally[cls.index] = s.store.tally[cls.index].add m.measure.residual
          m.measure.maximum (min (1000 * s.maxOpen) 4294967295))

/-- The return that ends a held period makes a CONTINUATION record linked to the ONGOING record,
with the total duration, or adds to the tally at a full store; the end is reported and the
detector is in WATCH (R60, R61). The record is captured at the return refresh (R62), STORE_FULL is
raised where it is the 48th (R145), and it closes at once, with RECORD_CLOSED, where no slot is
filling for it (R149, R150). The copies of its capture: log entries 11, 16 and 28. -/
def Obligations.ReturnMakesAContinuation : Prop :=
  ∀ (t : Nat) (failed : Option (Fin 9)) (e : Refresh) (rest : List Refresh) (s : State)
    (m : Measurement) (id : Nat), s.det.handed = e :: rest →
    (∀ k : Fin 3, judgeCond (s.setFor e.index k) e.value[dIndex k] s.det.cond[k] = .back) →
    s.ctl.state = .run → s.det.mode = .held m id →
    ∃ s', exec (.detectorTakesRefresh t failed) s = .next s' ∧
      s'.det.mode = .watch ∧ (∀ k : Fin 3, s'.det.cond[k] = .back) ∧
      s'.ref.endReports = s.ref.endReports + 1 ∧
      (s.store.queue.length < 48 →
        s'.store.queue.length = s.store.queue.length + 1 ∧
        ∃ r ∈ s'.store.queue, r.id = s.store.nextId ∧ r.cls = .continuation ∧ r.link = id ∧
          r.running = false ∧ r.anchorOpen = false ∧ r.verdict = none ∧ r.locus = none ∧
          r.peers = [] ∧ r.onset = m.onset ∧ r.measure.dmin = m.dmin ∧ r.measure.dmax = m.dmax ∧
          r.halfCycles = min (e.index - m.crossing).toNat 4294967295 ∧
          r.durationMs = min (e.stamp - m.time).toNat 4294967295 ∧
          r.time = s.recordTime e.stamp ∧
          ∃ asked, recordMade s asked e.index failed ∧ s'.cap = asked.cap ∧
            s'.ctl.causes[9] = asked.ctl.causes[9] ∧
            (s.idsInOrder → s.withinCapacity →
              (∃ r0 ∈ asked.store.queue, r0.id = r.id ∧ r.wave = r0.wave) ∧
              (r.isOpen = true ↔ ∃ (k : Fin 8) (offset : Nat), r.wave = .present k offset ∧
                s'.cap.slots[k].state = .filling) ∧
              (r.isOpen = false → s'.ctl.causes[8] = ⟨true, 0, false⟩))) ∧
      (48 ≤ s.store.queue.length → s'.store.queue = s.store.queue ∧
        s'.store.tally[4] = s.store.tally[4].add m.measure.residual m.measure.maximum
          (min (e.stamp - m.time).toNat 4294967295))

/-- RESTART, and a HALT in a position close that emits no refresh, with no refresh that waits to be
taken in RUN: the event in progress is finished ABORTED (R63), a held period makes an ABORTED
CONTINUATION or goes to the tally (R64), every OPEN record closes ABORTED (R151), each early close
copies what R138 and R139 have it copy, with UNSENT from a VERDICT still queued (R120, R132), and
the interval in progress is written PARTIAL (R166). That a record with an own verdict may come out
with its blocks or without is the order of R139, and that the locked cycle which ends with the close
that brings HALT is in the entry, with its frequency, or not, that of the aggregator's HALT: the
free value of log entry 3. With a refresh waiting, a reader may take it in RUN before its block
takes the stop (R29, R97): nothing in progress outlasts the stop either, and the aggregator may have
taken one refresh more. -/
def Obligations.StopsAbortWhatIsInProgress : Prop :=
  (∀ (t : Nat) (low : Bool) (s : State), s.port.inService = some .restart →
    s.openRecordsWait → s.flagsHaveReasons → s.linkedAreOpen → s.idsInOrder → s.withinCapacity →
    s.oneFilling →
    ∃ s1 : State, exec (.restart t low) s = .next (s1.answer .done []) ∧
      stopLeavesNothing s s1 ∧ (s.agg.cur = none → noInterval s s1) ∧
      (∀ i, s.agg.cur = some i → ∃ acc : Accumulators, endsPartial s s1 { i with acc := acc } ∧
        i.acc.count ≤ acc.count ∧ acc.count ≤ i.acc.count + 1 ∧
        acc.freqSum = i.acc.freqSum ∧ acc.locked = i.acc.locked) ∧
      ((s.ctl.state = .run → s.nothingWaits) → abortsInto s s1 ∧
        (∀ i, s.agg.cur = some i → endsPartial s s1 i) ∧
        ∀ (k : Fin 4) (c : Context), s.corr.slots[k] = some c → closesEarlyInto s s1 k c)) ∧
  ∀ (checks : CloseChecks) (s : State), s.haltsNext → ¬s.emitsNext →
    s.openRecordsWait → s.flagsHaveReasons → s.linkedAreOpen → s.idsInOrder → s.withinCapacity →
    s.oneFilling →
    ∃ s', exec (.positionClose checks) s = .next s' ∧ stopLeavesNothing s s' ∧
      (s.agg.cur = none → noInterval s s') ∧
      (s.nothingWaits → abortsInto s s' ∧
        (∀ i, s.agg.cur = some i → endsPartial s s' i ∨ lockedCycleEnds s s' ∧
          endsPartial s s' { i with acc := i.acc.addCycle s'.cfe.trk.freq }) ∧
        ∀ (k : Fin 4) (c : Context), s.corr.slots[k] = some c → closesEarlyInto s s' k c)

/-! The capture unit. -/

/-- A capture request for record `id` anchored at refresh a is decided when it is taken (R71): after
RESTART or HALT, or with the unit OFF, CAPTURE_OFF; with an empty history NO_SLOT; it joins the
FILLING slot at offset a - f where that lies within 8..23 (R73), else WAVE_BUSY; it opens the
lowest FREE slot at offset 8 with first index a - 8, and copies the 8 or 9 half-cycles already
completed from the rings (R72); with none FREE, NO_SLOT (R74). A copy that fails its check is a
memory check error in the slot just opened (R72, R78, R79, R81). That the copies after the first
failed one are not made, so that a request has one such error at most, is the model's choice (DESIGN
CHOICE, log entry 16), and so is that the slot keeps its contents while SCRUBBING, as one whose
scrub is abandoned does (DESIGN CHOICE, log entry 28). Segments counted back from the ring position:
log entry 11 (DEDUCED). -/
def Obligations.CaptureRequestIsDecided : Prop :=
  ∀ (s : State) (id : Nat) (a : RefIndex) (failed : Option (Fin 9)),
    let s' := s.captureRequest id a failed
    let answer (w : WavePart) : Prop :=
      s'.store = { s.store with
        queue := s.store.queue.map fun r => if r.id = id then { r with wave := w } else r }
    onlyChanges [.cap, .store, .ctl] s s' ∧
    ((s.cap.view ≠ .run ∨ s.cap.on = false) → answer (.absent .captureOff) ∧ s'.cap = s.cap) ∧
    (s.cap.view = .run → s.cap.on = true →
      (s.rms.history = [] → answer (.absent .noSlot) ∧ s'.cap = s.cap) ∧
      (∀ k : Fin 8, s.rms.history ≠ [] → s.fillingSlot = some k →
        let off := (a - s.cap.slots[k].first).toNat
        (8 ≤ off ∧ off ≤ 23 → answer (.present k off) ∧ s'.cap = { s.cap with
          slots := s.cap.slots.set k
            { s.cap.slots[k] with holders := s.cap.slots[k].holders + 1 } }) ∧
        (¬(8 ≤ off ∧ off ≤ 23) → answer (.absent .waveBusy) ∧ s'.cap = s.cap)) ∧
      (s.rms.history ≠ [] → (∀ k : Fin 8, s.cap.slots[k].state ≠ .filling) →
        ((∀ k : Fin 8, s.cap.slots[k].state ≠ .free) →
          answer (.absent .noSlot) ∧ s'.cap = s.cap) ∧
        (∀ k : Fin 8, s.cap.slots[k].state = .free →
          (∀ j : Fin 8, j < k → s.cap.slots[j].state ≠ .free) → failed = none →
          answer (.present k 8) ∧ s'.ctl = s.ctl ∧ s'.cap.on = true ∧
          (∀ j : Fin 8, j ≠ k → s'.cap.slots[j] = s.cap.slots[j]) ∧
          s'.cap.slots[k].state = .filling ∧ s'.cap.slots[k].holders = 1 ∧
          s'.cap.slots[k].first = a - 8 ∧ s'.cap.slots[k].scrubEnd = none) ∧
        ∀ (k : Fin 8) (newest : Refresh) (old : List Refresh) (ahead : Nat),
          s.cap.slots[k].state = .free →
          (∀ j : Fin 8, j < k → s.cap.slots[j].state ≠ .free) →
          s.rms.history = newest :: old → ahead ≤ 1 → newest.index = a + BitVec.ofNat 48 ahead →
          let copied (sl : Slot) (n : Nat) : Prop := sl.filled = n ∧
            ∀ (j : Fin 40) (q : Fin 11) (i : Fin 64), sl.contents[j][q][i] =
              if j.val < n then
                s.cfe.rings[q][Fin.ofNat 640
                  (64 * (s.cfe.pos.val / 64 + 10 + j.val - 8 - ahead) + i.val)]
              else s.cap.slots[k].contents[j][q][i]
          ((∀ j, failed = some j → 8 + ahead ≤ j.val) →
            answer (.present k 8) ∧ s'.ctl = s.ctl ∧
            ∃ sl, s'.cap = { s.cap with slots := s.cap.slots.set k sl } ∧ copied sl (8 + ahead) ∧
              sl.state = .filling ∧ sl.holders = 1 ∧ sl.first = a - 8 ∧ sl.scrubEnd = none) ∧
          ∀ j, failed = some j → j.val < 8 + ahead →
            ∃ (s1 : State) (sl : Slot), errsInto s1 s' k ∧ s1.now = s.now ∧ s1.ctl = s.ctl ∧
              s1.store = { s.store with queue := s.store.queue.map fun r =>
                if r.id = id then { r with wave := .present k 8 } else r } ∧
              s1.cap = { s.cap with slots := s.cap.slots.set k sl } ∧ copied sl (j.val + 1) ∧
              sl.state = .filling ∧ sl.holders = 1 ∧ sl.first = a - 8 ∧ sl.scrubEnd = none))

/-- POSITION_CLOSE at the half-cycle end that emits refresh m, with no HALT in the same close: the
FILLING slot copies the half-cycle just completed into position m - f - 1, for f + 9 <= m <=
f + 40, unless that position has been copied already, and at position 39 becomes HELD (R75, R76);
a copy that fails its check is a memory check error in the slot, with the copy made (R78, R79,
R81). Without a refresh, without a FILLING slot or outside those bounds the capture unit is
untouched. That a slot in SCRUBBING keeps its contents, its scrub running or abandoned, is the
model's choice (DESIGN CHOICE, log entry 28). -/
def Obligations.FillCopiesTheHalfCycle : Prop :=
  ∀ (checks : CloseChecks) (s : State), ¬s.haltsNext →
    ∃ s', exec (.positionClose checks) s = .next s' ∧
      ((¬s.emitsNext ∨ s.fillingSlot = none) → s'.cap = s.cap ∧ s'.store = s.store) ∧
      ∀ k : Fin 8, s.emitsNext → s.fillingSlot = some k →
        let sl := s.cap.slots[k]
        let off := (s.rms.nextIndex - sl.first).toNat
        let copies := 9 ≤ off ∧ off ≤ 40 ∧ sl.filled < off
        (¬copies → s'.cap = s.cap) ∧
        (copies → checks.fails = false →
          s'.cap.on = s.cap.on ∧ (∀ j : Fin 8, j ≠ k → s'.cap.slots[j] = s.cap.slots[j]) ∧
          s'.cap.slots[k].filled = sl.filled + 1 ∧ s'.cap.slots[k].holders = sl.holders ∧
          s'.cap.slots[k].first = sl.first ∧ s'.cap.slots[k].scrubEnd = sl.scrubEnd ∧
          s'.cap.slots[k].state = (if sl.filled = 39 then .held else .filling) ∧
          ∀ (j : Fin 40) (q : Fin 11) (i : Fin 64), s'.cap.slots[k].contents[j][q][i] =
            if j.val + 1 = off then
              s'.cfe.rings[q][Fin.ofNat 640 (64 * (s.cfe.pos.val / 64) + i.val)]
            else sl.contents[j][q][i]) ∧
        (copies → checks.fails = true → s.oneFilling →
          ∃ (s1 : State) (sl1 : Slot), errsInto s1 s' k ∧ s1.now = s'.now ∧
            s1.store = s.store ∧ s1.ctl.causes[3] = s.ctl.causes[3] ∧
            s1.cap = { s.cap with slots := s.cap.slots.set k sl1 } ∧
            sl1 = { sl with filled := sl.filled + 1, contents := sl1.contents } ∧
            ∀ (j : Fin 40) (q : Fin 11) (i : Fin 64), sl1.contents[j][q][i] =
              if j.val + 1 = off then
                s'.cfe.rings[q][Fin.ofNat 640 (64 * (s.cfe.pos.val / 64) + i.val)]
              else sl.contents[j][q][i])

/-- SCRUB_COMPLETE frees a slot whose scrub has come to its time, with its contents cleared (R80). A
memory check error: SLOT_ERROR, WAVE_LOST for every holder of a slot in use and a scrub of 5 ms
(R79); with a scrub in progress a double capture fault, which also raises CAPTURE_OFF, turns the
unit OFF, abandons every scrub and ends any other fill (R81); while OFF no scrub starts (R82).
SCRUB_LOCATION_ERROR is such a double fault, and the slot stays SCRUBBING (R81). That the contents
are kept while a scrub runs and after it is abandoned is the model's choice, which R80 and R81 do
not state (DESIGN CHOICE, log entry 28). -/
def Obligations.ScrubsEnd : Prop :=
  (∀ (t : Nat) (k : Fin 8) (s : State) (due : Ms), s.cap.slots[k].state = .scrubbing →
    s.cap.slots[k].scrubEnd = some due → (s.elapse t).reached due = true →
    ∃ sl : Slot, exec (.scrubComplete t k) s = .next ((s.elapse t).setSlot k sl) ∧
      sl.state = .free ∧ sl.holders = 0 ∧ sl.filled = 0 ∧ sl.scrubEnd = none ∧
      ∀ (j : Fin 40) (q : Fin 11) (i : Fin 64), sl.contents[j][q][i] = 0) ∧
  (∀ (s : State) (k : Fin 8),
    onlyChanges [.cap, .store, .ctl] s (s.memoryError k) ∧ errsInto s (s.memoryError k) k) ∧
  ∀ (t : Nat) (k : Fin 8) (s : State) (due : Ms), s.cap.slots[k].state = .scrubbing →
    s.cap.slots[k].scrubEnd = some due → s.cap.on = true →
    ∃ s', exec (.scrubLocationError t k) s = .next s' ∧ onlyChanges [.cap, .store, .ctl] s s' ∧
      errsInto (s.elapse t) s' k ∧ s'.cap.on = false ∧
      (∀ j : Fin 8, s'.cap.slots[j].scrubEnd = none) ∧
      s'.cap.slots[k].state = .scrubbing ∧ s'.ctl.causes[2] = ⟨true, k.val, false⟩ ∧
      s'.ctl.causes[3] = ⟨true, k.val, false⟩

/-! The mark line interface. -/

/-- MARK_FALLING_EDGE on a released line is stamped, and restarts the stuck watch (R87). In RUN,
where the stamp differs from the last edge time, it opens the lowest CLOSED context slot with the
next refresh as its reference and the pre-values of two before (R88, R122, R123), and with the
detector in WATCH a SYMPATHETIC record is made and linked, with STORE_FULL as the 48th (R145) and
captured at the newest refresh, or counted by the tally (R124; its flags with an empty history: log
entry 26; an edge again in the millisecond of one reported before a LINK_RESET: log entry 24). The
next refresh is the newest index plus one, or 0 (R122); pre-values are the D and I values and the
detector state of entry n - 2, absent without it (R123); the newest measurement is that of the
newest entry, or 0 (R124); a record time is the clock value as station time, or the tail's time
where that is later (R146; the frozen time base: log entry 27, DEDUCED). The copies of its
capture: log entries 11, 16 and 28. -/
def Obligations.FallingEdgeOpensAContext : Prop :=
  (∀ (t : Nat) (failed : Option (Fin 9)) (s : State), s.mark.asserted = false →
    ∃ s', exec (.markFallingEdge t failed) s = .next s' ∧
      s'.mark = { s.mark with
        asserted := true, lastEdge := some s'.now, stuckExpiry := some (s'.now + 51)
        recoveryExpiry := none } ∧
      ((s.mark.view ≠ .run ∨ s.mark.lastEdge = some s'.now ∨ s.corr.view ≠ .run ∨
          ∀ k : Fin 4, s.corr.slots[k] ≠ none) →
        s'.corr = s.corr ∧ s'.store = s.store ∧ s'.cap = s.cap) ∧
      (∀ k : Fin 4, s.mark.view = .run → s.mark.lastEdge ≠ some s'.now → s.corr.view = .run →
        s.corr.slots[k] = none → (∀ j : Fin 4, j < k → s.corr.slots[j] ≠ none) →
        ∃ c : Context, s'.corr.slots[k] = some c ∧
          (∀ j : Fin 4, j ≠ k → s'.corr.slots[j] = s.corr.slots[j]) ∧
          c.edge = s'.now ∧ c.close = s'.now + BitVec.ofNat 48 s.window ∧
          c.ref = s.nextRefresh ∧ c.pre = s.preValues s.nextRefresh ∧ c.anchored = false ∧
          c.own = none ∧ c.peers = [] ∧ c.unsent = false ∧
          (s.det.mode ≠ .watch → c.linked = 0 ∧ s'.store = s.store) ∧
          (s.det.mode = .watch → s.store.queue.length < 48 →
            c.linked = s.store.nextId ∧
            (s.idsInOrder → s.withinCapacity →
              recordMade s s' ((s.rms.history.head?).elim 0 Refresh.index) failed) ∧
            ∃ r ∈ s'.store.queue, r.id = s.store.nextId ∧
              r.cls = .sympathetic ∧ r.running = false ∧ r.anchorOpen = true ∧
              r.time = s.recordTime s'.now ∧ r.durationMs = 0 ∧ r.halfCycles = 0 ∧
              r.verdict = none ∧ r.locus = none ∧ r.peers = [] ∧ r.flags.mixed = false ∧
              r.flags.ongoing = false ∧ r.flags.upgraded = false ∧
              r.flags.preDisturbed = false ∧ r.flags.unsent = false ∧
              r.flags.unanchored = false ∧ r.onset = s.declared ∧ r.measure = s.newestMeasure ∧
              (r.flags.clipped = true ↔ ∃ x old, s.rms.history = x :: old ∧
                ∃ q : Fin 11, x.clip[q] = true) ∧
              (r.flags.freeRun = true ↔ ∃ x old, s.rms.history = x :: old ∧ x.freeRun = true) ∧
              ((failed = none ∨ s.idsInOrder ∧ s.withinCapacity) →
                r.isOpen = true ∧ r.flags.aborted = false)) ∧
          (s.det.mode = .watch → 48 ≤ s.store.queue.length →
            c.linked = 0 ∧ s'.store.queue = s.store.queue ∧
            s'.store.tally[3] = s.store.tally[3].add s.newestMeasure.residual
              s.newestMeasure.maximum 0))) ∧
  ∀ s : State,
    (s.rms.history = [] → s.nextRefresh = 0 ∧
      s.newestMeasure = ⟨Vector.replicate 3 0, Vector.replicate 3 0, 0, 0⟩) ∧
    (∀ e old, s.rms.history = e :: old → s.nextRefresh = e.index + 1 ∧
      let m := s.newestMeasure
      (∀ k : Fin 3, m.dmin[k] = e.value[dIndex k] ∧ m.dmax[k] = e.value[dIndex k] ∧
        m.residual ≤ e.value[dIndex k] ∧ e.value[dIndex k] ≤ m.maximum) ∧
      (∃ k : Fin 3, m.residual = e.value[dIndex k]) ∧
      ∃ k : Fin 3, m.maximum = e.value[dIndex k]) ∧
    (∀ n : RefIndex,
      ((∀ e ∈ s.rms.history, e.index ≠ n - 2) → s.preValues n = none) ∧
      ∀ newer e older, s.rms.history = newer ++ e :: older → e.index = n - 2 →
        (∀ x ∈ newer, x.index ≠ n - 2) →
        ∃ p, s.preValues n = some p ∧ p.det = e.det ∧
          ∀ k : Fin 3, p.d[k] = e.value[dIndex k] ∧ p.i[k] = e.value[iIndex k]) ∧
    ∀ t : Ms,
      let ms := if atOrAfter t s.store.startTime then (t - s.store.startTime).toNat else 0
      let base := match s.store.frozenBase with
        | some b => b
        | none => s.timeBase
      let x : StationTime := ⟨(base + ms / 1000) % 4294967296, ms % 1000⟩
      (s.store.queue = [] → s.recordTime t = x) ∧
      ∀ old tail, s.store.queue = old ++ [tail] → s.recordTime t =
        if x.sec < tail.time.sec ∨ x.sec = tail.time.sec ∧ x.ms < tail.time.ms then tail.time
        else x

/-- The other moments of the mark line: the release, which starts the recovery of a STUCK
interface; the end of the own pulse; the stuck expiry, with MARK_STUCK; the recovery (R87, R93,
R94, R96). An anchor request at crossing time tn is answered none outside RUN and while STUCK;
else by the candidate with the latest edge; else, with no candidate, none while the line is
ASSERTED and a pulse while it is not (R90). A crossing that the detector takes within a stop, in an
order `o` that has it do so, is ended ABORTED. The interface answers it none without a pulse where
it has taken the stop, and the event is UNANCHORED; where it has not, it answers as R90 has it, and
a pulse is cut short (R63, R97; the orders: log entry 3). Where the correlation unit takes the stop
between the answer and the anchoring, or before both, no record is upgraded and the new one is
linked to no context, though not UNANCHORED where the answer was a context (R125). RESTART takes its
stop in one of the orders; that the crossing is judged against the sets of the run, the tracker reseeding
after it, is the model's choice (log entry 3). -/
def Obligations.MarkLineTimesAndAnchors : Prop :=
  (∀ (t : Nat) (s : State), s.mark.asserted = true → s.mark.drive = false →
    exec (.markRelease t) s = .next ((s.elapse t).withMark { s.mark with
      asserted := false, stuckExpiry := none
      recoveryExpiry :=
        if s.mark.stuck then some ((s.elapse t).now + 1000) else s.mark.recoveryExpiry })) ∧
  (∀ (t : Nat) (s : State) (x : Ms), s.mark.pulseEnd = some x → (s.elapse t).reached x = true →
    exec (.pulseEnd t) s =
      .next ((s.elapse t).withMark { s.mark with drive := false, pulseEnd := none })) ∧
  (∀ (t : Nat) (s : State) (x : Ms), s.mark.asserted = true → s.mark.stuckExpiry = some x →
    (s.elapse t).reached x = true →
    ∃ s', exec (.stuckExpiry t) s = .next s' ∧ onlyChanges [.mark, .ctl] s s' ∧
      s'.mark = { s.mark with stuckExpiry := none, stuck := true } ∧
      s'.ctl.causes[6] = ⟨true, 0, true⟩) ∧
  (∀ (t : Nat) (s : State) (x : Ms), s.mark.asserted = false → s.mark.stuck = true →
    s.mark.recoveryExpiry = some x → (s.elapse t).reached x = true →
    exec (.recoveryExpiry t) s =
      .next ((s.elapse t).withMark { s.mark with recoveryExpiry := none, stuck := false })) ∧
  (∀ (s : State) (tn : Ms),
    let candidate (c : Context) : Prop :=
      c.anchored = false ∧ (c.linked = 0 ∨ s.upgradable c = true) ∧
      (atOrAfter c.edge (tn - BitVec.ofNat 48 s.markJoin) = true ∨
        s.mark.asserted = true ∧ s.mark.lastEdge = some c.edge)
    ((s.mark.view ≠ .run ∨ s.mark.stuck = true) → s.anchorAnswer tn = .none) ∧
    (s.mark.view = .run → s.mark.stuck = false →
      (∀ (k : Fin 4) (c : Context), s.corr.slots[k] = some c → candidate c →
        (∀ (j : Fin 4) (d : Context), j ≠ k → s.corr.slots[j] = some d → candidate d →
          isBefore d.edge c.edge = true ∧ isBefore c.edge d.edge = false) →
        s.anchorAnswer tn = .context k) ∧
      ((∀ (k : Fin 4) (c : Context), s.corr.slots[k] = some c → ¬candidate c) →
        s.anchorAnswer tn = if s.mark.asserted then .none else .pulse))) ∧
  (∀ (t : Nat) (low : Bool) (s : State), s.port.inService = some .restart →
    ∃ (tableFirst : Bool) (o : StopOrder) (failed : Option (Fin 9)) (s1 : State),
      exec (.restart t low) s = .next (s1.answer .done []) ∧
      let st := (s.elapse t).takeStop (.restart low tableFirst) o failed id
      s1.det = st.det ∧ s1.mark = st.mark ∧ s1.store = st.store ∧ s1.corr = st.corr) ∧
  ∀ (k : Stop) (o : StopOrder) (failed : Option (Fin 9)) (e : Refresh) (rest : List Refresh)
    (s : State) (conds : Vector Cond 3), s.ctl.state = .run → s.viewsAgree →
    s.det.handed = e :: rest → s.ref.handed = [] ∨ s.ref.handed = [e] →
    (∀ k : Fin 3, conds[k] = judgeCond (s.setFor e.index k) e.value[dIndex k] s.det.cond[k]) →
    s.det.mode = .watch → (∃ k : Fin 3, conds[k] ≠ .back) → s.store.queue.length < 48 →
    (o.corrEarly = true ∨ o.corrWithin = true ∨
      ∀ (k : Fin 4) (c : Context), s.corr.slots[k] = some c → s.upgradable c = false) →
    s.idsInOrder → s.withinCapacity → s.oneFilling → o.detTakes = true → o.detEarly = false →
    let s' := s.takeStop k o failed id
    let stopsBefore := o.corrEarly = true ∨ o.corrWithin = true
    (stopsBefore → ∀ x ∈ s.store.queue, ∃ x' ∈ s'.store.queue, x'.id = x.id ∧
      x'.flags.upgraded = x.flags.upgraded) ∧
    s'.det.mode = .watch ∧ s'.det.handed = rest ∧ s'.mark.drive = false ∧
    s'.mark.pulseEnd = none ∧ (o.markEarly = true → s'.mark.lastEdge = s.mark.lastEdge) ∧
    (o.markEarly = false → o.corrEarly = false → s.anchorAnswer e.stamp = .pulse →
      s'.mark.lastEdge = some s.now) ∧
    ∃ r ∈ s'.store.queue, r.id = s.store.nextId ∧ r.isOpen = false ∧ r.running = false ∧
      r.anchorOpen = false ∧ r.flags.aborted = true ∧ r.halfCycles = 1 ∧
      r.durationMs = min (s.now - e.stamp).toNat 4294967295 ∧
      r.cls = (if ∀ k : Fin 3, e.value[dIndex k] < (s.setFor e.index k).intStart then
          .interruption
        else if ∃ k : Fin 3, conds[k] = .outLow then .dip else .swell) ∧
      (stopsBefore → r.verdict = none ∧ r.locus = none ∧ r.peers = []) ∧
      (o.markEarly = true ∨ o.corrEarly = true → r.flags.unanchored = true) ∧
      (o.markEarly = false → o.corrEarly = false →
        r.flags.unanchored = (s.anchorOf e.stamp).isNone)

/-! The notice link controller. -/

/-- PRESENT_PERIOD_EXPIRY in RUN hands over one PRESENT, discarded at a full queue, and sets the
next expiry 60,000 ms later (R103, R185). ATTEMPT_START: once the line has been idle for the gap of
the attempt count, the frame is built afresh from the straps and the queued frame, with the mark age
of this moment, and the transmitter is SENDING, its leader on the line (R102, R107; the line's
fields: log entry 9). -/
def Obligations.PresentsAreHandedAndAttemptsBegin : Prop :=
  (∀ (t : Nat) (s : State) (x : Ms), s.ctl.state = .run → s.ctl.presentExpiry = some x →
    (s.elapse t).reached x = true →
    ∃ s', exec (.presentPeriodExpiry t) s = .next s' ∧ onlyChanges [.link, .ctl] s s' ∧
      s'.ctl = { s.ctl with presentExpiry := some (x + 60000) } ∧
      s'.link.queue =
        (if s.link.queue.length < 8 then s.link.queue ++ [.present] else s.link.queue) ∧
      (s.link.tx ≠ .idle → s'.link.tx = s.link.tx) ∧ s'.link.attempts = s.link.attempts ∧
      s'.link.peers = s.link.peers) ∧
  ∀ (t t0 : Nat) (s : State) (head : QueuedFrame) (rest : List QueuedFrame),
    s.link.queue = head :: rest → s.link.view = .run → s.link.tx = .waiting →
    s.link.idleFrom = some t0 →
    t0 + 80 * (if s.link.attempts = 0 then 24
      else 24 + (s.ctl.straps.addr.val + 7 * s.link.attempts) % 16 * 12) ≤ max s.time t →
    exec (.attemptStart t) s = .next ((s.elapse t).withLink { s.link with
      tx := .sending, txStart := max s.time t
      highFrom := some (max s.time t + 720), lastStop := max s.time t + 800
      txBytes := encodeNotice (match head with
        | .present => .present s.ctl.straps.addr s.ctl.straps.level s.ctl.straps.wiring
            s.ctl.straps.freq
        | .verdict v => .verdict s.ctl.straps.addr s.ctl.straps.level v.verdict v.k v.origin
            (((s.elapse t).now - v.edge).setWidth 16) (BitVec.ofInt 16 v.dU)
            (BitVec.ofInt 16 v.dI)) })

/-- ATTEMPT_SUCCESS, once ten bit times have passed for each byte of the frame, takes it off the
queue, idle time counts from its end, or from a later edge's, and the frame in reception is the
station's own (R100, R109, R113). READBACK_MISMATCH, from the middle of the first bit sent as 1 on,
the third of the leader (R101, R108), counts a failure; the eighth
drops the frame and reports a VERDICT's drop, which sets UNSENT on its context and its record; a
withdrawn VERDICT leaves without a second report; with the frame gone the transmitter is WAITING for
the next one, or IDLE (R105, R106, R109, R132). A station that is not receiving
either waits for no stop bit after it (R100; log entry 9). That either command changes the clock
alone before those moments is the model's choice (log entry 4). -/
def Obligations.AttemptEnds : Prop :=
  (∀ (t : Nat) (s : State) (head : QueuedFrame) (rest : List QueuedFrame),
    s.link.tx = .sending → s.link.queue = head :: rest →
    let fin := s.link.txStart + 800 * s.link.txBytes.length
    (max s.time t < fin → exec (.attemptSuccess t) s = .next (s.elapse t)) ∧
    (fin ≤ max s.time t → ∃ s', exec (.attemptSuccess t) s = .next s' ∧ onlyChanges [.link] s s' ∧
      s'.link.queue = rest ∧ s'.link.attempts = 0 ∧
      s'.link.tx = (if rest ≠ [] ∧ s.link.view = .run then .waiting else .idle) ∧
      s'.link.idleFrom = some (max (s.link.highFrom.getD fin)
        (if s.link.rx = .receiving ∨ s.link.rx = .trailing then max s.link.lastStop fin
        else min (max s.link.lastStop fin) s'.time)) ∧ s'.link.peers = s.link.peers ∧
      s'.link.rx = s.link.rx ∧
      (s'.link.rxOwn = true ↔ s.link.rx = .receiving ∨ s.link.rx = .trailing))) ∧
  ∀ (t : Nat) (s : State) (head : QueuedFrame) (rest : List QueuedFrame),
    s.link.tx = .sending → s.link.queue = head :: rest →
    (max s.time t < s.link.txStart + 200 → exec (.readbackMismatch t) s = .next (s.elapse t)) ∧
    (s.link.txStart + 200 ≤ max s.time t →
    ∃ s', exec (.readbackMismatch t) s = .next s' ∧ onlyChanges [.link, .corr, .store] s s' ∧
      (head.isWithdrawn = false → s.link.attempts < 7 →
        s'.link = { s.link with
          attempts := s.link.attempts + 1, txBytes := [], tx := .waiting
          lastStop := if s.link.rx = .receiving ∨ s.link.rx = .trailing then s.link.lastStop
            else min s.link.lastStop s'.time } ∧
        s'.corr = s.corr ∧ s'.store = s.store) ∧
      (head.isWithdrawn = true ∨ 7 ≤ s.link.attempts →
        s'.link.tx = (if rest ≠ [] ∧ s.link.view = .run then .waiting else .idle) ∧
        s'.link.txBytes = [] ∧ s'.link.rx = s.link.rx ∧ s'.link.peers = s.link.peers) ∧
      (head.isWithdrawn = true →
        s'.link.queue = rest ∧ s'.link.attempts = 0 ∧ s'.corr = s.corr ∧ s'.store = s.store) ∧
      (∀ v, head = .verdict v → v.withdrawn = false → 7 ≤ s.link.attempts →
        s'.link.queue = rest ∧ s'.link.attempts = 0 ∧
        (∀ (k : Fin 4) (c : Context), s.corr.slots[k] = some c →
          s'.corr.slots[k] = some { c with unsent := c.unsent || (c.edge == v.edge) }) ∧
        (v.recordId ≠ 0 → ∀ r ∈ s.store.queue, r.id = v.recordId →
          ∃ r' ∈ s'.store.queue, r'.id = r.id ∧ r'.flags.unsent = true ∧ r'.isOpen = r.isOpen)) ∧
      (head = .present → 7 ≤ s.link.attempts →
        s'.link.queue = rest ∧ s'.link.attempts = 0 ∧ s'.corr = s.corr ∧ s'.store = s.store))

/-- A VERDICT handed over: placed at the tail of a queue of fewer than 8 frames; at a full queue in
place of the oldest PRESENT that is not being sent; else dropped, which sets UNSENT on the OPEN
context and the held record it names (R104, R105, R132). After RESTART or HALT, and before the next
START, it is dropped at once (R120). -/
def Obligations.VerdictIsQueuedOrDropped : Prop :=
  ∀ (s : State) (v : QueuedVerdict),
    let s' := s.handVerdict v
    let mayGo (i : Nat) : Prop :=
      s.link.queue[i]? = some .present ∧ ¬(i = 0 ∧ s.link.tx = .sending)
    let dropped : Prop := s'.link = s.link ∧
      (∀ (k : Fin 4) (c : Context), s.corr.slots[k] = some c →
        s'.corr.slots[k] = some { c with unsent := c.unsent || (c.edge == v.edge) }) ∧
      s'.store = { s.store with queue := s.store.queue.map fun r =>
        if v.recordId ≠ 0 ∧ r.id = v.recordId then
          { r with flags := { r.flags with unsent := true } } else r }
    onlyChanges [.link, .corr, .store] s s' ∧
    (s.link.view ≠ .run → dropped) ∧
    (s.link.view = .run →
      (s.link.queue.length < 8 → s'.link.queue = s.link.queue ++ [.verdict v] ∧
        s'.link.attempts = s.link.attempts ∧ s'.corr = s.corr ∧ s'.store = s.store ∧
        (s.link.tx ≠ .idle → s'.link.tx = s.link.tx) ∧
        (s.link.tx = .idle → s'.link.tx = .waiting)) ∧
      (8 ≤ s.link.queue.length → (∀ i, ¬mayGo i) → dropped) ∧
      ∀ i, 8 ≤ s.link.queue.length → mayGo i → (∀ j, j < i → ¬mayGo j) →
        s'.link.queue = s.link.queue.eraseIdx i ++ [.verdict v] ∧
        s'.link.attempts = (if i = 0 then 0 else s.link.attempts) ∧
        s'.corr = s.corr ∧ s'.store = s.store)

/-- NOTICE_FALLING_EDGE: the idle period ends, and counts again from the end of the byte's stop bit,
or later where the line rises later; a station that is neither sending nor receiving finds the line
idle from its last rise, and never waits for a stop bit (R100, R107). An IDLE receiver enters
RECEIVING at a start bit with the leader arrival time, and stays IDLE at a glitch; a RECEIVING one
takes a byte that comes within 20 bit times, sets the expected length at the second and is TRAILING
at the last; in TRAILING a start bit makes the frame too long, unless the line has been idle for
more than 20 bit times. The faults of a byte: a low stop bit, a wrong leader, a second byte of
unknown kind (R111). A byte is taken at its start bit, and its last rise is known then: log
entry 9. A glitch in RECEIVING or TRAILING leaves the receiver as it was, the model's choice (log
entry 9). -/
def Obligations.NoticeEdgesBeginBytes : Prop :=
  (∀ s s' : State, s.stopBitAwaitedOnLine → step s = .next s' → s'.stopBitAwaitedOnLine) ∧
  ∀ (t : Nat) (e : EdgeSample) (s : State), e.wf = true →
    let waits : Prop := s.link.tx = .sending ∨ s.link.rx ≠ .recovering
    ∃ s', exec (.noticeFallingEdge t e) s = .next s' ∧ onlyChanges [.link] s s' ∧
      s'.link.queue = s.link.queue ∧ s'.link.tx = s.link.tx ∧ s'.link.peers = s.link.peers ∧
      (∀ b, e = .start b → (waits → s'.link.idleFrom = some (s'.time + 800)) ∧
        ∀ n : Nat, n ≤ 8 → (∀ i, i < n → b.getLsbD i = true) → (n < 8 → b.getLsbD n = false) →
          s'.link.highFrom = some (s'.time + 80 * (9 - n))) ∧
      (∀ b d, e = .broken b d → (waits → s'.link.idleFrom = some (s'.time + max 800 d)) ∧
        s'.link.highFrom = some (s'.time + d)) ∧
      (¬waits → s'.link.lastStop = s.link.lastStop ∧
        (s.stopBitAwaitedOnLine → s'.link.idleFrom = s'.link.highFrom)) ∧
      (∀ d, e = .glitch d → s'.link = { s.link with highFrom := some (s'.time + d) } ∧
        s'.link.idleFrom = some (max s.link.lastStop (s'.time + d))) ∧
      ∀ b low, (low = false ∧ e = .start b ∨ low = true ∧ ∃ d, e = .broken b d) →
        (s.link.rx = .idle →
          s'.link.rx = .receiving ∧ s'.link.rxBytes = [b] ∧ s'.link.rxLeader = s'.now ∧
          s'.link.rxEnd = s'.time + 800 ∧ s'.link.rxExpected = none ∧ s'.link.rxOwn = false ∧
          s'.link.rxFault =
            if low then some .framing else if b = 0x5C then none else some .badLeader) ∧
        (s.link.rx = .receiving → s.link.rxFault = none → s'.time ≤ s.link.rxEnd + 1600 →
          let kind : Option Nat :=
            if b.toNat / 16 = 9 then some 4 else if b.toNat / 16 = 6 then some 10 else none
          s'.link.rxBytes = s.link.rxBytes ++ [b] ∧ s'.link.rxLeader = s.link.rxLeader ∧
          s'.link.rxEnd = s'.time + 800 ∧
          s'.link.rxExpected =
            (if s.link.rxBytes.length = 1 then kind else s.link.rxExpected) ∧
          (low = true → s'.link.rxFault = some .framing) ∧
          (low = false → s.link.rxBytes.length = 1 →
            s'.link.rxFault = if kind = none then some .badKind else none) ∧
          (low = false → 2 ≤ s.link.rxBytes.length → s'.link.rxFault = none) ∧
          s'.link.rx = (if s'.link.rxFault = none ∧
            s'.link.rxExpected = some (s.link.rxBytes.length + 1) then .trailing
            else .receiving)) ∧
        (s.link.rx = .receiving → (s.link.rxFault ≠ none ∨ s.link.rxEnd + 1600 < s'.time) →
          s'.link.rx = .receiving ∧ s'.link.rxBytes = s.link.rxBytes ∧
          s'.link.rxFault = s.link.rxFault ∧ s'.link.rxEnd = s.link.rxEnd) ∧
        (s.link.rx = .trailing → s'.link.rx = .trailing ∧ s'.link.rxBytes = s.link.rxBytes ∧
          ((∀ t0, s.link.idleFrom = some t0 → s'.time ≤ t0 + 1600) →
            s'.link.rxFault = some .tooLong) ∧
          (∀ t0, s.link.idleFrom = some t0 → t0 + 1600 < s'.time →
            s'.link.rxFault = s.link.rxFault)) ∧
        (s.link.rx = .recovering → s'.link.rx = .recovering ∧ s'.link.rxBytes = s.link.rxBytes)

/-- The faults of R111 are found so: no further start bit for more than 20 bit times in RECEIVING;
a start bit too early in TRAILING; a low stop bit, a wrong leader or an unknown kind from the middle
of the byte's stop bit on (these moments: log entry 9). Each, and a bad check or field at
completion, raises FRAME_ERROR with EXT and brings RECOVERING, and the peer table is not touched; a
station that is not sending then waits for no stop bit (R100; log entry 9).
RECOVERING ends 20 bit times after the line's last rise (R112); where none is known, after pin
reset, 20 bit times before this moment (log entry 9). That FRAME_MALFORMED with no such fault
changes the clock alone is the model's choice (DESIGN CHOICE, log entry 4). -/
def Obligations.FaultyFramesRaiseFrameError : Prop :=
  (∀ (t : Nat) (f : FrameFault) (s : State),
    let l := s.link
    let found : Prop := match f with
      | .tooShort => l.rx = .receiving ∧ l.rxFault = none ∧ l.rxEnd + 1600 < max s.time t
      | .tooLong => l.rx = .trailing ∧ l.rxFault = some .tooLong
      | .framing | .badLeader | .badKind =>
        l.rx = .receiving ∧ l.rxFault = some f ∧ l.rxEnd ≤ max s.time t + 40
    (¬found → exec (.frameMalformed t f) s = .next (s.elapse t)) ∧
    (found → ∃ s', exec (.frameMalformed t f) s = .next s' ∧ onlyChanges [.link, .ctl] s s' ∧
      s'.link = { s.link with
        rx := .recovering, rxBytes := [], rxExpected := none, rxFault := none, rxOwn := false
        lastStop := if s.link.tx = .sending then s.link.lastStop
          else min s.link.lastStop (max s.time t) } ∧
      s'.ctl.causes[4] = ⟨true, 0, true⟩)) ∧
  (∀ (t t0 : Nat) (s : State), s.link.rx = .trailing → s.link.rxFault = none →
    s.link.idleFrom = some t0 → t0 + 1600 ≤ max s.time t → decodeNotice s.link.rxBytes = none →
    ∃ s', exec (.frameComplete t) s = .next s' ∧ onlyChanges [.link, .ctl] s s' ∧
      s'.link.rx = .recovering ∧ s'.link.peers = s.link.peers ∧
      s'.ctl.causes[4] = ⟨true, 0, true⟩) ∧
  (∀ (t t0 : Nat) (s : State), s.link.rx = .recovering → s.link.highFrom = some t0 →
    t0 + 1600 ≤ max s.time t →
    exec (.receiverRecovered t) s = .next ((s.elapse t).withLink { s.link with rx := .idle })) ∧
  ∀ (t : Nat) (s : State), s.link.rx = .recovering → s.link.highFrom = none → 1600 ≤ max s.time t →
    exec (.receiverRecovered t) s = .next ((s.elapse t).withLink { s.link with
      rx := .idle, highFrom := some (max s.time t - 1600) })

/-- FRAME_COMPLETE with a valid frame: an own frame updates nothing; the station's own address in
another's frame raises ADDRESS_CLASH; any other refreshes its sender's entry, which becomes
PRESENT with PEER_CHANGE if it was ABSENT (R112, R113, R114). PEER_AGING_EXPIRY: a PRESENT entry
unheard for 180,000 ms becomes ABSENT with PEER_CHANGE, its other fields kept (R117). -/
def Obligations.PeersAreHeardAndAge : Prop :=
  (∀ (t t0 : Nat) (s : State) (n : Notice), s.link.rx = .trailing →
    s.link.rxFault = none → s.link.idleFrom = some t0 →
    t0 + 1600 ≤ max s.time t → decodeNotice s.link.rxBytes = some n →
    ∃ s', exec (.frameComplete t) s = .next s' ∧ onlyChanges [.link, .corr, .ctl] s s' ∧
      s'.link.rx = .idle ∧ s'.link.queue = s.link.queue ∧
      (s.link.rxOwn = true → s'.link.peers = s.link.peers ∧ s'.corr = s.corr ∧ s'.ctl = s.ctl) ∧
      (s.link.rxOwn = false → senderOf n = s.ctl.straps.addr →
        s'.ctl.causes[5] = ⟨true, (senderOf n).val, true⟩ ∧ s'.link.peers = s.link.peers ∧
        s'.corr = s.corr) ∧
      (s.link.rxOwn = false → senderOf n ≠ s.ctl.straps.addr →
        (∀ a : Fin 16, a ≠ senderOf n → s'.link.peers[a] = s.link.peers[a]) ∧
        s'.link.peers[senderOf n].present = true ∧
        s'.link.peers[senderOf n].lastHeard = some s.link.rxLeader ∧
        (∀ a level wiring freq, n = .present a level wiring freq →
          s'.link.peers[senderOf n].level = some level ∧
          s'.link.peers[senderOf n].wiring = some wiring ∧
          s'.link.peers[senderOf n].freq = some freq) ∧
        (∀ a level v k o age dU dI, n = .verdict a level v k o age dU dI →
          s'.link.peers[senderOf n].level = some level ∧
          s'.link.peers[senderOf n].wiring = s.link.peers[senderOf n].wiring ∧
          s'.link.peers[senderOf n].freq = s.link.peers[senderOf n].freq) ∧
        s'.ctl.causes[11] =
          if s.link.peers[senderOf n].present then s.ctl.causes[11]
          else ⟨true, (senderOf n).val, false⟩)) ∧
  ∀ (t : Nat) (a : Fin 16) (s : State) (h : Ms), s.link.peers[a].present = true →
    s.link.peers[a].lastHeard = some h → (s.elapse t).reached (h + 180000) = true →
    ∃ s', exec (.peerAgingExpiry t a) s = .next s' ∧ onlyChanges [.link, .ctl] s s' ∧
      s'.link = { s.link with
        peers := s.link.peers.set a { s.link.peers[a] with present := false } } ∧
      s'.ctl.causes[11] = ⟨true, a.val, false⟩

/-- In RUN a received VERDICT is matched by its mark age to the context whose edge lies nearest the
estimate, within 3 ms, the earlier of two equals; its entry is taken unless one from the address
stands. With no candidate it is counted as unmatched (R115, R116). -/
def Obligations.VerdictIsMatchedByAge : Prop :=
  ∀ (t t0 : Nat) (s : State) (addr : Fin 16) (level : Fin 4) (v : VerdictKind) (k : Fin 3)
    (o : Origin) (age dU dI : BitVec 16), s.link.rx = .trailing → s.link.rxFault = none →
    s.link.idleFrom = some t0 →
    t0 + 1600 ≤ max s.time t →
    decodeNotice s.link.rxBytes = some (.verdict addr level v k o age dU dI) →
    s.link.rxOwn = false → addr ≠ s.ctl.straps.addr →
    let estimate := s.link.rxLeader - age.setWidth 48
    let distance (c : Context) := clockDistance c.edge estimate
    let entry : PeerVerdict := ⟨addr, level, v, k, dU.toInt, dI.toInt, o⟩
    ∃ s', exec (.frameComplete t) s = .next s' ∧
      (s.link.view ≠ .run → s'.corr = s.corr ∧
        s'.link.peers[addr].unmatched = s.link.peers[addr].unmatched) ∧
      (s.link.view = .run →
        (∀ (j : Fin 4) (c : Context), s.corr.slots[j] = some c → 3 < distance c) →
        s'.corr = s.corr ∧
        s'.link.peers[addr].unmatched = min (s.link.peers[addr].unmatched + 1) 255) ∧
      (∀ (j : Fin 4) (c : Context), s.link.view = .run → s.corr.slots[j] = some c →
        distance c ≤ 3 →
        (∀ (i : Fin 4) (d : Context), i ≠ j → s.corr.slots[i] = some d →
          distance c < distance d ∨
            (distance c = distance d ∧ isBefore c.edge d.edge = true)) →
        s'.corr.slots[j] = some (if ∃ p ∈ c.peers, p.addr = addr then c
          else { c with peers := c.peers ++ [entry] }) ∧
        (∀ i : Fin 4, i ≠ j → s'.corr.slots[i] = s.corr.slots[i]) ∧
        s'.link.peers[addr].unmatched = s.link.peers[addr].unmatched)

/-- The frames of PRESENT and VERDICT, byte by byte, with the check byte that makes the sum of all
bytes 0 modulo 256 (R101, R102). Bytes are a valid frame of a notice exactly where they are the
frame that a station sends for it (R101, R102, R112). The bytes of a well-formed request are its
code and its operands as the table of R170 has them; they form that request again, and bytes that
form one are its bytes (R170, R171). -/
def Obligations.FramesDecodeAndEncodeAgree : Prop :=
  (∀ n : Notice, ∃ check : Byte,
    encodeNotice n = (match n with
      | .present addr level wiring freq =>
        u8 0x5C ++ u8 (9 * 16 + addr.val) ++
        u8 (level.val * 64 + (match wiring with
          | .star => 0
          | .delta => 32) + (match freq with
          | .hz50 => 0
          | .hz60 => 16))
      | .verdict addr level v k origin age dU dI =>
        u8 0x5C ++ u8 (6 * 16 + addr.val) ++
        u8 (level.val * 64 + (match v with
          | .upstream => 0
          | .downstream => 16
          | .indeterminate => 32) + (k.val + 1) * 4 + (match origin with
          | .triggered => 0
          | .sympathetic => 2)) ++
        u16 age.toNat ++ i16 dU.toInt ++ i16 dI.toInt) ++ [check] ∧
    ((encodeNotice n).map BitVec.toNat).sum % 256 = 0 ∧
    (encodeNotice n).length = (match n with
      | .present _ _ _ _ => 4
      | .verdict _ _ _ _ _ _ _ _ => 10)) ∧
  (∀ (bs : List Byte) (n : Notice), decodeNotice bs = some n ↔ bs = encodeNotice n) ∧
  (∀ r : Request, r ≠ .malformed → encodeRequest r = match r with
    | .status => u8 0x01
    | .live q => u8 0x02 ++ u8 q.toNat
    | .reference => u8 0x03
    | .head => u8 0x04
    | .release id => u8 0x05 ++ u16 id.toNat
    | .wave id q h => u8 0x06 ++ u16 id.toNat ++ u8 q.toNat ++ u8 h.toNat
    | .interval seq => u8 0x07 ++ u32 seq.toNat
    | .tally => u8 0x08
    | .causes => u8 0x09
    | .peers => u8 0x0A
    | .set item v => u8 0x0B ++ u8 item.toNat ++ u32 v.toNat
    | .get item => u8 0x0C ++ u8 item.toNat
    | .start => u8 0x10
    | .restart => u8 0x11
    | .linkReset => u8 0x12
    | .malformed => []) ∧
  ∀ (bs : List Byte) (r : Request), r ≠ .malformed → (decodeRequest bs = r ↔ bs = encodeRequest r)

/-! The correlation unit. -/

/-- CORRELATION_TAKES_REFRESH: a context whose reference refresh lies two before the one taken, and
which has no own verdict, gets it: the k with the greatest movement, and the verdict by the table
(R127 to R130). Every other context stays as it was (R127). With room in the queue the VERDICTs of
the due contexts are placed at its tail (R104, R131), the oldest mark first where two are due, the
model's choice (log entry 14); and an unupgraded SYMPATHETIC record linked to the one due context is
rewritten from the entries n, n + 1 and n + 2 (R131; that its CLIPPED and FREE_RUN may be cleared
so: log entry 25). -/
def Obligations.OwnVerdictIsComputed : Prop :=
  ∀ (t : Nat) (e : Refresh) (rest : List Refresh) (s : State), s.corr.handed = e :: rest →
    ∃ s', exec (.correlationTakesRefresh t) s = .next s' ∧
      onlyChanges [.link, .corr, .store] s s' ∧ s'.corr.handed = rest ∧
      (∀ (k : Fin 4) (c : Context) (o : OwnVerdict), s.corr.slots[k] = some c → c.own = some o →
        ∃ c', s'.corr.slots[k] = some c' ∧ c'.own = some o) ∧
      let due (k : Fin 4) : Prop :=
        ∃ c, s.corr.slots[k] = some c ∧ c.own = none ∧ c.ref = e.index - 2
      (s.edgesDiffer → ∀ k : Fin 4, ¬due k → s'.corr.slots[k] = s.corr.slots[k]) ∧
      (s.dueContexts e.index).Nodup ∧ (∀ k : Fin 4, k ∈ s.dueContexts e.index ↔ due k) ∧
      (∀ (j k : Fin 4) (c d : Context), j ≠ k → due j → due k → (∀ i, due i → i = j ∨ i = k) →
        s.corr.slots[j] = some c → s.corr.slots[k] = some d → isBefore c.edge d.edge = true →
        isBefore d.edge c.edge = false → s.dueContexts e.index = [j, k]) ∧
      (s.link.view = .run → s.link.queue.length + (s.dueContexts e.index).length ≤ 8 →
        ∃ handed : List QueuedVerdict, handed.length = (s.dueContexts e.index).length ∧
          s'.link.queue = s.link.queue ++ handed.map QueuedFrame.verdict ∧
          ∀ (i : Nat) (k : Fin 4) (c c' : Context) (o : OwnVerdict),
            (s.dueContexts e.index)[i]? = some k → s.corr.slots[k] = some c →
            s'.corr.slots[k] = some c' → c'.own = some o →
            handed[i]? = some ⟨s.ctl.straps.level, o.verdict, o.k, o.origin, o.dU, o.dI, c.edge,
              c.linked, false⟩) ∧
      ∀ (k : Fin 4) (c : Context), s.corr.slots[k] = some c → c.own = none →
        c.ref = e.index - 2 →
        ∃ c' o, s'.corr.slots[k] = some c' ∧ c'.own = some o ∧ c'.peers = c.peers ∧
          c'.linked = c.linked ∧ o.origin = (if c.anchored then .triggered else .sympathetic) ∧
          (c.pre = none → o.verdict = .indeterminate ∧ o.k = 0 ∧ o.dU = 0 ∧ o.dI = 0 ∧
            o.preDisturbed = false) ∧
          (∀ p, c.pre = some p →
            let dU (j : Fin 3) : Int := (e.value[dIndex j] : Int) - (p.d[j] : Int)
            let dI (j : Fin 3) : Int := (e.value[iIndex j] : Int) - (p.i[j] : Int)
            o.dU = dU o.k ∧ o.dI = dI o.k ∧
            (∀ j : Fin 3, (dU j).natAbs ≤ o.dU.natAbs) ∧
            (∀ j : Fin 3, j < o.k → (dU j).natAbs < o.dU.natAbs) ∧
            o.preDisturbed = decide (p.det ≠ .watch) ∧
            o.verdict =
              if p.det ≠ .watch ∨ o.dU.natAbs < s.uDeadband then .indeterminate
              else if o.dI.natAbs < s.iDeadband then .upstream
              else if (0 < o.dU ∧ o.dI < 0) ∨ (o.dU < 0 ∧ 0 < o.dI) then .downstream
              else .upstream) ∧
          ∀ e1 e2 r, s.dueContexts e.index = [k] → c.linked ≠ 0 → r ∈ s.store.queue →
            r.id = c.linked → s.entry (e.index - 2) = some e1 → s.entry (e.index - 1) = some e2 →
            let v (x : Refresh) (j : Fin 3) : Nat := x.value[dIndex j]
            let clips (x : Refresh) : Prop := ∃ q : Fin 11, x.clip[q] = true
            ∃ r' ∈ s'.store.queue, r'.id = r.id ∧ r'.isOpen = r.isOpen ∧ r'.wave = r.wave ∧
              (r.cls = .sympathetic → r.flags.upgraded = false →
                (∀ j : Fin 3, r'.measure.dmin[j] = min (min (v e1 j) (v e2 j)) (v e j) ∧
                  r'.measure.dmax[j] = max (max (v e1 j) (v e2 j)) (v e j) ∧
                  r'.measure.residual ≤ r'.measure.dmin[j] ∧
                  r'.measure.dmax[j] ≤ r'.measure.maximum) ∧
                (∃ j : Fin 3, r'.measure.residual = r'.measure.dmin[j]) ∧
                (∃ j : Fin 3, r'.measure.maximum = r'.measure.dmax[j]) ∧
                (r'.flags.clipped = true ↔ clips e1 ∨ clips e2 ∨ clips e) ∧
                (r'.flags.freeRun = true ↔
                  e1.freeRun = true ∨ e2.freeRun = true ∨ e.freeRun = true)) ∧
              (¬(r.cls = .sympathetic ∧ r.flags.upgraded = false) → r'.measure = r.measure ∧
                r'.flags.clipped = r.flags.clipped ∧ r'.flags.freeRun = r.flags.freeRun)

/-- CONTEXT_CLOSE at the end of the collection window: the slot is CLOSED, and the linked record
gets the verdict block, the locus block, the peer verdict list and UNSENT, and its anchor is no
longer open. The locus block holds the locus of the context's reporters, their number, and that of
the silent peers, PRESENT without a verdict for it (R134, R136). A queued VERDICT of the context
leaves the queue, and one being sent is marked withdrawn and stays (R105, R134 step 1). An OPEN
record closes, with RECORD_CLOSED, unless its event runs or its slot is filling (R149). -/
def Obligations.ContextCloses : Prop :=
  ∀ (t : Nat) (k : Fin 4) (s : State) (c : Context), s.corr.slots[k] = some c →
    (s.elapse t).reached c.close = true →
    ∃ s', exec (.contextClose t k) s = .next s' ∧ s'.corr.slots[k] = none ∧
      (∀ j : Fin 4, j ≠ k → s'.corr.slots[j].isSome = s.corr.slots[j].isSome) ∧
      (s.link.queue.countP (QueuedFrame.isVerdictOf c.edge) ≤ 1 →
        ∀ f ∈ s'.link.queue, f.isVerdictOf c.edge = true → f.isWithdrawn = true) ∧
      ((∀ v, QueuedFrame.verdict v ∈ s.link.queue → v.edge ≠ c.edge) → s'.link = s.link) ∧
      (∀ (i : Nat) (v : QueuedVerdict), s.link.queue[i]? = some (.verdict v) → v.edge = c.edge →
        (∀ j w, j < i → s.link.queue[j]? = some (.verdict w) → w.edge ≠ c.edge) →
        s'.link.rx = s.link.rx ∧ s'.link.peers = s.link.peers ∧
        (i = 0 → s.link.tx = .sending → s'.link.tx = .sending ∧
          s'.link.attempts = s.link.attempts ∧
          s'.link.queue = s.link.queue.set 0 (.verdict { v with withdrawn := true })) ∧
        (¬(i = 0 ∧ s.link.tx = .sending) → s'.link.queue = s.link.queue.eraseIdx i ∧
          (i ≠ 0 → s'.link.tx = s.link.tx ∧ s'.link.attempts = s.link.attempts) ∧
          (i = 0 → s'.link.attempts = 0 ∧ s'.link.tx =
            if 1 < s.link.queue.length ∧ s.link.view = .run then .waiting else .idle))) ∧
      (c.linked ≠ 0 → ∀ r ∈ s.store.queue, r.id = c.linked →
        ∃ r' ∈ s'.store.queue, r'.id = c.linked ∧ r'.anchorOpen = false ∧ r'.peers = c.peers ∧
          r'.running = r.running ∧
          (∃ l, r'.locus = some l ∧
            (l.kind, l.level, l.addr, l.ambiguous) = locusOf (reporters s.ctl.straps c) ∧
            l.reporters = (if c.own = none then 0 else 1) + c.peers.length ∧
            l.silent = (List.finRange 16).countP fun a =>
              s.link.peers[a].present && c.peers.all fun p => p.addr != a) ∧
          (r'.flags.unsent = true ↔ r.flags.unsent = true ∨ c.unsent = true ∨
            ∃ v, s.link.queue.find? (QueuedFrame.isVerdictOf c.edge) = some (.verdict v) ∧
              v.withdrawn = false) ∧
          (∀ o, c.own = some o → r'.verdict = some ⟨o.verdict, o.k, o.dU, o.dI⟩ ∧
            r'.flags.preDisturbed = o.preDisturbed) ∧
          (c.own = none → r'.verdict = r.verdict) ∧
          (s.idsInOrder → s.withinCapacity →
            (r'.isOpen = true ↔
              r.isOpen = true ∧ (r.running = true ∨ s.slotFilling r = true)) ∧
            (r.isOpen = true → r'.isOpen = false → s'.ctl.causes[8] = ⟨true, 0, false⟩)))

/-- The reporters of a context are the station, where it holds its own verdict, and the senders of
the peer verdict list. The locus by its table: BELOW with the greatest DOWNSTREAM level, the lowest
address there, and AMBIGUOUS for more than one; ABOVE with the least level of all reporters, the
lowest address there; UNKNOWN otherwise (R135). -/
def Obligations.LocusFollowsItsTable : Prop :=
  ∀ rs : List Reporter, let l := locusOf rs
    ((∃ r ∈ rs, r.verdict = .downstream) →
      l.1 = .below ∧
      (∃ r ∈ rs, r.verdict = .downstream ∧ r.level = l.2.1 ∧ r.addr = l.2.2.1) ∧
      (∀ r ∈ rs, r.verdict = .downstream → r.level ≤ l.2.1 ∧
        (r.level = l.2.1 → l.2.2.1 ≤ r.addr)) ∧
      (l.2.2.2 = true ↔
        2 ≤ rs.countP fun r => r.verdict == .downstream && r.level == l.2.1)) ∧
    ((∀ r ∈ rs, r.verdict ≠ .downstream) → (∃ r ∈ rs, r.verdict = .upstream) →
      l.1 = .above ∧ (∃ r ∈ rs, r.level = l.2.1 ∧ r.addr = l.2.2.1) ∧
      (∀ r ∈ rs, l.2.1 ≤ r.level ∧ (r.level = l.2.1 → l.2.2.1 ≤ r.addr)) ∧ l.2.2.2 = false) ∧
    ((∀ r ∈ rs, r.verdict = .indeterminate) → l = (.unknown, 0, 0, false)) ∧
    ∀ (straps : Straps) (c : Context) (r : Reporter), r ∈ reporters straps c ↔
      (∃ o, c.own = some o ∧ r = ⟨o.verdict, straps.level.val, straps.addr.val⟩) ∨
      ∃ p ∈ c.peers, r = ⟨p.verdict, p.level.val, p.addr.val⟩

/-! The interval aggregator. -/

/-- AGGREGATOR_TAKES_REFRESH: in RUN with an interval open the refresh enters its sums, extremes,
count and seen flags; otherwise it changes nothing (R160). -/
def Obligations.AggregatorTakesTheRefresh : Prop :=
  ∀ (t : Nat) (e : Refresh) (rest : List Refresh) (s : State), s.agg.handed = e :: rest →
    ∃ s', exec (.aggregatorTakesRefresh t) s = .next s' ∧ onlyChanges [.agg] s s' ∧
      s'.agg.handed = rest ∧ s'.agg.ring = s.agg.ring ∧ s'.agg.nextSeq = s.agg.nextSeq ∧
      (s.ctl.state ≠ .run ∨ s.agg.cur = none → s'.agg.cur = s.agg.cur) ∧
      (∀ i : Interval, s.ctl.state = .run → s.agg.cur = some i →
        ∃ a : Accumulators, s'.agg.cur = some { i with acc := a } ∧
          (∀ k : Fin 3, a.sums[k.val] = i.acc.sums[k.val] + e.value[dIndex k] ^ 2) ∧
          a.sums[3] = i.acc.sums[3] + e.value[3] ^ 2 ∧
          (∀ k : Fin 4, a.sums[4 + k.val] = i.acc.sums[4 + k.val] + e.value[4 + k.val] ^ 2) ∧
          (∀ k : Fin 3, a.dmin[k.val] = some ((i.acc.dmin[k.val]).elim e.value[dIndex k]
              (min · e.value[dIndex k])) ∧
            a.dmax[k.val] = some ((i.acc.dmax[k.val]).elim e.value[dIndex k]
              (max · e.value[dIndex k]))) ∧
          a.dmin[3] = some ((i.acc.dmin[3]).elim e.value[3] (min · e.value[3])) ∧
          a.dmax[3] = some ((i.acc.dmax[3]).elim e.value[3] (max · e.value[3])) ∧
          a.count = i.acc.count + 1 ∧ a.freqSum = i.acc.freqSum ∧ a.locked = i.acc.locked ∧
          (a.flagged = true ↔ i.acc.flagged = true ∨ e.det ≠ .watch) ∧
          (a.freeRun = true ↔ i.acc.freeRun = true ∨ e.freeRun = true) ∧
          (a.clip = true ↔ i.acc.clip = true ∨ ∃ q : Fin 11, e.clip[q] = true))

/-- INTERVAL_BOUNDARY writes the entry of the interval that ends, numbered in order, into a ring of
at most 144, raises INTERVAL_DONE and begins the next interval at the boundary (R158, R162 to
R164). -/
def Obligations.BoundaryWritesTheInterval : Prop :=
  ∀ (t : Nat) (i : Interval) (s : State), s.agg.cur = some i →
    (s.elapse t).reached i.boundary = true → s.agg.ring.length ≤ 144 →
    ∃ s' next, exec (.intervalBoundary t) s = .next s' ∧ onlyChanges [.agg, .ctl] s s' ∧
      let length := min (600 - i.start.sec % 600) (4294967296 - i.start.sec)
      intervalWritten s s' i length (i.atStart || decide (length < 600)) ∧
      s'.agg.cur = some next ∧ next.acc = accClear ∧ next.atStart = false ∧
      next.start = ⟨(i.start.sec + length) % 4294967296, 0⟩ ∧
      next.elapsed = i.elapsed + BitVec.ofNat 48 (1000 * length) ∧
      next.boundary = s.store.startTime + next.elapsed +
        BitVec.ofNat 48 (1000 * min (600 - next.start.sec % 600) (4294967296 - next.start.sec))

/-! The record port. -/

/-- The select periods. REQUEST_BEGIN: PDOUT has carried 0xFF, the buffer is emptied, RDY deasserted
and the requests before it superseded; REQUEST_TAKEN places the request its bytes form;
IGNORED_PERIOD_END returns to NONE (R169, R171). A read frame of `count` bytes: PDOUT carries 0xFF
first, then the response from its status byte, then 0xFF; a complete read empties the buffer and
deasserts RDY, a short one leaves both; with an empty buffer every byte is 0xFF (R169, R173). That a
read frame is one command, and what is kept of PDOUT and of the read position after it, is the
model's choice (log entry 17). -/
def Obligations.SelectPeriodsCarryFrames : Prop :=
  (∀ (t : Nat) (code : Byte) (s : State), s.port.frame = .none → code ≠ 0 →
    exec (.requestBegin t code) s = .next ((s.elapse t).withPort { s.port with
      frame := .request code, buffer := none, rdy := false, readPos := 0, pdout := [0xFF]
      superseded := if s.port.inService = none then s.port.superseded else true
      pendingReq := s.port.pendingReq.map fun r => (r.1, true) })) ∧
  (∀ (t : Nat) (bytes : List Byte) (code : Byte) (s : State), s.port.frame = .request code →
    (s.port.inService = none → exec (.requestTaken t bytes) s =
      .next ((s.elapse t).withPort { s.port with
        frame := .none, inService := some (decodeRequest (code :: bytes)), superseded := false })) ∧
    (s.port.inService ≠ none → exec (.requestTaken t bytes) s =
      .next ((s.elapse t).withPort { s.port with
        frame := .none, pendingReq := some (decodeRequest (code :: bytes), false) }))) ∧
  (∀ (t : Nat) (s : State), s.port.frame = .ignored →
    exec (.ignoredPeriodEnd t) s = .next ((s.elapse t).withPort { s.port with frame := .none })) ∧
  ∀ (t count : Nat) (s : State), s.port.frame = .none → 0 < count →
    ∃ s', exec (.readFrame t count) s = .next s' ∧ onlyChanges [.port] s s' ∧
      s'.port.pdout.length = count ∧ s'.port.pdout[0]? = some 0xFF ∧
      (∀ i, i < count - 1 →
        s'.port.pdout[i + 1]? = some ((s.port.buffer.getD []).getD i 0xFF)) ∧
      (s.port.buffer = none → s'.port.buffer = none ∧ s'.port.rdy = s.port.rdy) ∧
      (∀ resp, s.port.buffer = some resp →
        s'.port.readPos = min (count - 1) resp.length ∧
        (resp.length ≤ count - 1 → s'.port.buffer = none ∧ s'.port.rdy = false) ∧
        (count - 1 < resp.length → s'.port.buffer = some resp ∧ s'.port.rdy = s.port.rdy)) ∧
      s'.port.inService = s.port.inService ∧ s'.port.pendingReq = s.port.pendingReq ∧
      s'.port.frame = .none

/-- Serving: the response, status, length and payload, is placed in the buffer with RDY asserted,
unless the request is superseded; the pending request, if any, enters service with its mark
(R172, R174). The status codes have the values of R175. -/
def Obligations.ServingOffersTheResponse : Prop :=
  (∀ st : Status, statusByte st = match st with
    | .done => 0x01
    | .empty => 0x02
    | .notReady => 0x03
    | .notPresent => 0x04
    | .notHead => 0x05
    | .locked => 0x06
    | .clamped => 0x07
    | .conflict => 0x08
    | .unknown => 0x09
    | .halted => 0x0A) ∧
  ∀ (s : State) (st : Status) (payload : List Byte),
    let s' := s.answer st payload
    onlyChanges [.port] s s' ∧ s'.port.frame = s.port.frame ∧
    (s.port.superseded = false → s'.port.rdy = true ∧
      s'.port.buffer = some (statusByte st :: BitVec.ofNat 8 (payload.length / 256) ::
        BitVec.ofNat 8 payload.length :: payload)) ∧
    (s.port.superseded = true → s'.port.rdy = s.port.rdy ∧ s'.port.buffer = s.port.buffer) ∧
    (s.port.pendingReq = none → s'.port.inService = none ∧ s'.port.pendingReq = none) ∧
    (∀ r mark, s.port.pendingReq = some (r, mark) →
      s'.port.inService = some r ∧ s'.port.superseded = mark ∧ s'.port.pendingReq = none)

/-- The requests that only read: STATUS, LIVE, REFERENCE, INTERVAL, PEERS and GET are answered with
their payloads, of the lengths of R170, or with their refusals, and a malformed request with
UNKNOWN; nothing but the port changes (R28, R43, R165, R171, R176, R181). -/
def Obligations.ReadingRequestsAreAnswered : Prop :=
  (∀ (t : Nat) (s : State), s.port.inService = some .malformed →
    exec (.malformedRequest t) s = .next ((s.elapse t).answer .unknown [])) ∧
  (∀ (t : Nat) (s : State), s.port.inService = some .status →
    exec (.status t) s = .next ((s.elapse t).answer .done (s.elapse t).statusPayload) ∧
    (s.elapse t).statusPayload.length = 24) ∧
  (∀ (t : Nat) (s : State) (q : Byte), s.port.inService = some (.live q) →
    (∀ h : q.toNat < 11, exec (.live t) s =
        .next ((s.elapse t).answer .done (s.livePayload ⟨q.toNat, h⟩)) ∧
      (s.livePayload ⟨q.toNat, h⟩).length = 22) ∧
    (10 < q.toNat → exec (.live t) s = .next ((s.elapse t).answer .notPresent []))) ∧
  (∀ (t : Nat) (s : State), s.port.inService = some .reference →
    ∃ payload, exec (.reference t) s = .next ((s.elapse t).answer .done payload) ∧
      payload.length = 42 ∧
      ∀ k : Fin 3, (payload.drop (14 * k.val)).take 14 =
        [s.ref.d[k].following.ref, s.ref.d[k].following.dipStart, s.ref.d[k].following.dipEnd,
          s.ref.d[k].following.swellStart, s.ref.d[k].following.swellEnd,
          s.ref.d[k].following.intStart, s.ref.d[k].following.intEnd].flatMap fun x =>
            [BitVec.ofNat 8 (x / 256), BitVec.ofNat 8 x]) ∧
  (∀ (t : Nat) (s : State) (seq : BitVec 32), s.port.inService = some (.interval seq) →
    ((∀ e ∈ s.agg.ring, e.seq ≠ seq.toNat) →
      exec (.interval t) s = .next ((s.elapse t).answer .notPresent [])) ∧
    (∀ e ∈ s.agg.ring, e.seq = seq.toNat → (∀ e' ∈ s.agg.ring, e'.seq = seq.toNat → e' = e) →
      exec (.interval t) s = .next ((s.elapse t).answer .done e.payload) ∧
      e.payload.length = 53)) ∧
  (∀ (t : Nat) (s : State), s.port.inService = some .peers →
    exec (.peers t) s = .next ((s.elapse t).answer .done s.peersPayload) ∧
    s.peersPayload.length = 176) ∧
  ∀ (t : Nat) (s : State) (item : Byte), s.port.inService = some (.get item) →
    (∀ h : item.toNat < 30, exec (.get t) s =
      .next ((s.elapse t).answer .done (bigEndian 4 (s.item ⟨item.toNat, h⟩ % 4294967296).toNat))) ∧
    (29 < item.toNat → exec (.get t) s = .next ((s.elapse t).answer .unknown []))

/-- The contents of the responses to STATUS, LIVE, INTERVAL, PEERS, TALLY and CAUSES, field by field
in the order and the widths that R176 gives them; LIVE with an empty history, a peer's UNKNOWN
fields and a tally set of count 0 as R28, R175 and R176 have them. Station time converts with the
time base as the last START froze it, before the first one as it is configured (R146, R176; held as
state: DEDUCED, log entry 27); bits that R176 gives no value are 0, and a clip flag
is 1 or 0, the model's choice (log entry 29). -/
def Obligations.PayloadsAreLaidOut : Prop :=
  (∀ s : State, s.statusPayload =
    u8 (match s.ctl.state with
      | .config => 0
      | .run => 1
      | .halted => 2) ++
    u8 s.ctl.straps.addr.val ++ u8 s.ctl.straps.level.val ++
    u8 (if s.ctl.straps.freq = .hz60 then 1 else 0) ++
    u8 (if s.ctl.straps.wiring = .delta then 1 else 0) ++ u8 s.store.queue.length ++
    u16 (s.store.queue.head?.elim 0 Record.id) ++
    u8 (match s.store.queue with
      | [] => 1
      | r :: _ => if r.isOpen then 0 else 1) ++
    u8 ((List.finRange 8).countP fun k => s.cap.slots[k].state == .free) ++
    u8 (if s.cap.on then 0 else 1) ++
    u8 ((List.finRange 4).countP fun k => s.corr.slots[k].isSome) ++
    u8 (if s.cfe.trk.state = .locked then 0 else 1) ++ u32 s.cfe.trk.freq ++
    u8 ((List.finRange 16).countP fun a => s.link.peers[a].present) ++
    (let ms := if atOrAfter s.now s.store.startTime then (s.now - s.store.startTime).toNat else 0
     let base := match s.store.frozenBase with
       | some b => b
       | none => s.timeBase
     u32 (base + ms / 1000) ++ u16 (ms % 1000))) ∧
  (∀ (s : State) (q : Fin 11), s.livePayload q =
    (match s.rms.history with
      | [] => u8 0 ++ u48 0 ++ u48 0 ++ u16 0
      | e :: _ => u8 1 ++ u48 e.index.toNat ++ u48 e.stamp.toNat ++ u16 e.value[q]) ++
    (if h : q.val < 8 then
      i32 s.cfe.ch[q.val].lastRaw ++ i16 s.cfe.ch[q.val].lastScaled ++
        u8 (bit s.cfe.ch[q.val].clip 1)
    else
      let d := s.cfe.dq[q.val - 8]'(by have := q.isLt; omega)
      i32 d.lastRaw ++ i16 d.lastScaled ++ u8 (bit d.clip 1))) ∧
  (∀ e : IntervalEntry, e.payload =
    u32 e.seq ++ u32 e.start.sec ++ u16 e.start.ms ++ u16 e.length ++ u32 e.count ++
    u16 e.rms[0] ++ u16 e.dmin[0] ++ u16 e.dmax[0] ++ u16 e.rms[1] ++ u16 e.dmin[1] ++
    u16 e.dmax[1] ++ u16 e.rms[2] ++ u16 e.dmin[2] ++ u16 e.dmax[2] ++ u16 e.rms[3] ++
    u16 e.dmin[3] ++ u16 e.dmax[3] ++ u16 e.rms[4] ++ u16 e.rms[5] ++ u16 e.rms[6] ++
    u16 e.rms[7] ++ u32 e.meanFreq ++
    u8 (bit e.isPartial 1 + bit e.flagged 2 + bit e.freeRun 4 + bit e.clipped 8)) ∧
  (∀ s : State, s.peersPayload = (List.finRange 16).flatMap fun a =>
    let p := s.link.peers[a]
    u8 (bit p.present 1 + bit p.lastHeard.isSome 2) ++
    u8 (p.level.elim 255 Fin.val) ++
    u8 (match p.wiring with
      | none => 255
      | some .star => 0
      | some .delta => 1) ++
    u8 (match p.freq with
      | none => 255
      | some .hz50 => 0
      | some .hz60 => 1) ++
    u48 (p.lastHeard.elim 0 BitVec.toNat) ++ u8 p.unmatched) ∧
  (∀ s : State, s.tallyPayload = (List.finRange 5).flatMap fun c =>
    let x := s.store.tally[c]
    if x.count = 0 then u16 0 ++ u16 0 ++ u16 0 ++ u32 0
    else u16 x.count ++ u16 (x.residual.getD 0) ++ u16 (x.maximum.getD 0) ++
      u32 (x.duration.getD 0)) ∧
  ∀ causes : Vector CauseEntry 13, causesPayload causes =
    u16 ((List.finRange 13).map fun b => bit causes[b].isSet (2 ^ b.val)).sum ++
    (List.finRange 13).flatMap fun b => u8 (bit causes[b].ext 128 + causes[b].num % 16)

/-- A record as HEAD returns it, field by field in the order and the widths that R178 gives them:
the absent blocks and the absent waveform part as zeros, the filled count read from the slot now,
the continuation link of a CONTINUATION alone, and the peer verdict entries in their order. -/
def Obligations.RecordIsLaidOut : Prop :=
  ∀ (s : State) (r : Record),
    let verdict (v : VerdictKind) : List Byte := u8 (match v with
      | .upstream => 0
      | .downstream => 1
      | .indeterminate => 2)
    let f := r.flags
    let m := r.measure
    s.recordBytes r =
      u16 r.id ++
      u8 (match r.cls with
        | .dip => 0
        | .swell => 1
        | .interruption => 2
        | .sympathetic => 3
        | .continuation => 4) ++
      u8 (bit r.verdict.isSome 1 + bit r.locus.isSome 2 +
        (match r.wave with
          | .present _ _ => 4
          | .absent _ => 0) +
        (if r.cls = .continuation then 8 else 0)) ++
      u16 (bit f.mixed 1 + bit f.ongoing 2 + bit f.upgraded 4 + bit f.clipped 8 + bit f.freeRun 16 +
        bit f.preDisturbed 32 + bit f.unsent 64 + bit f.aborted 128 + bit f.unanchored 256 +
        bit f.waveLost 512) ++
      u32 r.time.sec ++ u16 r.time.ms ++ u32 r.durationMs ++ u32 r.halfCycles ++
      u16 m.dmin[0] ++ u16 m.dmax[0] ++ u16 m.dmin[1] ++ u16 m.dmax[1] ++ u16 m.dmin[2] ++
      u16 m.dmax[2] ++ u16 m.residual ++ u16 m.maximum ++ u16 r.onset ++
      (match r.verdict with
        | none => List.replicate 6 0
        | some v => verdict v.verdict ++ u8 (v.k.val + 1) ++ i16 v.dU ++ i16 v.dI) ++
      (match r.locus with
        | none => List.replicate 6 0
        | some l =>
          u8 (match l.kind with
            | .above => 0
            | .below => 1
            | .unknown => 2) ++
          u8 l.level ++ u8 l.addr ++ u8 (bit l.ambiguous 1) ++ u8 l.reporters ++ u8 l.silent) ++
      (match r.wave with
        | .present k offset => u8 k.val ++ u8 offset ++ u8 s.cap.slots[k].filled ++ u8 0
        | .absent why => u8 0 ++ u8 0 ++ u8 0 ++ u8 (match why with
          | .noSlot => 1
          | .waveBusy => 2
          | .captureOff => 3
          | .waveLost => 4)) ++
      u16 (if r.cls = .continuation then r.link else 0) ++ u8 r.peers.length ++
      r.peers.flatMap fun p => u8 p.addr.val ++ u8 p.level.val ++ verdict p.verdict ++
        u8 (p.k.val + 1) ++
        u8 (match p.origin with
          | .triggered => 0
          | .sympathetic => 1) ++
        i16 p.dU ++ i16 p.dI

/-- HEAD answers EMPTY, NOT_READY or the head record, and changes nothing in the store. RELEASE
removes the CLOSED head it names, with its hold, or answers NOT_READY, NOT_HEAD or NOT_PRESENT
(R77, R152, R153, R178). -/
def Obligations.HeadIsReadAndReleased : Prop :=
  (∀ (t : Nat) (s : State), s.port.inService = some .head →
    (s.store.queue = [] → exec (.head t) s = .next ((s.elapse t).answer .empty [])) ∧
    ∀ r rest, s.store.queue = r :: rest →
      (r.isOpen = true → exec (.head t) s = .next ((s.elapse t).answer .notReady [])) ∧
      (r.isOpen = false → exec (.head t) s = .next ((s.elapse t).answer .done (s.recordBytes r)) ∧
        (s.recordBytes r).length = 57 + 9 * r.peers.length)) ∧
  ∀ (t : Nat) (s : State) (id : BitVec 16), s.port.inService = some (.release id) →
    ((∀ r ∈ s.store.queue, r.id ≠ id.toNat) →
      exec (.release t) s = .next ((s.elapse t).answer .notPresent [])) ∧
    ∀ r rest, s.store.queue = r :: rest →
      (r.id ≠ id.toNat → (∃ x ∈ rest, x.id = id.toNat) →
        exec (.release t) s = .next ((s.elapse t).answer .notHead [])) ∧
      (r.id = id.toNat → r.isOpen = true →
        exec (.release t) s = .next ((s.elapse t).answer .notReady [])) ∧
      (r.id = id.toNat → r.isOpen = false →
        ∃ s1 : State, exec (.release t) s = .next (s1.answer .done []) ∧
          onlyChanges [.cap, .store] s s1 ∧
          s1.store = { s.store with queue := rest } ∧
          (∀ why, r.wave = .absent why → s1.cap = s.cap) ∧
          ∀ k offset, r.wave = .present k offset →
            (∀ j : Fin 8, j ≠ k → s1.cap.slots[j] = s.cap.slots[j]) ∧
            s1.cap.slots[k].holders = s.cap.slots[k].holders - 1 ∧
            s1.cap.slots[k].contents = s.cap.slots[k].contents ∧
            s1.cap.slots[k].state =
              if s.cap.slots[k].state = .held ∧ s.cap.slots[k].holders ≤ 1 then .free
              else s.cap.slots[k].state)

/-- WAVE returns the 64 samples of a copied position in 128 bytes; NOT_PRESENT where the record or
its waveform is not held, q or h is out of range or the position is not yet copied; a read that
fails its check is NOT_PRESENT too, and then a memory check error in the slot, a double capture
fault where a scrub is in progress (R78, R79, R81, R82, R83, R177). That a slot in SCRUBBING keeps
its contents, its scrub running or abandoned, is the model's choice (DESIGN CHOICE, log entry
28). -/
def Obligations.WaveReadsTheSlot : Prop :=
  ∀ (t : Nat) (fails : Bool) (s : State) (id : BitVec 16) (q h : Byte),
    s.port.inService = some (.wave id q h) →
    ((s.recordOf id.toNat = none ∨ 10 < q.toNat ∨ 39 < h.toNat ∨
        (∃ r why, s.recordOf id.toNat = some r ∧ r.wave = .absent why) ∨
        (∃ r k offset, s.recordOf id.toNat = some r ∧ r.wave = .present k offset ∧
          s.cap.slots[k].filled ≤ h.toNat)) →
      exec (.wave t fails) s = .next ((s.elapse t).answer .notPresent [])) ∧
    ∀ r k offset (hq : q.toNat < 11) (hh : h.toNat < 40), s.recordOf id.toNat = some r →
      r.wave = .present k offset → h.toNat < s.cap.slots[k].filled →
      (fails = false → exec (.wave t fails) s = .next ((s.elapse t).answer .done
        ((List.finRange 64).flatMap fun i =>
          bigEndian 2 ((s.cap.slots[k].contents[h.toNat][q.toNat][i] : Int) % 65536).toNat))) ∧
      (fails = true →
        ∃ s1 : State, exec (.wave t fails) s = .next (s1.answer .notPresent []) ∧
          onlyChanges [.cap, .store, .ctl] s s1 ∧ errsInto (s.elapse t) s1 k)

/-- TALLY returns the five sets and clears them; CAUSES returns the cause set and clears it, and
ATTN is deasserted; each in the one step that serves it (R155, R176, R190, R191). A hand-over
raises the count of its class's set by one, up to 65535, and the residual becomes the lesser, the
maximum and the duration the greater; with a count of 0 each becomes the value handed over
(R147). -/
def Obligations.TallyAndCausesAreCleared : Prop :=
  (∀ (t : Nat) (s : State), s.port.inService = some .tally →
    ∃ s1 : State, exec (.tally t) s = .next (s1.answer .done s.tallyPayload) ∧
      onlyChanges [.store] s s1 ∧ s.tallyPayload.length = 50 ∧
      s1.store.queue = s.store.queue ∧ s1.store.nextId = s.store.nextId ∧
      ∀ c : Fin 5, s1.store.tally[c] = ⟨0, none, none, none⟩) ∧
  (∀ (t : Nat) (s : State), s.port.inService = some .causes →
    ∃ s1 : State, exec (.causes t) s = .next (s1.answer .done (causesPayload s.ctl.causes)) ∧
      onlyChanges [.ctl] s s1 ∧ (causesPayload s.ctl.causes).length = 15 ∧
      s1.ctl.attn = false ∧ (∀ b : Fin 13, s1.ctl.causes[b] = ⟨false, 0, false⟩) ∧
      s1.ctl.state = s.ctl.state ∧ s1.ctl.items = s.ctl.items) ∧
  ∀ (s : State) (c : RecordClass) (residual maximum duration : Nat),
    let s' := s.handToTally c residual maximum duration
    let x := s.store.tally[c.index]
    let y := s'.store.tally[c.index]
    onlyChanges [.store] s s' ∧ s'.store.queue = s.store.queue ∧
    s'.store.nextId = s.store.nextId ∧
    (∀ d : Fin 5, d ≠ c.index → s'.store.tally[d] = s.store.tally[d]) ∧
    y.count = min (x.count + 1) 65535 ∧
    (x.count = 0 → y.residual = some residual ∧ y.maximum = some maximum ∧
      y.duration = some duration) ∧
    (∀ a b d, x.count ≠ 0 → x.residual = some a → x.maximum = some b → x.duration = some d →
      y.residual = some (min a residual) ∧ y.maximum = some (max b maximum) ∧
      y.duration = some (max d duration))

/-- SET: UNKNOWN above item 29, LOCKED outside CONFIG, and in CONFIG the value, or the nearer end of
the range, is stored and returned, DONE or CLAMPED; the declared voltage reseeds the references,
items 0 and 2 to 5 recompute both threshold sets, and the mask reassesses ATTN (R40, R180, R181,
R191). That the settle countdowns are kept is read from the spec by inference (log entry 20). -/
def Obligations.SetStoresTheItem : Prop :=
  ∀ (t : Nat) (s : State) (item : Byte) (v : BitVec 32), s.port.inService = some (.set item v) →
    (29 < item.toNat → exec (.set t) s = .next ((s.elapse t).answer .unknown [])) ∧
    (item.toNat < 30 → s.ctl.state ≠ .config →
      exec (.set t) s = .next ((s.elapse t).answer .locked [])) ∧
    ∀ hi : item.toNat < 30, s.ctl.state = .config →
      let i : Fin 30 := ⟨item.toNat, hi⟩
      let x : Int := if i = 28 then (v.toNat : Int) else v.toInt
      let range : Int × Int := (([(1000, 4000), (0, 1), (500, 990), (1010, 1500), (10, 200),
        (5, 50), (10, 500), (10, 500), (10, 2000), (1, 3600), (200, 10000), (0, 100)] ++
        List.replicate 8 (0, 65535) ++ List.replicate 8 (-1000, 1000) ++
        [(0, 4294967295), (0, 31)] : List (Int × Int))).getD i.val (0, 0)
      let y := max range.1 (min range.2 x)
      ∃ s1 : State, exec (.set t) s = .next (s1.answer (if y = x then .done else .clamped)
          (bigEndian 4 (y % 4294967296).toNat)) ∧
        onlyChanges [.ref, .ctl] s s1 ∧ s1.ctl.items = s.ctl.items.set i y ∧
        s1.ctl.causes = s.ctl.causes ∧ s1.ctl.state = .config ∧
        (i = 29 → (s1.ctl.attn = true ↔ ∃ b : Fin 13, s.ctl.causes[b].isSet = true ∧
          (b.val < 8 ∨ y.toNat.testBit (b.val - 8) = false))) ∧
        (i ≠ 29 → s1.ctl.attn = s.ctl.attn) ∧
        (∀ k : Fin 3, s1.ref.d[k].settle = s.ref.d[k].settle ∧
          s1.ref.d[k].rf = (if i = 0 then y.toNat * 65536 else s.ref.d[k].rf) ∧
          ((i = 0 ∨ 2 ≤ i.val ∧ i.val ≤ 5) →
            s1.ref.d[k].inForce = thresholdsFrom s1.ctl.items (s1.ref.d[k].rf / 65536) ∧
            s1.ref.d[k].following = s1.ref.d[k].inForce) ∧
          (¬(i = 0 ∨ 2 ≤ i.val ∧ i.val ≤ 5) → s1.ref.d[k] = s.ref.d[k]))

/-- START: refused with CONFLICT in CONFIG where swell start - hysteresis does not exceed dip start
+ hysteresis; otherwise CONFIG moves to RUN, the references are seeded, elapsed time, the PRESENT
period and an interval begin and a PRESENT is queued; DONE without effect in RUN; HALTED in
HALTED (R41, R103, R146, R158, R159, R182, R185). START freezes the time base with the START time
(R146; held as state: DEDUCED, log entry 27). -/
def Obligations.StartIsAnswered : Prop :=
  ∀ (t : Nat) (s : State), s.port.inService = some .start →
    (s.ctl.state = .run → exec (.start t) s = .next ((s.elapse t).answer .done [])) ∧
    (s.ctl.state = .halted → exec (.start t) s = .next ((s.elapse t).answer .halted [])) ∧
    (s.ctl.state = .config → s.item 3 - s.item 5 ≤ s.item 2 + s.item 5 →
      exec (.start t) s = .next ((s.elapse t).answer .conflict [])) ∧
    (s.ctl.state = .config → s.item 2 + s.item 5 < s.item 3 - s.item 5 →
      ∃ s1 : State, exec (.start t) s = .next (s1.answer .done []) ∧ s1.ctl.state = .run ∧
        s1.port = s.port ∧ s1.det = s.det ∧ s1.cfe = s.cfe ∧ s1.rms = s.rms ∧
        s1.ctl.presentExpiry = some (s1.now + 60000) ∧ s1.ctl.items = s.ctl.items ∧
        s1.ctl.causes = s.ctl.causes ∧
        (∀ k : Fin 3, s1.ref.d[k].rf = s.declared * 65536 ∧ s1.ref.d[k].settle = 0 ∧
          s1.ref.d[k].inForce = thresholdsFrom s.ctl.items s.declared ∧
          s1.ref.d[k].following = s1.ref.d[k].inForce) ∧
        s1.store = { s.store with
          startTime := s1.now, frozenBase := some s.timeBase, view := .run } ∧
        (∃ i : Interval, s1.agg.cur = some i ∧ i.atStart = true ∧ i.elapsed = 0 ∧
          i.acc = accClear ∧ i.start = ⟨s.timeBase % 4294967296, 0⟩ ∧
          i.boundary = s1.now + BitVec.ofNat 48 (1000 *
            min (600 - i.start.sec % 600) (4294967296 - i.start.sec))) ∧
        s1.agg.ring = s.agg.ring ∧
        (s.link.queue.length < 8 → s1.link.queue = s.link.queue ++ [.present]))

/-- RESTART returns the station to CONFIG from every state, with the PRESENT period cleared: the
detector is in WATCH, the references are reseeded (reports of ends not yet taken are dropped, the
model's choice, log entry 12), the last edge time is that of an own pulse where one began within the
stop (R97) and else kept, the capture unit is ON with no fill in progress and every scrub
running, the mark line interface and the notice link are reset, every context is closed and no
interval is open; items, port, front end and RMS engine are untouched. LINK_RESET resets the mark
line interface and the notice link; contexts and records keep every field but UNSENT, which the
drops of queued VERDICTs set (R132, R140), and the tally is kept. The START time is kept (R157), and
the frozen time base with it (DEDUCED, log entry 27). What RESTART makes of events, contexts and
records is stated with HALT (R42, R63, R85, R98, R121, R138, R140, R166, R186). -/
def Obligations.RestartAndLinkReset : Prop :=
  (∀ (t : Nat) (low : Bool) (s : State), s.port.inService = some .restart →
    ∃ s1 : State, exec (.restart t low) s = .next (s1.answer .done []) ∧ s1.ctl.state = .config ∧
      s1.ctl.presentExpiry = none ∧ s1.ctl.items = s.ctl.items ∧ s1.port = s.port ∧
      s1.cfe = s.cfe ∧ s1.rms = s.rms ∧ s1.det.mode = .watch ∧
      (∀ k : Fin 3, s1.det.cond[k] = .back ∧ s1.ref.d[k].rf = s.declared * 65536 ∧
        s1.ref.d[k].settle = 0 ∧ s1.ref.d[k].inForce = thresholdsFrom s.ctl.items s.declared ∧
        s1.ref.d[k].following = s1.ref.d[k].inForce) ∧ s1.ref.endReports = 0 ∧
      s1.cap.on = true ∧ (s.oneFilling → s1.fillings = 0) ∧
      (∀ k : Fin 8, s1.cap.slots[k].state = .scrubbing → s1.cap.slots[k].scrubEnd ≠ none) ∧
      s1.mark.asserted = low ∧ s1.mark.drive = false ∧ s1.mark.stuck = false ∧
      s1.mark.pulseEnd = none ∧ (s1.mark.lastEdge = s.mark.lastEdge ∨
        s.ctl.state = .run ∧ s.det.handed ≠ [] ∧ s1.mark.lastEdge = some s1.now) ∧
      s1.mark.recoveryExpiry = none ∧
      s1.mark.stuckExpiry = (if low then some (s1.now + 51) else none) ∧
      s1.link.queue = [] ∧ s1.link.tx = .idle ∧ s1.link.attempts = 0 ∧
      s1.link.rx = .recovering ∧
      (∀ a : Fin 16, s1.link.peers[a] = ⟨false, none, none, none, none, 0⟩) ∧
      (∀ k : Fin 4, s1.corr.slots[k] = none) ∧ s1.agg.cur = none ∧
      s1.store.startTime = s.store.startTime ∧ s1.store.frozenBase = s.store.frozenBase) ∧
  ∀ (t : Nat) (low : Bool) (s : State), s.port.inService = some .linkReset →
    ∃ s1 : State, exec (.linkReset t low) s = .next (s1.answer .done []) ∧
      onlyChanges [.mark, .link, .corr, .store] s s1 ∧
      s1.mark.asserted = low ∧ s1.mark.drive = false ∧ s1.mark.stuck = false ∧
      s1.mark.pulseEnd = none ∧ s1.mark.lastEdge = none ∧ s1.mark.recoveryExpiry = none ∧
      s1.mark.stuckExpiry = (if low then some (s1.now + 51) else none) ∧
      s1.link.queue = [] ∧ s1.link.tx = .idle ∧ s1.link.attempts = 0 ∧
      s1.link.rx = .recovering ∧
      (∀ a : Fin 16, s1.link.peers[a] = ⟨false, none, none, none, none, 0⟩) ∧
      s1.corr.handed = s.corr.handed ∧ s1.corr.view = s.corr.view ∧
      (∀ k : Fin 4, s.corr.slots[k] = none → s1.corr.slots[k] = none) ∧
      (∀ (k : Fin 4) (c : Context), s.corr.slots[k] = some c → ∃ u,
        s1.corr.slots[k] = some { c with unsent := u } ∧
        (u = true ↔ c.unsent = true ∨ s.verdictQueued fun v => v.edge = c.edge)) ∧
      s1.store.nextId = s.store.nextId ∧ s1.store.startTime = s.store.startTime ∧
      s1.store.frozenBase = s.store.frozenBase ∧
      s1.store.tally = s.store.tally ∧ s1.store.queue.length = s.store.queue.length ∧
      ∀ (i : Nat) (r : Record), s.store.queue[i]? = some r → ∃ u,
        s1.store.queue[i]? = some { r with flags := { r.flags with unsent := u } } ∧
        (u = true ↔ r.flags.unsent = true ∨
          s.verdictQueued fun v => v.recordId ≠ 0 ∧ v.recordId = r.id)
end

