-- ==== Sys2Proof/Laws/State.lean ====
section
/-! SUPPORT. One lemma per field of State and update, so that no proof unfolds a record update. -/

namespace Sys2Proof.Machine

@[simp] theorem State.withTime_time (s : State) (x : Nat) : (s.withTime x).time = x := rfl
@[simp] theorem State.withTime_cfe (s : State) (x : Nat) : (s.withTime x).cfe = s.cfe := rfl
@[simp] theorem State.withTime_rms (s : State) (x : Nat) : (s.withTime x).rms = s.rms := rfl
@[simp] theorem State.withTime_ref (s : State) (x : Nat) : (s.withTime x).ref = s.ref := rfl
@[simp] theorem State.withTime_det (s : State) (x : Nat) : (s.withTime x).det = s.det := rfl
@[simp] theorem State.withTime_cap (s : State) (x : Nat) : (s.withTime x).cap = s.cap := rfl
@[simp] theorem State.withTime_mark (s : State) (x : Nat) : (s.withTime x).mark = s.mark := rfl
@[simp] theorem State.withTime_link (s : State) (x : Nat) : (s.withTime x).link = s.link := rfl
@[simp] theorem State.withTime_corr (s : State) (x : Nat) : (s.withTime x).corr = s.corr := rfl
@[simp] theorem State.withTime_store (s : State) (x : Nat) : (s.withTime x).store = s.store := rfl
@[simp] theorem State.withTime_agg (s : State) (x : Nat) : (s.withTime x).agg = s.agg := rfl
@[simp] theorem State.withTime_port (s : State) (x : Nat) : (s.withTime x).port = s.port := rfl
@[simp] theorem State.withTime_ctl (s : State) (x : Nat) : (s.withTime x).ctl = s.ctl := rfl
@[simp] theorem State.withTime_free (s : State) (x : Nat) : (s.withTime x).free = s.free := rfl
@[simp] theorem State.withTime_pending (s : State) (x : Nat) : (s.withTime x).pending = s.pending := rfl

@[simp] theorem State.withCfe_time (s : State) (x : FrontEnd) : (s.withCfe x).time = s.time := rfl
@[simp] theorem State.withCfe_cfe (s : State) (x : FrontEnd) : (s.withCfe x).cfe = x := rfl
@[simp] theorem State.withCfe_rms (s : State) (x : FrontEnd) : (s.withCfe x).rms = s.rms := rfl
@[simp] theorem State.withCfe_ref (s : State) (x : FrontEnd) : (s.withCfe x).ref = s.ref := rfl
@[simp] theorem State.withCfe_det (s : State) (x : FrontEnd) : (s.withCfe x).det = s.det := rfl
@[simp] theorem State.withCfe_cap (s : State) (x : FrontEnd) : (s.withCfe x).cap = s.cap := rfl
@[simp] theorem State.withCfe_mark (s : State) (x : FrontEnd) : (s.withCfe x).mark = s.mark := rfl
@[simp] theorem State.withCfe_link (s : State) (x : FrontEnd) : (s.withCfe x).link = s.link := rfl
@[simp] theorem State.withCfe_corr (s : State) (x : FrontEnd) : (s.withCfe x).corr = s.corr := rfl
@[simp] theorem State.withCfe_store (s : State) (x : FrontEnd) : (s.withCfe x).store = s.store := rfl
@[simp] theorem State.withCfe_agg (s : State) (x : FrontEnd) : (s.withCfe x).agg = s.agg := rfl
@[simp] theorem State.withCfe_port (s : State) (x : FrontEnd) : (s.withCfe x).port = s.port := rfl
@[simp] theorem State.withCfe_ctl (s : State) (x : FrontEnd) : (s.withCfe x).ctl = s.ctl := rfl
@[simp] theorem State.withCfe_free (s : State) (x : FrontEnd) : (s.withCfe x).free = s.free := rfl
@[simp] theorem State.withCfe_pending (s : State) (x : FrontEnd) : (s.withCfe x).pending = s.pending := rfl

@[simp] theorem State.withRms_time (s : State) (x : RmsEngine) : (s.withRms x).time = s.time := rfl
@[simp] theorem State.withRms_cfe (s : State) (x : RmsEngine) : (s.withRms x).cfe = s.cfe := rfl
@[simp] theorem State.withRms_rms (s : State) (x : RmsEngine) : (s.withRms x).rms = x := rfl
@[simp] theorem State.withRms_ref (s : State) (x : RmsEngine) : (s.withRms x).ref = s.ref := rfl
@[simp] theorem State.withRms_det (s : State) (x : RmsEngine) : (s.withRms x).det = s.det := rfl
@[simp] theorem State.withRms_cap (s : State) (x : RmsEngine) : (s.withRms x).cap = s.cap := rfl
@[simp] theorem State.withRms_mark (s : State) (x : RmsEngine) : (s.withRms x).mark = s.mark := rfl
@[simp] theorem State.withRms_link (s : State) (x : RmsEngine) : (s.withRms x).link = s.link := rfl
@[simp] theorem State.withRms_corr (s : State) (x : RmsEngine) : (s.withRms x).corr = s.corr := rfl
@[simp] theorem State.withRms_store (s : State) (x : RmsEngine) : (s.withRms x).store = s.store := rfl
@[simp] theorem State.withRms_agg (s : State) (x : RmsEngine) : (s.withRms x).agg = s.agg := rfl
@[simp] theorem State.withRms_port (s : State) (x : RmsEngine) : (s.withRms x).port = s.port := rfl
@[simp] theorem State.withRms_ctl (s : State) (x : RmsEngine) : (s.withRms x).ctl = s.ctl := rfl
@[simp] theorem State.withRms_free (s : State) (x : RmsEngine) : (s.withRms x).free = s.free := rfl
@[simp] theorem State.withRms_pending (s : State) (x : RmsEngine) : (s.withRms x).pending = s.pending := rfl

@[simp] theorem State.withRef_time (s : State) (x : RefTracker) : (s.withRef x).time = s.time := rfl
@[simp] theorem State.withRef_cfe (s : State) (x : RefTracker) : (s.withRef x).cfe = s.cfe := rfl
@[simp] theorem State.withRef_rms (s : State) (x : RefTracker) : (s.withRef x).rms = s.rms := rfl
@[simp] theorem State.withRef_ref (s : State) (x : RefTracker) : (s.withRef x).ref = x := rfl
@[simp] theorem State.withRef_det (s : State) (x : RefTracker) : (s.withRef x).det = s.det := rfl
@[simp] theorem State.withRef_cap (s : State) (x : RefTracker) : (s.withRef x).cap = s.cap := rfl
@[simp] theorem State.withRef_mark (s : State) (x : RefTracker) : (s.withRef x).mark = s.mark := rfl
@[simp] theorem State.withRef_link (s : State) (x : RefTracker) : (s.withRef x).link = s.link := rfl
@[simp] theorem State.withRef_corr (s : State) (x : RefTracker) : (s.withRef x).corr = s.corr := rfl
@[simp] theorem State.withRef_store (s : State) (x : RefTracker) : (s.withRef x).store = s.store := rfl
@[simp] theorem State.withRef_agg (s : State) (x : RefTracker) : (s.withRef x).agg = s.agg := rfl
@[simp] theorem State.withRef_port (s : State) (x : RefTracker) : (s.withRef x).port = s.port := rfl
@[simp] theorem State.withRef_ctl (s : State) (x : RefTracker) : (s.withRef x).ctl = s.ctl := rfl
@[simp] theorem State.withRef_free (s : State) (x : RefTracker) : (s.withRef x).free = s.free := rfl
@[simp] theorem State.withRef_pending (s : State) (x : RefTracker) : (s.withRef x).pending = s.pending := rfl

@[simp] theorem State.withDet_time (s : State) (x : Detector) : (s.withDet x).time = s.time := rfl
@[simp] theorem State.withDet_cfe (s : State) (x : Detector) : (s.withDet x).cfe = s.cfe := rfl
@[simp] theorem State.withDet_rms (s : State) (x : Detector) : (s.withDet x).rms = s.rms := rfl
@[simp] theorem State.withDet_ref (s : State) (x : Detector) : (s.withDet x).ref = s.ref := rfl
@[simp] theorem State.withDet_det (s : State) (x : Detector) : (s.withDet x).det = x := rfl
@[simp] theorem State.withDet_cap (s : State) (x : Detector) : (s.withDet x).cap = s.cap := rfl
@[simp] theorem State.withDet_mark (s : State) (x : Detector) : (s.withDet x).mark = s.mark := rfl
@[simp] theorem State.withDet_link (s : State) (x : Detector) : (s.withDet x).link = s.link := rfl
@[simp] theorem State.withDet_corr (s : State) (x : Detector) : (s.withDet x).corr = s.corr := rfl
@[simp] theorem State.withDet_store (s : State) (x : Detector) : (s.withDet x).store = s.store := rfl
@[simp] theorem State.withDet_agg (s : State) (x : Detector) : (s.withDet x).agg = s.agg := rfl
@[simp] theorem State.withDet_port (s : State) (x : Detector) : (s.withDet x).port = s.port := rfl
@[simp] theorem State.withDet_ctl (s : State) (x : Detector) : (s.withDet x).ctl = s.ctl := rfl
@[simp] theorem State.withDet_free (s : State) (x : Detector) : (s.withDet x).free = s.free := rfl
@[simp] theorem State.withDet_pending (s : State) (x : Detector) : (s.withDet x).pending = s.pending := rfl

@[simp] theorem State.withCap_time (s : State) (x : CaptureUnit) : (s.withCap x).time = s.time := rfl
@[simp] theorem State.withCap_cfe (s : State) (x : CaptureUnit) : (s.withCap x).cfe = s.cfe := rfl
@[simp] theorem State.withCap_rms (s : State) (x : CaptureUnit) : (s.withCap x).rms = s.rms := rfl
@[simp] theorem State.withCap_ref (s : State) (x : CaptureUnit) : (s.withCap x).ref = s.ref := rfl
@[simp] theorem State.withCap_det (s : State) (x : CaptureUnit) : (s.withCap x).det = s.det := rfl
@[simp] theorem State.withCap_cap (s : State) (x : CaptureUnit) : (s.withCap x).cap = x := rfl
@[simp] theorem State.withCap_mark (s : State) (x : CaptureUnit) : (s.withCap x).mark = s.mark := rfl
@[simp] theorem State.withCap_link (s : State) (x : CaptureUnit) : (s.withCap x).link = s.link := rfl
@[simp] theorem State.withCap_corr (s : State) (x : CaptureUnit) : (s.withCap x).corr = s.corr := rfl
@[simp] theorem State.withCap_store (s : State) (x : CaptureUnit) : (s.withCap x).store = s.store := rfl
@[simp] theorem State.withCap_agg (s : State) (x : CaptureUnit) : (s.withCap x).agg = s.agg := rfl
@[simp] theorem State.withCap_port (s : State) (x : CaptureUnit) : (s.withCap x).port = s.port := rfl
@[simp] theorem State.withCap_ctl (s : State) (x : CaptureUnit) : (s.withCap x).ctl = s.ctl := rfl
@[simp] theorem State.withCap_free (s : State) (x : CaptureUnit) : (s.withCap x).free = s.free := rfl
@[simp] theorem State.withCap_pending (s : State) (x : CaptureUnit) : (s.withCap x).pending = s.pending := rfl

@[simp] theorem State.withMark_time (s : State) (x : MarkLine) : (s.withMark x).time = s.time := rfl
@[simp] theorem State.withMark_cfe (s : State) (x : MarkLine) : (s.withMark x).cfe = s.cfe := rfl
@[simp] theorem State.withMark_rms (s : State) (x : MarkLine) : (s.withMark x).rms = s.rms := rfl
@[simp] theorem State.withMark_ref (s : State) (x : MarkLine) : (s.withMark x).ref = s.ref := rfl
@[simp] theorem State.withMark_det (s : State) (x : MarkLine) : (s.withMark x).det = s.det := rfl
@[simp] theorem State.withMark_cap (s : State) (x : MarkLine) : (s.withMark x).cap = s.cap := rfl
@[simp] theorem State.withMark_mark (s : State) (x : MarkLine) : (s.withMark x).mark = x := rfl
@[simp] theorem State.withMark_link (s : State) (x : MarkLine) : (s.withMark x).link = s.link := rfl
@[simp] theorem State.withMark_corr (s : State) (x : MarkLine) : (s.withMark x).corr = s.corr := rfl
@[simp] theorem State.withMark_store (s : State) (x : MarkLine) : (s.withMark x).store = s.store := rfl
@[simp] theorem State.withMark_agg (s : State) (x : MarkLine) : (s.withMark x).agg = s.agg := rfl
@[simp] theorem State.withMark_port (s : State) (x : MarkLine) : (s.withMark x).port = s.port := rfl
@[simp] theorem State.withMark_ctl (s : State) (x : MarkLine) : (s.withMark x).ctl = s.ctl := rfl
@[simp] theorem State.withMark_free (s : State) (x : MarkLine) : (s.withMark x).free = s.free := rfl
@[simp] theorem State.withMark_pending (s : State) (x : MarkLine) : (s.withMark x).pending = s.pending := rfl

@[simp] theorem State.withLink_time (s : State) (x : NoticeLink) : (s.withLink x).time = s.time := rfl
@[simp] theorem State.withLink_cfe (s : State) (x : NoticeLink) : (s.withLink x).cfe = s.cfe := rfl
@[simp] theorem State.withLink_rms (s : State) (x : NoticeLink) : (s.withLink x).rms = s.rms := rfl
@[simp] theorem State.withLink_ref (s : State) (x : NoticeLink) : (s.withLink x).ref = s.ref := rfl
@[simp] theorem State.withLink_det (s : State) (x : NoticeLink) : (s.withLink x).det = s.det := rfl
@[simp] theorem State.withLink_cap (s : State) (x : NoticeLink) : (s.withLink x).cap = s.cap := rfl
@[simp] theorem State.withLink_mark (s : State) (x : NoticeLink) : (s.withLink x).mark = s.mark := rfl
@[simp] theorem State.withLink_link (s : State) (x : NoticeLink) : (s.withLink x).link = x := rfl
@[simp] theorem State.withLink_corr (s : State) (x : NoticeLink) : (s.withLink x).corr = s.corr := rfl
@[simp] theorem State.withLink_store (s : State) (x : NoticeLink) : (s.withLink x).store = s.store := rfl
@[simp] theorem State.withLink_agg (s : State) (x : NoticeLink) : (s.withLink x).agg = s.agg := rfl
@[simp] theorem State.withLink_port (s : State) (x : NoticeLink) : (s.withLink x).port = s.port := rfl
@[simp] theorem State.withLink_ctl (s : State) (x : NoticeLink) : (s.withLink x).ctl = s.ctl := rfl
@[simp] theorem State.withLink_free (s : State) (x : NoticeLink) : (s.withLink x).free = s.free := rfl
@[simp] theorem State.withLink_pending (s : State) (x : NoticeLink) : (s.withLink x).pending = s.pending := rfl

@[simp] theorem State.withCorr_time (s : State) (x : Correlation) : (s.withCorr x).time = s.time := rfl
@[simp] theorem State.withCorr_cfe (s : State) (x : Correlation) : (s.withCorr x).cfe = s.cfe := rfl
@[simp] theorem State.withCorr_rms (s : State) (x : Correlation) : (s.withCorr x).rms = s.rms := rfl
@[simp] theorem State.withCorr_ref (s : State) (x : Correlation) : (s.withCorr x).ref = s.ref := rfl
@[simp] theorem State.withCorr_det (s : State) (x : Correlation) : (s.withCorr x).det = s.det := rfl
@[simp] theorem State.withCorr_cap (s : State) (x : Correlation) : (s.withCorr x).cap = s.cap := rfl
@[simp] theorem State.withCorr_mark (s : State) (x : Correlation) : (s.withCorr x).mark = s.mark := rfl
@[simp] theorem State.withCorr_link (s : State) (x : Correlation) : (s.withCorr x).link = s.link := rfl
@[simp] theorem State.withCorr_corr (s : State) (x : Correlation) : (s.withCorr x).corr = x := rfl
@[simp] theorem State.withCorr_store (s : State) (x : Correlation) : (s.withCorr x).store = s.store := rfl
@[simp] theorem State.withCorr_agg (s : State) (x : Correlation) : (s.withCorr x).agg = s.agg := rfl
@[simp] theorem State.withCorr_port (s : State) (x : Correlation) : (s.withCorr x).port = s.port := rfl
@[simp] theorem State.withCorr_ctl (s : State) (x : Correlation) : (s.withCorr x).ctl = s.ctl := rfl
@[simp] theorem State.withCorr_free (s : State) (x : Correlation) : (s.withCorr x).free = s.free := rfl
@[simp] theorem State.withCorr_pending (s : State) (x : Correlation) : (s.withCorr x).pending = s.pending := rfl

@[simp] theorem State.withStore_time (s : State) (x : RecordStore) : (s.withStore x).time = s.time := rfl
@[simp] theorem State.withStore_cfe (s : State) (x : RecordStore) : (s.withStore x).cfe = s.cfe := rfl
@[simp] theorem State.withStore_rms (s : State) (x : RecordStore) : (s.withStore x).rms = s.rms := rfl
@[simp] theorem State.withStore_ref (s : State) (x : RecordStore) : (s.withStore x).ref = s.ref := rfl
@[simp] theorem State.withStore_det (s : State) (x : RecordStore) : (s.withStore x).det = s.det := rfl
@[simp] theorem State.withStore_cap (s : State) (x : RecordStore) : (s.withStore x).cap = s.cap := rfl
@[simp] theorem State.withStore_mark (s : State) (x : RecordStore) : (s.withStore x).mark = s.mark := rfl
@[simp] theorem State.withStore_link (s : State) (x : RecordStore) : (s.withStore x).link = s.link := rfl
@[simp] theorem State.withStore_corr (s : State) (x : RecordStore) : (s.withStore x).corr = s.corr := rfl
@[simp] theorem State.withStore_store (s : State) (x : RecordStore) : (s.withStore x).store = x := rfl
@[simp] theorem State.withStore_agg (s : State) (x : RecordStore) : (s.withStore x).agg = s.agg := rfl
@[simp] theorem State.withStore_port (s : State) (x : RecordStore) : (s.withStore x).port = s.port := rfl
@[simp] theorem State.withStore_ctl (s : State) (x : RecordStore) : (s.withStore x).ctl = s.ctl := rfl
@[simp] theorem State.withStore_free (s : State) (x : RecordStore) : (s.withStore x).free = s.free := rfl
@[simp] theorem State.withStore_pending (s : State) (x : RecordStore) : (s.withStore x).pending = s.pending := rfl

@[simp] theorem State.withAgg_time (s : State) (x : Aggregator) : (s.withAgg x).time = s.time := rfl
@[simp] theorem State.withAgg_cfe (s : State) (x : Aggregator) : (s.withAgg x).cfe = s.cfe := rfl
@[simp] theorem State.withAgg_rms (s : State) (x : Aggregator) : (s.withAgg x).rms = s.rms := rfl
@[simp] theorem State.withAgg_ref (s : State) (x : Aggregator) : (s.withAgg x).ref = s.ref := rfl
@[simp] theorem State.withAgg_det (s : State) (x : Aggregator) : (s.withAgg x).det = s.det := rfl
@[simp] theorem State.withAgg_cap (s : State) (x : Aggregator) : (s.withAgg x).cap = s.cap := rfl
@[simp] theorem State.withAgg_mark (s : State) (x : Aggregator) : (s.withAgg x).mark = s.mark := rfl
@[simp] theorem State.withAgg_link (s : State) (x : Aggregator) : (s.withAgg x).link = s.link := rfl
@[simp] theorem State.withAgg_corr (s : State) (x : Aggregator) : (s.withAgg x).corr = s.corr := rfl
@[simp] theorem State.withAgg_store (s : State) (x : Aggregator) : (s.withAgg x).store = s.store := rfl
@[simp] theorem State.withAgg_agg (s : State) (x : Aggregator) : (s.withAgg x).agg = x := rfl
@[simp] theorem State.withAgg_port (s : State) (x : Aggregator) : (s.withAgg x).port = s.port := rfl
@[simp] theorem State.withAgg_ctl (s : State) (x : Aggregator) : (s.withAgg x).ctl = s.ctl := rfl
@[simp] theorem State.withAgg_free (s : State) (x : Aggregator) : (s.withAgg x).free = s.free := rfl
@[simp] theorem State.withAgg_pending (s : State) (x : Aggregator) : (s.withAgg x).pending = s.pending := rfl

@[simp] theorem State.withPort_time (s : State) (x : RecordPort) : (s.withPort x).time = s.time := rfl
@[simp] theorem State.withPort_cfe (s : State) (x : RecordPort) : (s.withPort x).cfe = s.cfe := rfl
@[simp] theorem State.withPort_rms (s : State) (x : RecordPort) : (s.withPort x).rms = s.rms := rfl
@[simp] theorem State.withPort_ref (s : State) (x : RecordPort) : (s.withPort x).ref = s.ref := rfl
@[simp] theorem State.withPort_det (s : State) (x : RecordPort) : (s.withPort x).det = s.det := rfl
@[simp] theorem State.withPort_cap (s : State) (x : RecordPort) : (s.withPort x).cap = s.cap := rfl
@[simp] theorem State.withPort_mark (s : State) (x : RecordPort) : (s.withPort x).mark = s.mark := rfl
@[simp] theorem State.withPort_link (s : State) (x : RecordPort) : (s.withPort x).link = s.link := rfl
@[simp] theorem State.withPort_corr (s : State) (x : RecordPort) : (s.withPort x).corr = s.corr := rfl
@[simp] theorem State.withPort_store (s : State) (x : RecordPort) : (s.withPort x).store = s.store := rfl
@[simp] theorem State.withPort_agg (s : State) (x : RecordPort) : (s.withPort x).agg = s.agg := rfl
@[simp] theorem State.withPort_port (s : State) (x : RecordPort) : (s.withPort x).port = x := rfl
@[simp] theorem State.withPort_ctl (s : State) (x : RecordPort) : (s.withPort x).ctl = s.ctl := rfl
@[simp] theorem State.withPort_free (s : State) (x : RecordPort) : (s.withPort x).free = s.free := rfl
@[simp] theorem State.withPort_pending (s : State) (x : RecordPort) : (s.withPort x).pending = s.pending := rfl

@[simp] theorem State.withCtl_time (s : State) (x : Controller) : (s.withCtl x).time = s.time := rfl
@[simp] theorem State.withCtl_cfe (s : State) (x : Controller) : (s.withCtl x).cfe = s.cfe := rfl
@[simp] theorem State.withCtl_rms (s : State) (x : Controller) : (s.withCtl x).rms = s.rms := rfl
@[simp] theorem State.withCtl_ref (s : State) (x : Controller) : (s.withCtl x).ref = s.ref := rfl
@[simp] theorem State.withCtl_det (s : State) (x : Controller) : (s.withCtl x).det = s.det := rfl
@[simp] theorem State.withCtl_cap (s : State) (x : Controller) : (s.withCtl x).cap = s.cap := rfl
@[simp] theorem State.withCtl_mark (s : State) (x : Controller) : (s.withCtl x).mark = s.mark := rfl
@[simp] theorem State.withCtl_link (s : State) (x : Controller) : (s.withCtl x).link = s.link := rfl
@[simp] theorem State.withCtl_corr (s : State) (x : Controller) : (s.withCtl x).corr = s.corr := rfl
@[simp] theorem State.withCtl_store (s : State) (x : Controller) : (s.withCtl x).store = s.store := rfl
@[simp] theorem State.withCtl_agg (s : State) (x : Controller) : (s.withCtl x).agg = s.agg := rfl
@[simp] theorem State.withCtl_port (s : State) (x : Controller) : (s.withCtl x).port = s.port := rfl
@[simp] theorem State.withCtl_ctl (s : State) (x : Controller) : (s.withCtl x).ctl = x := rfl
@[simp] theorem State.withCtl_free (s : State) (x : Controller) : (s.withCtl x).free = s.free := rfl
@[simp] theorem State.withCtl_pending (s : State) (x : Controller) : (s.withCtl x).pending = s.pending := rfl

@[simp] theorem State.withFree_time (s : State) (x : Nat) : (s.withFree x).time = s.time := rfl
@[simp] theorem State.withFree_cfe (s : State) (x : Nat) : (s.withFree x).cfe = s.cfe := rfl
@[simp] theorem State.withFree_rms (s : State) (x : Nat) : (s.withFree x).rms = s.rms := rfl
@[simp] theorem State.withFree_ref (s : State) (x : Nat) : (s.withFree x).ref = s.ref := rfl
@[simp] theorem State.withFree_det (s : State) (x : Nat) : (s.withFree x).det = s.det := rfl
@[simp] theorem State.withFree_cap (s : State) (x : Nat) : (s.withFree x).cap = s.cap := rfl
@[simp] theorem State.withFree_mark (s : State) (x : Nat) : (s.withFree x).mark = s.mark := rfl
@[simp] theorem State.withFree_link (s : State) (x : Nat) : (s.withFree x).link = s.link := rfl
@[simp] theorem State.withFree_corr (s : State) (x : Nat) : (s.withFree x).corr = s.corr := rfl
@[simp] theorem State.withFree_store (s : State) (x : Nat) : (s.withFree x).store = s.store := rfl
@[simp] theorem State.withFree_agg (s : State) (x : Nat) : (s.withFree x).agg = s.agg := rfl
@[simp] theorem State.withFree_port (s : State) (x : Nat) : (s.withFree x).port = s.port := rfl
@[simp] theorem State.withFree_ctl (s : State) (x : Nat) : (s.withFree x).ctl = s.ctl := rfl
@[simp] theorem State.withFree_free (s : State) (x : Nat) : (s.withFree x).free = x := rfl
@[simp] theorem State.withFree_pending (s : State) (x : Nat) : (s.withFree x).pending = s.pending := rfl

@[simp] theorem State.withPending_time (s : State) (x : List Instr) : (s.withPending x).time = s.time := rfl
@[simp] theorem State.withPending_cfe (s : State) (x : List Instr) : (s.withPending x).cfe = s.cfe := rfl
@[simp] theorem State.withPending_rms (s : State) (x : List Instr) : (s.withPending x).rms = s.rms := rfl
@[simp] theorem State.withPending_ref (s : State) (x : List Instr) : (s.withPending x).ref = s.ref := rfl
@[simp] theorem State.withPending_det (s : State) (x : List Instr) : (s.withPending x).det = s.det := rfl
@[simp] theorem State.withPending_cap (s : State) (x : List Instr) : (s.withPending x).cap = s.cap := rfl
@[simp] theorem State.withPending_mark (s : State) (x : List Instr) : (s.withPending x).mark = s.mark := rfl
@[simp] theorem State.withPending_link (s : State) (x : List Instr) : (s.withPending x).link = s.link := rfl
@[simp] theorem State.withPending_corr (s : State) (x : List Instr) : (s.withPending x).corr = s.corr := rfl
@[simp] theorem State.withPending_store (s : State) (x : List Instr) : (s.withPending x).store = s.store := rfl
@[simp] theorem State.withPending_agg (s : State) (x : List Instr) : (s.withPending x).agg = s.agg := rfl
@[simp] theorem State.withPending_port (s : State) (x : List Instr) : (s.withPending x).port = s.port := rfl
@[simp] theorem State.withPending_ctl (s : State) (x : List Instr) : (s.withPending x).ctl = s.ctl := rfl
@[simp] theorem State.withPending_free (s : State) (x : List Instr) : (s.withPending x).free = s.free := rfl
@[simp] theorem State.withPending_pending (s : State) (x : List Instr) : (s.withPending x).pending = x := rfl

/-! The clock. -/

@[simp] theorem State.elapse_time (s : State) (t : Nat) : (s.elapse t).time = max s.time t := rfl
@[simp] theorem State.elapse_cfe (s : State) (t : Nat) : (s.elapse t).cfe = s.cfe := rfl
@[simp] theorem State.elapse_rms (s : State) (t : Nat) : (s.elapse t).rms = s.rms := rfl
@[simp] theorem State.elapse_ref (s : State) (t : Nat) : (s.elapse t).ref = s.ref := rfl
@[simp] theorem State.elapse_det (s : State) (t : Nat) : (s.elapse t).det = s.det := rfl
@[simp] theorem State.elapse_cap (s : State) (t : Nat) : (s.elapse t).cap = s.cap := rfl
@[simp] theorem State.elapse_mark (s : State) (t : Nat) : (s.elapse t).mark = s.mark := rfl
@[simp] theorem State.elapse_link (s : State) (t : Nat) : (s.elapse t).link = s.link := rfl
@[simp] theorem State.elapse_corr (s : State) (t : Nat) : (s.elapse t).corr = s.corr := rfl
@[simp] theorem State.elapse_store (s : State) (t : Nat) : (s.elapse t).store = s.store := rfl
@[simp] theorem State.elapse_agg (s : State) (t : Nat) : (s.elapse t).agg = s.agg := rfl
@[simp] theorem State.elapse_port (s : State) (t : Nat) : (s.elapse t).port = s.port := rfl
@[simp] theorem State.elapse_ctl (s : State) (t : Nat) : (s.elapse t).ctl = s.ctl := rfl
@[simp] theorem State.elapse_free (s : State) (t : Nat) : (s.elapse t).free = s.free := rfl
@[simp] theorem State.elapse_pending (s : State) (t : Nat) : (s.elapse t).pending = s.pending := rfl

/-- Moving the clock on never moves it back. -/
theorem State.time_le_elapse (s : State) (t : Nat) : s.time ≤ (s.elapse t).time := le_max_left _ _

end Sys2Proof.Machine
end

