-- ==== Sys2Proof/Laws/Ops.lean ====
section
/-! SUPPORT. What the shared operations that write one block leave alone, and what they write. -/

namespace Sys2Proof.Machine

@[simp] theorem State.raise_time (s : State) (c : Cause) (n : Nat) : (s.raise c n).time = s.time := rfl
@[simp] theorem State.raise_cfe (s : State) (c : Cause) (n : Nat) : (s.raise c n).cfe = s.cfe := rfl
@[simp] theorem State.raise_rms (s : State) (c : Cause) (n : Nat) : (s.raise c n).rms = s.rms := rfl
@[simp] theorem State.raise_ref (s : State) (c : Cause) (n : Nat) : (s.raise c n).ref = s.ref := rfl
@[simp] theorem State.raise_det (s : State) (c : Cause) (n : Nat) : (s.raise c n).det = s.det := rfl
@[simp] theorem State.raise_cap (s : State) (c : Cause) (n : Nat) : (s.raise c n).cap = s.cap := rfl
@[simp] theorem State.raise_mark (s : State) (c : Cause) (n : Nat) : (s.raise c n).mark = s.mark := rfl
@[simp] theorem State.raise_link (s : State) (c : Cause) (n : Nat) : (s.raise c n).link = s.link := rfl
@[simp] theorem State.raise_corr (s : State) (c : Cause) (n : Nat) : (s.raise c n).corr = s.corr := rfl
@[simp] theorem State.raise_store (s : State) (c : Cause) (n : Nat) : (s.raise c n).store = s.store := rfl
@[simp] theorem State.raise_agg (s : State) (c : Cause) (n : Nat) : (s.raise c n).agg = s.agg := rfl
@[simp] theorem State.raise_port (s : State) (c : Cause) (n : Nat) : (s.raise c n).port = s.port := rfl
@[simp] theorem State.raise_free (s : State) (c : Cause) (n : Nat) : (s.raise c n).free = s.free := rfl
@[simp] theorem State.raise_pending (s : State) (c : Cause) (n : Nat) : (s.raise c n).pending = s.pending := rfl

@[simp] theorem State.editRecord_time (s : State) (id : Nat) (f : Record → Record) : (s.editRecord id f).time = s.time := rfl
@[simp] theorem State.editRecord_cfe (s : State) (id : Nat) (f : Record → Record) : (s.editRecord id f).cfe = s.cfe := rfl
@[simp] theorem State.editRecord_rms (s : State) (id : Nat) (f : Record → Record) : (s.editRecord id f).rms = s.rms := rfl
@[simp] theorem State.editRecord_ref (s : State) (id : Nat) (f : Record → Record) : (s.editRecord id f).ref = s.ref := rfl
@[simp] theorem State.editRecord_det (s : State) (id : Nat) (f : Record → Record) : (s.editRecord id f).det = s.det := rfl
@[simp] theorem State.editRecord_cap (s : State) (id : Nat) (f : Record → Record) : (s.editRecord id f).cap = s.cap := rfl
@[simp] theorem State.editRecord_mark (s : State) (id : Nat) (f : Record → Record) : (s.editRecord id f).mark = s.mark := rfl
@[simp] theorem State.editRecord_link (s : State) (id : Nat) (f : Record → Record) : (s.editRecord id f).link = s.link := rfl
@[simp] theorem State.editRecord_corr (s : State) (id : Nat) (f : Record → Record) : (s.editRecord id f).corr = s.corr := rfl
@[simp] theorem State.editRecord_agg (s : State) (id : Nat) (f : Record → Record) : (s.editRecord id f).agg = s.agg := rfl
@[simp] theorem State.editRecord_port (s : State) (id : Nat) (f : Record → Record) : (s.editRecord id f).port = s.port := rfl
@[simp] theorem State.editRecord_ctl (s : State) (id : Nat) (f : Record → Record) : (s.editRecord id f).ctl = s.ctl := rfl
@[simp] theorem State.editRecord_free (s : State) (id : Nat) (f : Record → Record) : (s.editRecord id f).free = s.free := rfl
@[simp] theorem State.editRecord_pending (s : State) (id : Nat) (f : Record → Record) : (s.editRecord id f).pending = s.pending := rfl

@[simp] theorem State.handToTally_time (s : State) (c : RecordClass) (r m d : Nat) : (s.handToTally c r m d).time = s.time := rfl
@[simp] theorem State.handToTally_cfe (s : State) (c : RecordClass) (r m d : Nat) : (s.handToTally c r m d).cfe = s.cfe := rfl
@[simp] theorem State.handToTally_rms (s : State) (c : RecordClass) (r m d : Nat) : (s.handToTally c r m d).rms = s.rms := rfl
@[simp] theorem State.handToTally_ref (s : State) (c : RecordClass) (r m d : Nat) : (s.handToTally c r m d).ref = s.ref := rfl
@[simp] theorem State.handToTally_det (s : State) (c : RecordClass) (r m d : Nat) : (s.handToTally c r m d).det = s.det := rfl
@[simp] theorem State.handToTally_cap (s : State) (c : RecordClass) (r m d : Nat) : (s.handToTally c r m d).cap = s.cap := rfl
@[simp] theorem State.handToTally_mark (s : State) (c : RecordClass) (r m d : Nat) : (s.handToTally c r m d).mark = s.mark := rfl
@[simp] theorem State.handToTally_link (s : State) (c : RecordClass) (r m d : Nat) : (s.handToTally c r m d).link = s.link := rfl
@[simp] theorem State.handToTally_corr (s : State) (c : RecordClass) (r m d : Nat) : (s.handToTally c r m d).corr = s.corr := rfl
@[simp] theorem State.handToTally_agg (s : State) (c : RecordClass) (r m d : Nat) : (s.handToTally c r m d).agg = s.agg := rfl
@[simp] theorem State.handToTally_port (s : State) (c : RecordClass) (r m d : Nat) : (s.handToTally c r m d).port = s.port := rfl
@[simp] theorem State.handToTally_ctl (s : State) (c : RecordClass) (r m d : Nat) : (s.handToTally c r m d).ctl = s.ctl := rfl
@[simp] theorem State.handToTally_free (s : State) (c : RecordClass) (r m d : Nat) : (s.handToTally c r m d).free = s.free := rfl
@[simp] theorem State.handToTally_pending (s : State) (c : RecordClass) (r m d : Nat) : (s.handToTally c r m d).pending = s.pending := rfl

@[simp] theorem State.setSlot_time (s : State) (k : Fin 8) (x : Slot) : (s.setSlot k x).time = s.time := rfl
@[simp] theorem State.setSlot_cfe (s : State) (k : Fin 8) (x : Slot) : (s.setSlot k x).cfe = s.cfe := rfl
@[simp] theorem State.setSlot_rms (s : State) (k : Fin 8) (x : Slot) : (s.setSlot k x).rms = s.rms := rfl
@[simp] theorem State.setSlot_ref (s : State) (k : Fin 8) (x : Slot) : (s.setSlot k x).ref = s.ref := rfl
@[simp] theorem State.setSlot_det (s : State) (k : Fin 8) (x : Slot) : (s.setSlot k x).det = s.det := rfl
@[simp] theorem State.setSlot_mark (s : State) (k : Fin 8) (x : Slot) : (s.setSlot k x).mark = s.mark := rfl
@[simp] theorem State.setSlot_link (s : State) (k : Fin 8) (x : Slot) : (s.setSlot k x).link = s.link := rfl
@[simp] theorem State.setSlot_corr (s : State) (k : Fin 8) (x : Slot) : (s.setSlot k x).corr = s.corr := rfl
@[simp] theorem State.setSlot_store (s : State) (k : Fin 8) (x : Slot) : (s.setSlot k x).store = s.store := rfl
@[simp] theorem State.setSlot_agg (s : State) (k : Fin 8) (x : Slot) : (s.setSlot k x).agg = s.agg := rfl
@[simp] theorem State.setSlot_port (s : State) (k : Fin 8) (x : Slot) : (s.setSlot k x).port = s.port := rfl
@[simp] theorem State.setSlot_ctl (s : State) (k : Fin 8) (x : Slot) : (s.setSlot k x).ctl = s.ctl := rfl
@[simp] theorem State.setSlot_free (s : State) (k : Fin 8) (x : Slot) : (s.setSlot k x).free = s.free := rfl
@[simp] theorem State.setSlot_pending (s : State) (k : Fin 8) (x : Slot) : (s.setSlot k x).pending = s.pending := rfl

@[simp] theorem State.dropHold_time (s : State) (k : Fin 8) : (s.dropHold k).time = s.time := rfl
@[simp] theorem State.dropHold_cfe (s : State) (k : Fin 8) : (s.dropHold k).cfe = s.cfe := rfl
@[simp] theorem State.dropHold_rms (s : State) (k : Fin 8) : (s.dropHold k).rms = s.rms := rfl
@[simp] theorem State.dropHold_ref (s : State) (k : Fin 8) : (s.dropHold k).ref = s.ref := rfl
@[simp] theorem State.dropHold_det (s : State) (k : Fin 8) : (s.dropHold k).det = s.det := rfl
@[simp] theorem State.dropHold_mark (s : State) (k : Fin 8) : (s.dropHold k).mark = s.mark := rfl
@[simp] theorem State.dropHold_link (s : State) (k : Fin 8) : (s.dropHold k).link = s.link := rfl
@[simp] theorem State.dropHold_corr (s : State) (k : Fin 8) : (s.dropHold k).corr = s.corr := rfl
@[simp] theorem State.dropHold_store (s : State) (k : Fin 8) : (s.dropHold k).store = s.store := rfl
@[simp] theorem State.dropHold_agg (s : State) (k : Fin 8) : (s.dropHold k).agg = s.agg := rfl
@[simp] theorem State.dropHold_port (s : State) (k : Fin 8) : (s.dropHold k).port = s.port := rfl
@[simp] theorem State.dropHold_ctl (s : State) (k : Fin 8) : (s.dropHold k).ctl = s.ctl := rfl
@[simp] theorem State.dropHold_free (s : State) (k : Fin 8) : (s.dropHold k).free = s.free := rfl
@[simp] theorem State.dropHold_pending (s : State) (k : Fin 8) : (s.dropHold k).pending = s.pending := rfl

@[simp] theorem State.setContext_time (s : State) (k : Fin 4) (x : Option Context) : (s.setContext k x).time = s.time := rfl
@[simp] theorem State.setContext_cfe (s : State) (k : Fin 4) (x : Option Context) : (s.setContext k x).cfe = s.cfe := rfl
@[simp] theorem State.setContext_rms (s : State) (k : Fin 4) (x : Option Context) : (s.setContext k x).rms = s.rms := rfl
@[simp] theorem State.setContext_ref (s : State) (k : Fin 4) (x : Option Context) : (s.setContext k x).ref = s.ref := rfl
@[simp] theorem State.setContext_det (s : State) (k : Fin 4) (x : Option Context) : (s.setContext k x).det = s.det := rfl
@[simp] theorem State.setContext_cap (s : State) (k : Fin 4) (x : Option Context) : (s.setContext k x).cap = s.cap := rfl
@[simp] theorem State.setContext_mark (s : State) (k : Fin 4) (x : Option Context) : (s.setContext k x).mark = s.mark := rfl
@[simp] theorem State.setContext_link (s : State) (k : Fin 4) (x : Option Context) : (s.setContext k x).link = s.link := rfl
@[simp] theorem State.setContext_store (s : State) (k : Fin 4) (x : Option Context) : (s.setContext k x).store = s.store := rfl
@[simp] theorem State.setContext_agg (s : State) (k : Fin 4) (x : Option Context) : (s.setContext k x).agg = s.agg := rfl
@[simp] theorem State.setContext_port (s : State) (k : Fin 4) (x : Option Context) : (s.setContext k x).port = s.port := rfl
@[simp] theorem State.setContext_ctl (s : State) (k : Fin 4) (x : Option Context) : (s.setContext k x).ctl = s.ctl := rfl
@[simp] theorem State.setContext_free (s : State) (k : Fin 4) (x : Option Context) : (s.setContext k x).free = s.free := rfl
@[simp] theorem State.setContext_pending (s : State) (k : Fin 4) (x : Option Context) : (s.setContext k x).pending = s.pending := rfl

@[simp] theorem State.editContext_time (s : State) (k : Fin 4) (f : Context → Context) : (s.editContext k f).time = s.time := rfl
@[simp] theorem State.editContext_cfe (s : State) (k : Fin 4) (f : Context → Context) : (s.editContext k f).cfe = s.cfe := rfl
@[simp] theorem State.editContext_rms (s : State) (k : Fin 4) (f : Context → Context) : (s.editContext k f).rms = s.rms := rfl
@[simp] theorem State.editContext_ref (s : State) (k : Fin 4) (f : Context → Context) : (s.editContext k f).ref = s.ref := rfl
@[simp] theorem State.editContext_det (s : State) (k : Fin 4) (f : Context → Context) : (s.editContext k f).det = s.det := rfl
@[simp] theorem State.editContext_cap (s : State) (k : Fin 4) (f : Context → Context) : (s.editContext k f).cap = s.cap := rfl
@[simp] theorem State.editContext_mark (s : State) (k : Fin 4) (f : Context → Context) : (s.editContext k f).mark = s.mark := rfl
@[simp] theorem State.editContext_link (s : State) (k : Fin 4) (f : Context → Context) : (s.editContext k f).link = s.link := rfl
@[simp] theorem State.editContext_store (s : State) (k : Fin 4) (f : Context → Context) : (s.editContext k f).store = s.store := rfl
@[simp] theorem State.editContext_agg (s : State) (k : Fin 4) (f : Context → Context) : (s.editContext k f).agg = s.agg := rfl
@[simp] theorem State.editContext_port (s : State) (k : Fin 4) (f : Context → Context) : (s.editContext k f).port = s.port := rfl
@[simp] theorem State.editContext_ctl (s : State) (k : Fin 4) (f : Context → Context) : (s.editContext k f).ctl = s.ctl := rfl
@[simp] theorem State.editContext_free (s : State) (k : Fin 4) (f : Context → Context) : (s.editContext k f).free = s.free := rfl
@[simp] theorem State.editContext_pending (s : State) (k : Fin 4) (f : Context → Context) : (s.editContext k f).pending = s.pending := rfl

@[simp] theorem State.setPeer_time (s : State) (a : Fin 16) (p : Peer) : (s.setPeer a p).time = s.time := rfl
@[simp] theorem State.setPeer_cfe (s : State) (a : Fin 16) (p : Peer) : (s.setPeer a p).cfe = s.cfe := rfl
@[simp] theorem State.setPeer_rms (s : State) (a : Fin 16) (p : Peer) : (s.setPeer a p).rms = s.rms := rfl
@[simp] theorem State.setPeer_ref (s : State) (a : Fin 16) (p : Peer) : (s.setPeer a p).ref = s.ref := rfl
@[simp] theorem State.setPeer_det (s : State) (a : Fin 16) (p : Peer) : (s.setPeer a p).det = s.det := rfl
@[simp] theorem State.setPeer_cap (s : State) (a : Fin 16) (p : Peer) : (s.setPeer a p).cap = s.cap := rfl
@[simp] theorem State.setPeer_mark (s : State) (a : Fin 16) (p : Peer) : (s.setPeer a p).mark = s.mark := rfl
@[simp] theorem State.setPeer_corr (s : State) (a : Fin 16) (p : Peer) : (s.setPeer a p).corr = s.corr := rfl
@[simp] theorem State.setPeer_store (s : State) (a : Fin 16) (p : Peer) : (s.setPeer a p).store = s.store := rfl
@[simp] theorem State.setPeer_agg (s : State) (a : Fin 16) (p : Peer) : (s.setPeer a p).agg = s.agg := rfl
@[simp] theorem State.setPeer_port (s : State) (a : Fin 16) (p : Peer) : (s.setPeer a p).port = s.port := rfl
@[simp] theorem State.setPeer_ctl (s : State) (a : Fin 16) (p : Peer) : (s.setPeer a p).ctl = s.ctl := rfl
@[simp] theorem State.setPeer_free (s : State) (a : Fin 16) (p : Peer) : (s.setPeer a p).free = s.free := rfl
@[simp] theorem State.setPeer_pending (s : State) (a : Fin 16) (p : Peer) : (s.setPeer a p).pending = s.pending := rfl

@[simp] theorem State.reportEnd_time (s : State) : (s.reportEnd).time = s.time := rfl
@[simp] theorem State.reportEnd_cfe (s : State) : (s.reportEnd).cfe = s.cfe := rfl
@[simp] theorem State.reportEnd_rms (s : State) : (s.reportEnd).rms = s.rms := rfl
@[simp] theorem State.reportEnd_det (s : State) : (s.reportEnd).det = s.det := rfl
@[simp] theorem State.reportEnd_cap (s : State) : (s.reportEnd).cap = s.cap := rfl
@[simp] theorem State.reportEnd_mark (s : State) : (s.reportEnd).mark = s.mark := rfl
@[simp] theorem State.reportEnd_link (s : State) : (s.reportEnd).link = s.link := rfl
@[simp] theorem State.reportEnd_corr (s : State) : (s.reportEnd).corr = s.corr := rfl
@[simp] theorem State.reportEnd_store (s : State) : (s.reportEnd).store = s.store := rfl
@[simp] theorem State.reportEnd_agg (s : State) : (s.reportEnd).agg = s.agg := rfl
@[simp] theorem State.reportEnd_port (s : State) : (s.reportEnd).port = s.port := rfl
@[simp] theorem State.reportEnd_ctl (s : State) : (s.reportEnd).ctl = s.ctl := rfl
@[simp] theorem State.reportEnd_free (s : State) : (s.reportEnd).free = s.free := rfl
@[simp] theorem State.reportEnd_pending (s : State) : (s.reportEnd).pending = s.pending := rfl

@[simp] theorem State.toWatch_time (s : State) : (s.toWatch).time = s.time := rfl
@[simp] theorem State.toWatch_cfe (s : State) : (s.toWatch).cfe = s.cfe := rfl
@[simp] theorem State.toWatch_rms (s : State) : (s.toWatch).rms = s.rms := rfl
@[simp] theorem State.toWatch_ref (s : State) : (s.toWatch).ref = s.ref := rfl
@[simp] theorem State.toWatch_cap (s : State) : (s.toWatch).cap = s.cap := rfl
@[simp] theorem State.toWatch_mark (s : State) : (s.toWatch).mark = s.mark := rfl
@[simp] theorem State.toWatch_link (s : State) : (s.toWatch).link = s.link := rfl
@[simp] theorem State.toWatch_corr (s : State) : (s.toWatch).corr = s.corr := rfl
@[simp] theorem State.toWatch_store (s : State) : (s.toWatch).store = s.store := rfl
@[simp] theorem State.toWatch_agg (s : State) : (s.toWatch).agg = s.agg := rfl
@[simp] theorem State.toWatch_port (s : State) : (s.toWatch).port = s.port := rfl
@[simp] theorem State.toWatch_ctl (s : State) : (s.toWatch).ctl = s.ctl := rfl
@[simp] theorem State.toWatch_free (s : State) : (s.toWatch).free = s.free := rfl
@[simp] theorem State.toWatch_pending (s : State) : (s.toWatch).pending = s.pending := rfl

@[simp] theorem State.answer_time (s : State) (st : Status) (p : List Byte) : (s.answer st p).time = s.time := rfl
@[simp] theorem State.answer_cfe (s : State) (st : Status) (p : List Byte) : (s.answer st p).cfe = s.cfe := rfl
@[simp] theorem State.answer_rms (s : State) (st : Status) (p : List Byte) : (s.answer st p).rms = s.rms := rfl
@[simp] theorem State.answer_ref (s : State) (st : Status) (p : List Byte) : (s.answer st p).ref = s.ref := rfl
@[simp] theorem State.answer_det (s : State) (st : Status) (p : List Byte) : (s.answer st p).det = s.det := rfl
@[simp] theorem State.answer_cap (s : State) (st : Status) (p : List Byte) : (s.answer st p).cap = s.cap := rfl
@[simp] theorem State.answer_mark (s : State) (st : Status) (p : List Byte) : (s.answer st p).mark = s.mark := rfl
@[simp] theorem State.answer_link (s : State) (st : Status) (p : List Byte) : (s.answer st p).link = s.link := rfl
@[simp] theorem State.answer_corr (s : State) (st : Status) (p : List Byte) : (s.answer st p).corr = s.corr := rfl
@[simp] theorem State.answer_store (s : State) (st : Status) (p : List Byte) : (s.answer st p).store = s.store := rfl
@[simp] theorem State.answer_agg (s : State) (st : Status) (p : List Byte) : (s.answer st p).agg = s.agg := rfl
@[simp] theorem State.answer_ctl (s : State) (st : Status) (p : List Byte) : (s.answer st p).ctl = s.ctl := rfl
@[simp] theorem State.answer_free (s : State) (st : Status) (p : List Byte) : (s.answer st p).free = s.free := rfl
@[simp] theorem State.answer_pending (s : State) (st : Status) (p : List Byte) : (s.answer st p).pending = s.pending := rfl

/-! What they write. -/

/-- A raised cause holds the detail of this occurrence; every other cause is as before (R189). -/
theorem State.raise_causes (s : State) (c : Cause) (n : Nat) (b : Fin 13) :
    (s.raise c n).ctl.causes[b] = if b = c.bit then ⟨true, n, c.ext⟩ else s.ctl.causes[b] := by
  simp only [State.raise, State.withCtl_ctl, Fin.getElem_fin]
  rw [Vector.getElem_set]
  by_cases h : b = c.bit
  · simp [h]
  · have h' : ¬ (c.bit.val = b.val) := fun e => h (Fin.ext e.symm)
    simp [h, h']

@[simp] theorem State.raise_ctl_state (s : State) (c : Cause) (n : Nat) :
    (s.raise c n).ctl.state = s.ctl.state := rfl
@[simp] theorem State.raise_ctl_straps (s : State) (c : Cause) (n : Nat) :
    (s.raise c n).ctl.straps = s.ctl.straps := rfl
@[simp] theorem State.raise_ctl_items (s : State) (c : Cause) (n : Nat) :
    (s.raise c n).ctl.items = s.ctl.items := rfl
@[simp] theorem State.raise_ctl_presentExpiry (s : State) (c : Cause) (n : Nat) :
    (s.raise c n).ctl.presentExpiry = s.ctl.presentExpiry := rfl

/-- ATTN after a raise is what the new cause set and the mask give (R191). -/
theorem State.raise_attn (s : State) (c : Cause) (n : Nat) :
    (s.raise c n).ctl.attn = attnOf (s.raise c n).ctl.causes (s.raise c n).attnMask := rfl

/-- ATTN as an existence over the causes (R191). -/
theorem attnOf_eq_true_iff (causes : Vector CauseEntry 13) (mask : Nat) :
    attnOf causes mask = true ↔ ∃ b : Fin 13, causes[b].isSet = true ∧
      (b.val < 8 ∨ mask.testBit (b.val - 8) = false) := by
  simp [attnOf, assertsAttn, List.any_eq_true]

/-- A write to the records with an id (R148). -/
theorem State.editRecord_queue (s : State) (id : Nat) (f : Record → Record) :
    (s.editRecord id f).store.queue = s.store.queue.map fun r => if r.id = id then f r else r := rfl

@[simp] theorem State.editRecord_length (s : State) (id : Nat) (f : Record → Record) :
    (s.editRecord id f).store.queue.length = s.store.queue.length := by
  simp [State.editRecord_queue]

@[simp] theorem State.editRecord_nextId (s : State) (id : Nat) (f : Record → Record) :
    (s.editRecord id f).store.nextId = s.store.nextId := rfl
@[simp] theorem State.editRecord_tally (s : State) (id : Nat) (f : Record → Record) :
    (s.editRecord id f).store.tally = s.store.tally := rfl
@[simp] theorem State.editRecord_view (s : State) (id : Nat) (f : Record → Record) :
    (s.editRecord id f).store.view = s.store.view := rfl
@[simp] theorem State.editRecord_startTime (s : State) (id : Nat) (f : Record → Record) :
    (s.editRecord id f).store.startTime = s.store.startTime := rfl
@[simp] theorem State.editRecord_frozenBase (s : State) (id : Nat) (f : Record → Record) :
    (s.editRecord id f).store.frozenBase = s.store.frozenBase := rfl

/-- A creation appends one record with the next id, and consumes that id (R144, R145). -/
theorem State.addRecord_store (s : State) (r : Record) (t : Ms) :
    (s.addRecord r t).store = { s.store with
      queue := s.store.queue ++ [{ r with
        id := s.store.nextId, isOpen := true, anchorOpen := false, time := s.recordTime t }]
      nextId := nextRecordId s.store.nextId } := by
  simp only [State.addRecord]
  split <;> rfl

/-- The next record id stays within 1..65535 (R144). -/
theorem nextRecordId_range (id : Nat) : 1 ≤ nextRecordId id ∧ nextRecordId id ≤ 65535 := by
  unfold nextRecordId; split <;> omega

/-- A judgement of a record closes it and raises RECORD_CLOSED, or changes nothing (R149). -/
theorem State.judge_cases (s : State) (id : Nat) :
    s.judge id = s ∨ ∃ r, s.recordOf id = some r ∧ r.isOpen = true ∧ s.closable r = true ∧
      s.judge id = (s.editRecord id (closedRecord s.store.view)).raise .recordClosed 0 := by
  unfold State.judge
  split
  · exact .inl rfl
  · next r hr =>
    split
    · next h => simp only [Bool.and_eq_true] at h; exact .inr ⟨r, hr, h.1, h.2, rfl⟩
    · exact .inl rfl

/-- Serving offers the response unless superseded, and the pending request enters service
(R172). -/
theorem State.answer_port (s : State) (st : Status) (p : List Byte) :
    (s.answer st p).port = (s.port.offer (responseBytes st p)).serveNext := rfl

/-! Arithmetic. -/

/-- A clamp is the greater of the lower end and the lesser of the upper end and the value. -/
theorem clampInt_eq (lo hi x : Int) (h : lo ≤ hi) : clampInt lo hi x = max lo (min hi x) := by
  unfold clampInt; split
  · omega
  · split <;> omega

/-- A clamped value lies within its range (R3, R35, R181). -/
theorem clampInt_range (lo hi x : Int) (h : lo ≤ hi) :
    lo ≤ clampInt lo hi x ∧ clampInt lo hi x ≤ hi := by
  unfold clampInt; split
  · omega
  · split <;> omega

theorem isqrtLoop_spec (n : Nat) : ∀ (b r : Nat), r * r ≤ n → n < (r + 2 ^ b) * (r + 2 ^ b) →
    isqrtLoop n b r * isqrtLoop n b r ≤ n ∧ n < (isqrtLoop n b r + 1) * (isqrtLoop n b r + 1) := by
  intro b
  induction b with
  | zero => intro r h1 h2; simpa [isqrtLoop] using ⟨h1, h2⟩
  | succ b ih =>
    intro r h1 h2
    unfold isqrtLoop
    have e : r + 2 ^ (b + 1) = r + 2 ^ b + 2 ^ b := by rw [pow_succ]; ring
    rw [e] at h2
    split
    · next h => exact ih _ h h2
    · next h => exact ih _ h1 (by omega)

/-- The integer square root is exact (ch. 0 "Numbers and arithmetic"). -/
theorem isqrt_spec (n : Nat) : isqrt n * isqrt n ≤ n ∧ n < (isqrt n + 1) * (isqrt n + 1) := by
  apply isqrtLoop_spec
  · simp
  · have h1 : n < 2 ^ (n.log2 + 1) := Nat.lt_log2_self
    have h2 : 2 ^ (n.log2 + 1) ≤ 2 ^ ((n.log2 / 2 + 1) + (n.log2 / 2 + 1)) :=
      Nat.pow_le_pow_right (by decide) (by omega)
    rw [pow_add 2 (n.log2 / 2 + 1)] at h2
    simpa only [isqrtLoop, Nat.zero_add] using lt_of_lt_of_le h1 h2

/-! Buffers. -/

/-- A ring position reads the sample of the position just written, and every other one as before
(R5). -/
theorem FrontEnd.writeRings_read (c : FrontEnd) (q : Fin 11) (p : Fin 640) :
    c.writeRings.rings[q][p] = if p = c.pos then c.sample q else c.rings[q][p] := by
  simp only [FrontEnd.writeRings, Fin.getElem_fin, Vector.getElem_ofFn]
  rw [Vector.getElem_set]
  by_cases h : p = c.pos
  · simp [h]
  · have h' : ¬ (c.pos.val = p.val) := fun e => h (Fin.ext e.symm)
    simp [h, h']

/-- A number in `n` bytes has `n` bytes. -/
@[simp] theorem bigEndian_length (n x : Nat) : (bigEndian n x).length = n := by
  induction n with
  | zero => rfl
  | succ n ih => simp [bigEndian, ih]

@[simp] theorem signedBytes_length (n : Nat) (x : Int) : (signedBytes n x).length = n := by
  simp [signedBytes]

/-! Moving the clock leaves what the operations read of the blocks as it was. -/

@[simp] theorem State.elapse_declared (s : State) (t : Nat) : (s.elapse t).declared = s.declared := rfl
@[simp] theorem State.elapse_sliding (s : State) (t : Nat) : (s.elapse t).sliding = s.sliding := rfl
@[simp] theorem State.elapse_motionBand (s : State) (t : Nat) : (s.elapse t).motionBand = s.motionBand := rfl
@[simp] theorem State.elapse_uDeadband (s : State) (t : Nat) : (s.elapse t).uDeadband = s.uDeadband := rfl
@[simp] theorem State.elapse_iDeadband (s : State) (t : Nat) : (s.elapse t).iDeadband = s.iDeadband := rfl
@[simp] theorem State.elapse_maxOpen (s : State) (t : Nat) : (s.elapse t).maxOpen = s.maxOpen := rfl
@[simp] theorem State.elapse_window (s : State) (t : Nat) : (s.elapse t).window = s.window := rfl
@[simp] theorem State.elapse_markJoin (s : State) (t : Nat) : (s.elapse t).markJoin = s.markJoin := rfl
@[simp] theorem State.elapse_timeBase (s : State) (t : Nat) : (s.elapse t).timeBase = s.timeBase := rfl
@[simp] theorem State.elapse_stationBase (s : State) (t : Nat) : (s.elapse t).stationBase = s.stationBase := rfl

/-- Before the first START the base of station time is the configured one (R176). -/
theorem State.stationBase_of_none {s : State} (h : s.store.frozenBase = none) :
    s.stationBase = s.timeBase := by rw [State.stationBase, h]; rfl

/-- From a START on the base of station time is the one that START froze (R146). -/
theorem State.stationBase_of_some {s : State} {b : Nat} (h : s.store.frozenBase = some b) :
    s.stationBase = b := by rw [State.stationBase, h]; rfl

@[simp] theorem State.elapse_attnMask (s : State) (t : Nat) : (s.elapse t).attnMask = s.attnMask := rfl
@[simp] theorem State.elapse_hasRoom (s : State) (t : Nat) : (s.elapse t).hasRoom = s.hasRoom := rfl
@[simp] theorem State.elapse_nextRefresh (s : State) (t : Nat) : (s.elapse t).nextRefresh = s.nextRefresh := rfl
@[simp] theorem State.elapse_newestMeasure (s : State) (t : Nat) : (s.elapse t).newestMeasure = s.newestMeasure := rfl
@[simp] theorem State.elapse_item (s : State) (t : Nat) (i : Fin 30) : (s.elapse t).item i = s.item i := rfl
@[simp] theorem State.elapse_recordOf (s : State) (t id : Nat) : (s.elapse t).recordOf id = s.recordOf id := rfl
@[simp] theorem State.elapse_entry (s : State) (t : Nat) (i : RefIndex) : (s.elapse t).entry i = s.entry i := rfl
@[simp] theorem State.elapse_setFor (s : State) (t : Nat) (m : RefIndex) (k : Fin 3) :
    (s.elapse t).setFor m k = s.setFor m k := rfl
@[simp] theorem State.elapse_judgeConds (s : State) (t : Nat) (e : Refresh) :
    (s.elapse t).judgeConds e = s.judgeConds e := rfl
@[simp] theorem State.elapse_preValues (s : State) (t : Nat) (n : RefIndex) :
    (s.elapse t).preValues n = s.preValues n := rfl

/-! The line of NOTICE as falling edges and a frame's end show it (R100). -/

@[simp] theorem NoticeLink.seeEdge_highFrom (l : NoticeLink) (edge : Nat) (e : EdgeSample) :
    (l.seeEdge edge e).highFrom = some (edge + riseAfter e) := rfl
@[simp] theorem NoticeLink.seeEdge_lastStop_start (l : NoticeLink) (edge : Nat) (b : Byte) :
    (l.seeEdge edge (.start b)).lastStop = if l.onLine then edge + 800 else l.lastStop := rfl
@[simp] theorem NoticeLink.seeEdge_lastStop_broken (l : NoticeLink) (edge d : Nat) (b : Byte) :
    (l.seeEdge edge (.broken b d)).lastStop = if l.onLine then edge + 800 else l.lastStop := rfl
@[simp] theorem NoticeLink.seeEdge_lastStop_glitch (l : NoticeLink) (edge d : Nat) :
    (l.seeEdge edge (.glitch d)).lastStop = l.lastStop := rfl

/-- An edge is seen in the two fields of the line alone. -/
theorem NoticeLink.seeEdge_eq (l : NoticeLink) (edge : Nat) (e : EdgeSample) :
    l.seeEdge edge e = { l with
      highFrom := some (edge + riseAfter e), lastStop := (l.seeEdge edge e).lastStop } := rfl

/-- After an edge the line is idle from the later of the last stop bit's end and its last rise. -/
theorem NoticeLink.seeEdge_idleFrom (l : NoticeLink) (edge : Nat) (e : EdgeSample) :
    (l.seeEdge edge e).idleFrom = some (max (l.seeEdge edge e).lastStop (edge + riseAfter e)) := rfl

/-- A station that neither sends nor receives, and waits for no stop bit, finds the line idle from
its last rise after any edge (R100). -/
theorem NoticeLink.seeEdge_idleFrom_offLine (l : NoticeLink) (edge : Nat) (e : EdgeSample)
    (h : l.onLine = false) (hs : l.lastStop ≤ edge) :
    (l.seeEdge edge e).idleFrom = some (edge + riseAfter e) := by
  rw [NoticeLink.seeEdge_idleFrom]
  cases e <;> simp [h] <;> omega

@[simp] theorem NoticeLink.leaveByte_onLine (l : NoticeLink) (time : Nat) :
    (l.leaveByte time).onLine = l.onLine := rfl

/-- The end of sending or receiving touches the stop bit awaited alone. -/
theorem NoticeLink.leaveByte_eq (l : NoticeLink) (time : Nat) :
    l.leaveByte time = { l with lastStop := (l.leaveByte time).lastStop } := rfl

/-- After it, a station that does neither waits for no stop bit (R100). -/
theorem NoticeLink.leaveByte_awaitsNone (l : NoticeLink) (time : Nat) (h : l.onLine = false) :
    (l.leaveByte time).lastStop ≤ time := by
  simp only [NoticeLink.leaveByte, h, Bool.false_eq_true, if_false]
  omega

/-- A station that still sends or receives goes on waiting. -/
theorem NoticeLink.leaveByte_of_onLine (l : NoticeLink) (time : Nat) (h : l.onLine = true) :
    l.leaveByte time = l := by
  simp only [NoticeLink.leaveByte, h, if_true]

/-- After a whole frame sent the line has been idle from its last stop bit's end on, or from a later
rise of the line (R100, R109). -/
theorem NoticeLink.seeFrameEnd_idleFrom (l : NoticeLink) (fin : Nat) :
    (l.seeFrameEnd fin).idleFrom = some (max (max l.lastStop fin) (l.highFrom.getD fin)) := rfl

/-- An attempt has run for `ticks` where they have passed since its start. -/
theorem NoticeLink.sentFor_iff (l : NoticeLink) (time ticks : Nat) :
    l.sentFor time ticks = true ↔ l.txStart + ticks ≤ time := decide_eq_true_iff

/-- The last rise in a byte comes at the stop bit at the latest. -/
theorem riseAfter_start_le (b : Byte) : riseAfter (.start b) ≤ 720 := by
  simp only [riseAfter, Config.ticksPerBit]
  omega

/-! A part of a stop applied where its phase has it. -/

@[simp] theorem State.when_true (s : State) (f : State → State) : s.when true f = f s := rfl
@[simp] theorem State.when_false (s : State) (f : State → State) : s.when false f = s := rfl

/-- A property that `f` keeps is kept by `f` where `c`. -/
theorem State.when_keeps {P : State → Prop} (s : State) (c : Bool) (f : State → State)
    (hs : P s) (hf : P (f s)) : P (s.when c f) := by
  cases c
  · exact hs
  · exact hf

end Sys2Proof.Machine
end

