-- ==== Sys2Proof/Laws/Frames.lean ====
section
/-! SUPPORT. Frames: which blocks each shared operation of several blocks can change. -/

namespace Sys2Proof.Machine

theorem onlyChanges_refl (bs : List Block) (s : State) : onlyChanges bs s s :=
  ⟨fun b _ => by cases b <;> rfl, rfl⟩

theorem onlyChanges_trans {bs : List Block} {s t u : State} (h : onlyChanges bs s t)
    (h' : onlyChanges bs t u) : onlyChanges bs s u := by
  refine ⟨fun b hb => ?_, h'.2.trans h.2⟩
  have h1 := h.1 b hb
  have h2 := h'.1 b hb
  cases b <;> exact h2.trans h1

theorem onlyChanges_mono {bs cs : List Block} {s t : State} (h : onlyChanges bs s t)
    (hsub : ∀ b ∈ bs, b ∈ cs) : onlyChanges cs s t :=
  ⟨fun b hb => h.1 b fun hm => hb (hsub b hm), h.2⟩

/-- What each step of a fold keeps, the fold keeps. -/
theorem onlyChanges_foldl {α : Type} {bs : List Block} (f : State → α → State)
    (h : ∀ s a, onlyChanges bs s (f s a)) (l : List α) (s : State) :
    onlyChanges bs s (l.foldl f s) := by
  induction l generalizing s with
  | nil => exact onlyChanges_refl bs s
  | cons a l ih => exact onlyChanges_trans (h s a) (ih (f s a))

theorem State.elapse_onlyChanges (s : State) (t : Nat) : onlyChanges [] s (s.elapse t) :=
  ⟨fun b _ => by cases b <;> rfl, rfl⟩
theorem State.withRef_onlyChanges (s : State) (x : RefTracker) : onlyChanges [.ref] s (s.withRef x) :=
  ⟨fun b hb => by cases b <;> simp_all [Block.same], rfl⟩
theorem State.withDet_onlyChanges (s : State) (x : Detector) : onlyChanges [.det] s (s.withDet x) :=
  ⟨fun b hb => by cases b <;> simp_all [Block.same], rfl⟩
theorem State.withCap_onlyChanges (s : State) (x : CaptureUnit) :
    onlyChanges [.cap] s (s.withCap x) :=
  ⟨fun b hb => by cases b <;> simp_all [Block.same], rfl⟩
theorem State.withMark_onlyChanges (s : State) (x : MarkLine) :
    onlyChanges [.mark] s (s.withMark x) :=
  ⟨fun b hb => by cases b <;> simp_all [Block.same], rfl⟩
theorem State.withLink_onlyChanges (s : State) (x : NoticeLink) :
    onlyChanges [.link] s (s.withLink x) :=
  ⟨fun b hb => by cases b <;> simp_all [Block.same], rfl⟩
theorem State.withCorr_onlyChanges (s : State) (x : Correlation) :
    onlyChanges [.corr] s (s.withCorr x) :=
  ⟨fun b hb => by cases b <;> simp_all [Block.same], rfl⟩
theorem State.withStore_onlyChanges (s : State) (x : RecordStore) :
    onlyChanges [.store] s (s.withStore x) :=
  ⟨fun b hb => by cases b <;> simp_all [Block.same], rfl⟩
theorem State.withAgg_onlyChanges (s : State) (x : Aggregator) : onlyChanges [.agg] s (s.withAgg x) :=
  ⟨fun b hb => by cases b <;> simp_all [Block.same], rfl⟩
theorem State.withPort_onlyChanges (s : State) (x : RecordPort) :
    onlyChanges [.port] s (s.withPort x) :=
  ⟨fun b hb => by cases b <;> simp_all [Block.same], rfl⟩
theorem State.withCtl_onlyChanges (s : State) (x : Controller) : onlyChanges [.ctl] s (s.withCtl x) :=
  ⟨fun b hb => by cases b <;> simp_all [Block.same], rfl⟩

theorem State.raise_onlyChanges (s : State) (c : Cause) (n : Nat) :
    onlyChanges [.ctl] s (s.raise c n) := s.withCtl_onlyChanges _

theorem State.editRecord_onlyChanges (s : State) (id : Nat) (f : Record → Record) :
    onlyChanges [.store] s (s.editRecord id f) := s.withStore_onlyChanges _

theorem State.writeWave_onlyChanges (s : State) (id : Nat) (w : WavePart) :
    onlyChanges [.store] s (s.writeWave id w) := s.withStore_onlyChanges _

theorem State.handToTally_onlyChanges (s : State) (c : RecordClass) (r m d : Nat) :
    onlyChanges [.store] s (s.handToTally c r m d) := s.withStore_onlyChanges _

theorem State.setSlot_onlyChanges (s : State) (k : Fin 8) (x : Slot) :
    onlyChanges [.cap] s (s.setSlot k x) := s.withCap_onlyChanges _

/-- A creation changes the store, and the controller by STORE_FULL (R145). -/
theorem State.addRecord_onlyChanges (s : State) (r : Record) (t : Ms) :
    onlyChanges [.store, .ctl] s (s.addRecord r t) := by
  simp only [State.addRecord]
  split
  · exact onlyChanges_trans (onlyChanges_mono (s.withStore_onlyChanges _) (by simp))
      (onlyChanges_mono (State.raise_onlyChanges _ _ _) (by simp))
  · exact onlyChanges_mono (s.withStore_onlyChanges _) (by simp)

/-- A judgement changes the store, and the controller by RECORD_CLOSED (R149). -/
theorem State.judge_onlyChanges (s : State) (id : Nat) :
    onlyChanges [.store, .ctl] s (s.judge id) := by
  rcases s.judge_cases id with h | ⟨r, -, -, -, h⟩ <;> rw [h]
  · exact onlyChanges_refl _ _
  · exact onlyChanges_trans (onlyChanges_mono (s.editRecord_onlyChanges _ _) (by simp))
      (onlyChanges_mono (State.raise_onlyChanges _ _ _) (by simp))

theorem State.judgeAll_onlyChanges (s : State) (ids : List Nat) :
    onlyChanges [.store, .ctl] s (s.judgeAll ids) :=
  onlyChanges_foldl _ State.judge_onlyChanges ids s

/-- The loss of a slot's holders writes the records and the slot (R79). -/
theorem State.loseHolders_onlyChanges (s : State) (k : Fin 8) :
    onlyChanges [.cap, .store, .ctl] s (s.loseHolders k) :=
  onlyChanges_trans (onlyChanges_mono (s.withStore_onlyChanges _) (by simp))
    (onlyChanges_mono (State.setSlot_onlyChanges _ _ _) (by simp))

theorem State.stopFill_onlyChanges (s : State) : onlyChanges [.cap, .store, .ctl] s s.stopFill := by
  unfold State.stopFill
  split
  · exact onlyChanges_refl _ _
  · exact onlyChanges_trans (onlyChanges_mono (s.setSlot_onlyChanges _ _) (by simp))
      (onlyChanges_mono (State.judgeAll_onlyChanges _ _) (by simp))

theorem State.spoilSlot_onlyChanges (s : State) (k : Fin 8) (e : Option Ms) :
    onlyChanges [.cap, .store, .ctl] s (s.spoilSlot k e) := by
  unfold State.spoilSlot
  split
  · exact onlyChanges_trans (s.loseHolders_onlyChanges k)
      (onlyChanges_trans (onlyChanges_mono (State.setSlot_onlyChanges _ _ _) (by simp))
        (onlyChanges_mono (State.judgeAll_onlyChanges _ _) (by simp)))
  · exact onlyChanges_refl _ _

/-- A memory check error changes the capture unit, the store and the causes (R79, R81, R82). -/
theorem State.memoryError_onlyChanges (s : State) (k : Fin 8) :
    onlyChanges [.cap, .store, .ctl] s (s.memoryError k) := by
  have hr : ∀ (u : State) (c : Cause) (n : Nat), onlyChanges [.cap, .store, .ctl] u (u.raise c n) :=
    fun u c n => onlyChanges_mono (u.raise_onlyChanges c n) (by simp)
  unfold State.memoryError
  split
  · exact onlyChanges_trans (hr _ _ _) (State.spoilSlot_onlyChanges _ _ _)
  · split
    · exact onlyChanges_trans (hr _ _ _) <| onlyChanges_trans (hr _ _ _) <|
        onlyChanges_trans (State.spoilSlot_onlyChanges _ _ _) <|
        onlyChanges_trans (onlyChanges_mono (State.withCap_onlyChanges _ _) (by simp)) <|
        onlyChanges_trans (onlyChanges_mono (State.withCap_onlyChanges _ _) (by simp))
          (State.stopFill_onlyChanges _)
    · exact onlyChanges_trans (hr _ _ _) (State.spoilSlot_onlyChanges _ _ _)

theorem State.copyPosition_onlyChanges (s : State) (k : Fin 8) (j : Nat) (hc : HalfCycle)
    (fails : Bool) : onlyChanges [.cap, .store, .ctl] s (s.copyPosition k j hc fails) := by
  unfold State.copyPosition
  split
  · have h := onlyChanges_mono (cs := [.cap, .store, .ctl])
      (s.setSlot_onlyChanges k (s.cap.slots[k].put j hc)) (by simp)
    split
    · exact onlyChanges_trans h (State.memoryError_onlyChanges _ _)
    · exact h
  · exact onlyChanges_refl _ _

theorem State.openSlot_onlyChanges (s : State) (k : Fin 8) (id : Nat) (a newest : RefIndex)
    (failed : Option (Fin 9)) :
    onlyChanges [.cap, .store, .ctl] s (s.openSlot k id a newest failed) :=
  onlyChanges_trans (onlyChanges_mono (s.setSlot_onlyChanges _ _) (by simp)) <|
  onlyChanges_trans (onlyChanges_mono (State.writeWave_onlyChanges _ _ _) (by simp)) <|
  onlyChanges_foldl _ (fun u _ => u.copyPosition_onlyChanges _ _ _ _) _ _

/-- A capture request changes the capture unit and the record, and the causes where a copy fails
its check (R71, R78). -/
theorem State.captureRequest_onlyChanges (s : State) (id : Nat) (a : RefIndex)
    (failed : Option (Fin 9)) :
    onlyChanges [.cap, .store, .ctl] s (s.captureRequest id a failed) := by
  have hw : ∀ (u : State) (w : WavePart), onlyChanges [.cap, .store, .ctl] u (u.writeWave id w) :=
    fun u w => onlyChanges_mono (u.writeWave_onlyChanges id w) (by simp)
  simp only [State.captureRequest]
  split
  · exact hw _ _
  · split
    · exact hw _ _
    · split
      · split
        · exact onlyChanges_trans (onlyChanges_mono (s.setSlot_onlyChanges _ _) (by simp)) (hw _ _)
        · exact hw _ _
      · split
        · exact s.openSlot_onlyChanges _ _ _ _ _
        · exact hw _ _

/-- A drop report writes UNSENT into contexts and a record (R132). -/
theorem State.dropReport_onlyChanges (s : State) (edge : Ms) (id : Nat) :
    onlyChanges [.corr, .store] s (s.dropReport edge id) := by
  simp only [State.dropReport]
  split
  · exact onlyChanges_mono (s.withCorr_onlyChanges _) (by simp)
  · exact onlyChanges_trans (onlyChanges_mono (s.withCorr_onlyChanges _) (by simp))
      (onlyChanges_mono (State.editRecord_onlyChanges _ _ _) (by simp))

theorem State.reportFrame_onlyChanges (s : State) (f : QueuedFrame) :
    onlyChanges [.corr, .store] s (s.reportFrame f) := by
  unfold State.reportFrame
  split
  · exact onlyChanges_refl _ _
  · split
    · exact onlyChanges_refl _ _
    · exact s.dropReport_onlyChanges _ _

theorem State.reportQueue_onlyChanges (s : State) : onlyChanges [.corr, .store] s s.reportQueue :=
  onlyChanges_foldl _ State.reportFrame_onlyChanges _ s

/-- A VERDICT handed over changes the queue, or is reported dropped (R104). -/
theorem State.handVerdict_onlyChanges (s : State) (v : QueuedVerdict) :
    onlyChanges [.link, .corr, .store] s (s.handVerdict v) := by
  have hd := onlyChanges_mono (cs := [.link, .corr, .store])
    (s.dropReport_onlyChanges v.edge v.recordId) (by simp)
  have hl : ∀ x, onlyChanges [.link, .corr, .store] s (s.withLink x) :=
    fun x => onlyChanges_mono (s.withLink_onlyChanges x) (by simp)
  unfold State.handVerdict
  split
  · exact hd
  · split
    · exact hl _
    · split
      · exact hl _
      · exact hd

/-! The readers of a refresh, and the parts of a stop. -/

/-- `f` where `c` changes no more than `f` does. -/
theorem State.when_onlyChanges {bs : List Block} (s : State) (c : Bool) (f : State → State)
    (h : ∀ u, onlyChanges bs u (f u)) : onlyChanges bs s (s.when c f) := by
  cases c
  · exact onlyChanges_refl bs s
  · exact h s

theorem State.enterHalted_onlyChanges (s : State) : onlyChanges [.ctl] s s.enterHalted :=
  onlyChanges_trans (s.raise_onlyChanges _ _) (State.withCtl_onlyChanges _ _)

theorem State.storeTakes_onlyChanges (s : State) (view : StationState) :
    onlyChanges [.store] s (s.storeTakes view) := s.withStore_onlyChanges _

theorem State.trackerTakes_onlyChanges (s : State) : onlyChanges [.ref] s s.trackerTakes := by
  unfold State.trackerTakes
  split
  · exact onlyChanges_refl _ _
  · exact s.withRef_onlyChanges _

theorem State.trackerTakesReport_onlyChanges (s : State) :
    onlyChanges [.ref] s s.trackerTakesReport := by
  unfold State.trackerTakesReport
  split
  · exact onlyChanges_refl _ _
  · exact s.withRef_onlyChanges _

theorem State.aggregatorTakes_onlyChanges (s : State) :
    onlyChanges [.agg] s s.aggregatorTakes := by
  unfold State.aggregatorTakes
  split
  · exact onlyChanges_refl _ _
  · exact s.withAgg_onlyChanges _

/-- An own verdict is written to its context and its record, and handed to the link (R131). -/
theorem State.judgeContext_onlyChanges (s : State) (e : Refresh) (k : Fin 4) :
    onlyChanges [.link, .corr, .store] s (s.judgeContext e k) := by
  simp only [State.judgeContext]
  split
  · exact onlyChanges_refl _ _
  · have hv : ∀ (f : Context → Context) (v : QueuedVerdict),
        onlyChanges [.link, .corr, .store] s ((s.editContext k f).handVerdict v) := fun f v =>
      onlyChanges_trans (onlyChanges_mono (s.withCorr_onlyChanges _) (by simp))
        ((s.editContext k f).handVerdict_onlyChanges v)
    split
    · exact hv _ _
    · exact onlyChanges_trans (hv _ _)
        (onlyChanges_mono (State.editRecord_onlyChanges _ _ _) (by simp))

theorem State.correlationTakes_onlyChanges (s : State) :
    onlyChanges [.link, .corr, .store] s s.correlationTakes := by
  unfold State.correlationTakes
  split
  · exact onlyChanges_refl _ _
  · exact onlyChanges_trans (onlyChanges_mono (s.withCorr_onlyChanges _) (by simp))
      (onlyChanges_foldl _ (fun u k => u.judgeContext_onlyChanges _ k) _ _)

end Sys2Proof.Machine
end

