-- ==== Sys2Proof/Laws/PerInstr.lean ====
section
/-! SUPPORT. Statements about each command as syntax: the check of WellFormed.lean is the spec's
condition on its operands. -/

namespace Sys2Proof.Laws.WellFormed

/-- The condition the spec sets on a command's operands: a request code other than 0x00 and a read
frame of one byte at least (R169), a glitch that has risen by the middle of its bit, 40 ticks
after its edge, a low stop bit that is low at its middle, 760 ticks after the edge (R100,
R111). -/
def Admitted : Instr → Prop
  | .requestBegin _ code => code ≠ 0
  | .readFrame _ count => 1 ≤ count
  | .noticeFallingEdge _ (.glitch d) => d ≤ 40
  | .noticeFallingEdge _ (.broken _ d) => 760 < d
  | _ => True

/-- The check admits exactly what the spec admits. -/
def Statement (i : Instr) : Prop := i.wf = true ↔ Admitted i

theorem pinReset (straps : Straps) (markLow : Bool) (pselLow : Bool) :
    Statement (.pinReset straps markLow pselLow) := ⟨fun _ => trivial, fun _ => rfl⟩
theorem takeResult (t : Nat) (ch : Fin 8) (code : BitVec 16) :
    Statement (.takeResult t ch code) := ⟨fun _ => trivial, fun _ => rfl⟩
theorem positionClose (checks : CloseChecks) : Statement (.positionClose checks) :=
  ⟨fun _ => trivial, fun _ => rfl⟩
theorem cycleTimeout (t : Nat) :
    Statement (.cycleTimeout t) := ⟨fun _ => trivial, fun _ => rfl⟩
theorem trackerTakesRefresh (t : Nat) :
    Statement (.trackerTakesRefresh t) := ⟨fun _ => trivial, fun _ => rfl⟩
theorem trackerTakesEndReport (t : Nat) :
    Statement (.trackerTakesEndReport t) := ⟨fun _ => trivial, fun _ => rfl⟩
theorem detectorTakesRefresh (t : Nat) (failed : Option (Fin 9)) :
    Statement (.detectorTakesRefresh t failed) := ⟨fun _ => trivial, fun _ => rfl⟩
theorem maxOpenExpiry (t : Nat) :
    Statement (.maxOpenExpiry t) := ⟨fun _ => trivial, fun _ => rfl⟩
theorem correlationTakesRefresh (t : Nat) :
    Statement (.correlationTakesRefresh t) := ⟨fun _ => trivial, fun _ => rfl⟩
theorem aggregatorTakesRefresh (t : Nat) :
    Statement (.aggregatorTakesRefresh t) := ⟨fun _ => trivial, fun _ => rfl⟩
theorem markFallingEdge (t : Nat) (failed : Option (Fin 9)) :
    Statement (.markFallingEdge t failed) := ⟨fun _ => trivial, fun _ => rfl⟩
theorem markRelease (t : Nat) :
    Statement (.markRelease t) := ⟨fun _ => trivial, fun _ => rfl⟩
theorem pulseEnd (t : Nat) : Statement (.pulseEnd t) := ⟨fun _ => trivial, fun _ => rfl⟩
theorem stuckExpiry (t : Nat) :
    Statement (.stuckExpiry t) := ⟨fun _ => trivial, fun _ => rfl⟩
theorem recoveryExpiry (t : Nat) :
    Statement (.recoveryExpiry t) := ⟨fun _ => trivial, fun _ => rfl⟩
theorem presentPeriodExpiry (t : Nat) :
    Statement (.presentPeriodExpiry t) := ⟨fun _ => trivial, fun _ => rfl⟩
theorem attemptStart (t : Nat) :
    Statement (.attemptStart t) := ⟨fun _ => trivial, fun _ => rfl⟩
theorem readbackMismatch (t : Nat) :
    Statement (.readbackMismatch t) := ⟨fun _ => trivial, fun _ => rfl⟩
theorem attemptSuccess (t : Nat) :
    Statement (.attemptSuccess t) := ⟨fun _ => trivial, fun _ => rfl⟩
theorem frameMalformed (t : Nat) (fault : FrameFault) :
    Statement (.frameMalformed t fault) := ⟨fun _ => trivial, fun _ => rfl⟩
theorem frameComplete (t : Nat) :
    Statement (.frameComplete t) := ⟨fun _ => trivial, fun _ => rfl⟩
theorem receiverRecovered (t : Nat) :
    Statement (.receiverRecovered t) := ⟨fun _ => trivial, fun _ => rfl⟩
theorem peerAgingExpiry (t : Nat) (addr : Fin 16) :
    Statement (.peerAgingExpiry t addr) := ⟨fun _ => trivial, fun _ => rfl⟩
theorem contextClose (t : Nat) (slot : Fin 4) :
    Statement (.contextClose t slot) := ⟨fun _ => trivial, fun _ => rfl⟩
theorem scrubComplete (t : Nat) (slot : Fin 8) :
    Statement (.scrubComplete t slot) := ⟨fun _ => trivial, fun _ => rfl⟩
theorem scrubLocationError (t : Nat) (slot : Fin 8) :
    Statement (.scrubLocationError t slot) := ⟨fun _ => trivial, fun _ => rfl⟩
theorem intervalBoundary (t : Nat) :
    Statement (.intervalBoundary t) := ⟨fun _ => trivial, fun _ => rfl⟩
theorem requestBegin (t : Nat) (code : Byte) :
    Statement (.requestBegin t code) := by simp [Statement, Instr.wf, Admitted]
theorem requestTaken (t : Nat) (bytes : List Byte) :
    Statement (.requestTaken t bytes) := ⟨fun _ => trivial, fun _ => rfl⟩
theorem readFrame (t : Nat) (count : Nat) :
    Statement (.readFrame t count) := decide_eq_true_iff
theorem malformedRequest (t : Nat) :
    Statement (.malformedRequest t) := ⟨fun _ => trivial, fun _ => rfl⟩
theorem status (t : Nat) : Statement (.status t) := ⟨fun _ => trivial, fun _ => rfl⟩
theorem live (t : Nat) : Statement (.live t) := ⟨fun _ => trivial, fun _ => rfl⟩
theorem reference (t : Nat) : Statement (.reference t) := ⟨fun _ => trivial, fun _ => rfl⟩
theorem head (t : Nat) : Statement (.head t) := ⟨fun _ => trivial, fun _ => rfl⟩
theorem release (t : Nat) : Statement (.release t) := ⟨fun _ => trivial, fun _ => rfl⟩
theorem wave (t : Nat) (fails : Bool) :
    Statement (.wave t fails) := ⟨fun _ => trivial, fun _ => rfl⟩
theorem interval (t : Nat) : Statement (.interval t) := ⟨fun _ => trivial, fun _ => rfl⟩
theorem tally (t : Nat) : Statement (.tally t) := ⟨fun _ => trivial, fun _ => rfl⟩
theorem causes (t : Nat) : Statement (.causes t) := ⟨fun _ => trivial, fun _ => rfl⟩
theorem peers (t : Nat) : Statement (.peers t) := ⟨fun _ => trivial, fun _ => rfl⟩
theorem set (t : Nat) : Statement (.set t) := ⟨fun _ => trivial, fun _ => rfl⟩
theorem get (t : Nat) : Statement (.get t) := ⟨fun _ => trivial, fun _ => rfl⟩
theorem start (t : Nat) : Statement (.start t) := ⟨fun _ => trivial, fun _ => rfl⟩
theorem restart (t : Nat) (markLow : Bool) :
    Statement (.restart t markLow) := ⟨fun _ => trivial, fun _ => rfl⟩
theorem linkReset (t : Nat) (markLow : Bool) :
    Statement (.linkReset t markLow) := ⟨fun _ => trivial, fun _ => rfl⟩
theorem noticeFallingEdge (t : Nat) (sample : EdgeSample) :
    Statement (.noticeFallingEdge t sample) := by
  cases sample with
  | glitch d => exact decide_eq_true_iff
  | start b => exact ⟨fun _ => trivial, fun _ => rfl⟩
  | broken b d => exact decide_eq_true_iff
theorem ignoredPeriodEnd (t : Nat) :
    Statement (.ignoredPeriodEnd t) := ⟨fun _ => trivial, fun _ => rfl⟩

end Sys2Proof.Laws.WellFormed
end

