-- ==== Sys2Proof/Tests/Slice0.lean ====
section
/-! SUPPORT. Tests: what well-formedness refuses, the manual's worked examples on single steps, and
for each obligation with hypotheses a state and operands that meet them all. -/

namespace Sys2Proof.Tests

set_option Elab.async false

open Sys2Proof Sys2Proof.Machine

/-! Small states. -/

/-- The next state of an outcome, for reading one field of it. -/
def after (o : Host.Outcome State Fault Refusal) : State :=
  match o with
  | .next s => s
  | _ => State.reset

/-- A refresh with the value `d` in every quantity and clear flags. -/
def flat (i : RefIndex) (ms : Ms) (d : Nat) (det : DetState) : Refresh :=
  ⟨i, ms, Vector.replicate 11 d, Vector.replicate 11 false, false, det⟩

/-- A station in RUN, started at 0 ms, with its PRESENT queued. -/
def running : State := State.reset.takeStart

/-- `s` serving a request. -/
def serving (r : Request) (s : State) : State := s.withPort { s.port with inService := some r }

/-- `s` with items replaced. -/
def withItem (i : Fin 30) (x : Int) (s : State) : State :=
  s.withCtl { s.ctl with items := s.ctl.items.set i x }

/-- A CLOSED DIP record. -/
def dip (id : Nat) : Record :=
  { continuationRecord ⟨0, 0, 0, Vector.replicate 3 2000, Vector.replicate 3 2300, true, false, false,
      false, false, 2300⟩ 0 4 40 false with
    id := id, isOpen := false, cls := .dip, wave := .absent .noSlot }

/-- `s` with these records in its store. -/
def holding (rs : List Record) (s : State) : State := s.withStore { s.store with queue := rs }

/-- A full store of DIP records 1 to 48. -/
def fullStore (s : State) : State :=
  s.withStore { s.store with queue := (List.range 48).map fun i => dip (i + 1), nextId := 49 }

/-- The measurement of a dip that crossed at refresh 2 at 40 ms. -/
def dipMeasure : Measurement :=
  ⟨2, 40, 4, Vector.replicate 3 1900, Vector.replicate 3 2300, true, false, false, false, false, 2300⟩

/-- `s` with the detector in `m` and one refresh handed. -/
def judging (m : DetMode) (e : Refresh) (s : State) : State := s.withDet ⟨m, allBack, [e]⟩

/-- A context whose edge came at `edge`, with its window of 2000 ms. -/
def context (edge : Ms) (ref : RefIndex) : Context :=
  ⟨edge, edge + 2000, ref, none, false, none, [], 0, false⟩

/-- `s` with contexts in the first two slots. -/
def withContexts (a b : Option Context) (s : State) : State :=
  s.withCorr { s.corr with slots := #v[a, b, none, none] }

/-- A receiver of `s` in TRAILING with these bytes, the line idle since tick 0. -/
def trailing (bytes : List Byte) (leader : Ms) (s : State) : State :=
  s.withLink { s.link with rx := .trailing, rxBytes := bytes, rxLeader := leader, highFrom := some 0 }

/-- Slot 3 of `s` FILLING from refresh 10, with position 0 copied and record 1 its holder. -/
def filling (s : State) : State :=
  let s' := holding [{ dip 1 with isOpen := true, wave := .present 3 8 }] s
  (s'.setSlot 3 { slotReset with state := .filling, holders := 1, first := 10, filled := 1 }).withStore
    { s'.store with nextId := 2 }

/-! Well-formedness: each check refuses an ill-formed command. -/

theorem test_wf_refuses_code_zero : (Instr.requestBegin 0 0).wf = false := by decide
theorem test_wf_refuses_empty_read : (Instr.readFrame 0 0).wf = false := by decide
theorem test_wf_refuses_late_glitch : (Instr.noticeFallingEdge 0 (.glitch 41)).wf = false := by decide
theorem test_wf_refuses_a_whole_stop_bit :
    (Instr.noticeFallingEdge 0 (.broken 0 760)).wf = false := by decide
theorem test_wf_admits_the_bounds :
    (Instr.requestBegin 0 1).wf ∧ (Instr.readFrame 0 1).wf ∧
    (Instr.noticeFallingEdge 0 (.glitch 40)).wf ∧
    (Instr.noticeFallingEdge 0 (.broken 0 761)).wf := by decide

/-! Decoding: frames written out from ch. 7 (worked example of sec. 7.3) and R170. -/

/-- The table gives no row any bits. -/
theorem test_no_word_spells_a_command (n w : Nat) : decodeTableWord n w = none := rfl

theorem test_present_of_B :
    decodeNotice [0x5C, 0x95, 0x80, 0x8F] = some (.present 5 2 .star .hz50) := by decide
theorem test_verdict_of_B :
    decodeNotice [0x5C, 0x65, 0x94, 0x00, 0x25, 0xFF, 0x29, 0x16, 0x46, 0x02] =
      some (.verdict 5 2 .downstream 0 .triggered 37 (-215) 5702) := by decide
theorem test_verdict_at_39_ms :
    (encodeNotice (.verdict 5 2 .downstream 0 .triggered 39 (-215) 5702)).getLast? = some 0 := by
  decide
theorem test_set_request :
    decodeRequest [0x0B, 0x00, 0x00, 0x00, 0x0F, 0xA0] = .set 0 4000 ∧
    decodeRequest [0x0B, 0x00] = .malformed := by decide

/-! The manual's worked examples, one step each. -/

/-- Ch. 1 "Scaling": 12000 x 17500 with offset -3, either sign. -/
theorem test_takeResult_scales :
    ((after (exec (.takeResult 0 0 12000) (withItem 12 17500 (withItem 20 (-3) State.reset)))).cfe.ch[0]
      ).lastScaled = 12814 ∧
    ((after (exec (.takeResult 0 0 (-12000))
      (withItem 12 17500 (withItem 20 (-3) State.reset)))).cfe.ch[0]).lastScaled = -12820 := by
  decide +kernel

/-- Ch. 1 "Scaling": the clamp of U2. -/
theorem test_takeResult_clamps :
    let c := (after (exec (.takeResult 0 1 30000) (withItem 13 20000 State.reset))).cfe.ch[1]
    c.lastRaw = 30000 ∧ c.lastScaled = 32767 ∧ c.clip = true := by decide +kernel

/-- Ch. 1 "Detection quantities under DELTA". -/
theorem test_positionClose_delta :
    let ch (x : Int) : Channel := ⟨x, x, false, 0, true, false, 0⟩
    let s := State.reset.withCtl { State.reset.ctl with straps := ⟨0, 0, .hz50, .delta⟩ }
    let s := s.withCfe { s.cfe with
      ch := #v[ch 30000, ch (-5000), ch (-25000), ch 0, ch 0, ch 0, ch 0, ch 0] }
    (after (exec (.positionClose ⟨false, none⟩) s)).cfe.dq =
      #v[⟨35000, 32767, true⟩, ⟨20000, 20000, false⟩, ⟨-55000, -32767, true⟩] := by decide +kernel

/-- Ch. 2 "One-Cycle Value": S = 1,353,248,576 gives 3251, and the two after it. -/
theorem test_positionClose_oneCycleValue :
    isqrt (1353248576 / 128) = 3251 ∧ isqrt (1215488576 / 128) = 3081 ∧
    isqrt (1077594176 / 128) = 2901 := by decide +kernel

/-- Ch. 1 "Losing and Regaining Lock": the timeout at 1030 ms; the frequency of 199,960 ticks. -/
theorem test_cycleTimeout_leaves_lock :
    let s := State.reset.withCfe { State.reset.cfe with trk := { trackerReset .hz50 with
      state := .locked, freq := 49990, validCount := 5, start := some 10000000, spacing := 200040 } }
    let s' := after (exec (.cycleTimeout 10300000) s)
    s'.cfe.trk.state = .freeRun ∧ s'.cfe.trk.freq = 49990 ∧ s'.cfe.trk.validCount = 0 ∧
    s'.cfe.trk.spacing = 200000 ∧ s'.ctl.causes[12] = ⟨true, 0, false⟩ ∧
    frequencyOf 199960 = 50010 := by decide +kernel

/-- Ch. 3 "One Update": 2320 moves Rf from 150,732,800 to 150,732,960. -/
theorem test_trackerTakesRefresh_moves :
    let s := running.withRef { running.ref with handed := [flat 7 70 2320 .watch] }
    (after (exec (.trackerTakesRefresh 0) s)).ref.d[0].rf = 150732960 ∧
    movedRf 2300 173342700 2690 = 173342720 ∧ movedRf 2300 150798250 2320 = 150798402 := by
  decide +kernel

/-- Ch. 3 "The Reference at the Edge of Its Band": the thresholds from R = 2645. -/
theorem test_thresholds_of_2645 :
    thresholdsFrom defaultItems 2645 = ⟨2645, 2380, 2433, 2909, 2856, 132, 185⟩ := by decide +kernel

theorem test_trackerTakesEndReport_loads :
    let s := running.withRef { running.ref with endReports := 1 }
    (after (exec (.trackerTakesEndReport 0) s)).ref.d[2].settle = 100 := by decide +kernel

/-- R46: 2069 is below the dip start of R = 2300 and begins an event; 2070 is not. -/
theorem test_detectorTakesRefresh_crosses :
    (after (exec (.detectorTakesRefresh 0 none) (judging .watch (flat 2 40 2069 .watch) running))
      ).det.mode.state = .event ∧
    (after (exec (.detectorTakesRefresh 0 none) (judging .watch (flat 2 40 2070 .watch) running))
      ).det.mode.state = .watch := by decide +kernel

/-- R58: with MAX_OPEN 60 s the event of a crossing at 40 ms is held at 60,040 ms. -/
theorem test_maxOpenExpiry_holds :
    let s := holding [{ dip 9 with isOpen := true, running := true }]
      (judging (.event dipMeasure 9 60040) (flat 5 70 1900 .event) running)
    let s' := after (exec (.maxOpenExpiry 600400000) s)
    s'.det.mode = .held dipMeasure 9 ∧
    (s'.store.queue.map Record.durationMs) = [60000] ∧
    (s'.store.queue.map Record.halfCycles) = [3] := by decide +kernel

/-- Ch. 6 "One Mark": an edge stamped 50,412 sets the stuck expiry 50,463 and opens a context. -/
theorem test_markFallingEdge_is_stamped :
    let s' := after (exec (.markFallingEdge 504120000 none) running)
    s'.mark.lastEdge = some 50412 ∧ s'.mark.stuckExpiry = some 50463 ∧
    s'.corr.slots[0].map Context.close = some 52412 := by decide +kernel

/-- Ch. 6 "A Line Held Low": the stuck expiry at 900,051, the release at 912,000. -/
theorem test_stuckExpiry_and_release :
    let low := running.withMark { running.mark with
      asserted := true, lastEdge := some 900000, stuckExpiry := some 900051 }
    let s' := after (exec (.stuckExpiry 9000510000) low)
    s'.mark.stuck = true ∧ s'.ctl.causes[6] = ⟨true, 0, true⟩ ∧ s'.ctl.attn = true ∧
    (after (exec (.markRelease 9120000000) s')).mark.recoveryExpiry = some 913000 := by
  decide +kernel

theorem test_recoveryExpiry_returns_to_normal :
    let s := running.withMark { running.mark with stuck := true, recoveryExpiry := some 913601 }
    (after (exec (.recoveryExpiry 9136010000) s)).mark.stuck = false ∧
    (after (exec (.recoveryExpiry 9136009999) s)).mark.stuck = true := by decide +kernel

theorem test_pulseEnd_turns_the_drive_off :
    let s := running.withMark { running.mark with drive := true, pulseEnd := some 2 }
    (after (exec (.pulseEnd 20000) s)).mark.drive = false := by decide +kernel

/-- Ch. 7 "Three Verdicts": the gaps of C, ADDR 9, after one failure and after two. -/
theorem test_attemptStart_gaps :
    attemptGap 9 0 = 24 ∧ attemptGap 9 1 = 24 ∧ attemptGap 9 2 = 108 := by decide

/-- Ch. 7 "Three Verdicts": an edge at 60,412 ms sent at 60,450.3 ms carries age 38. -/
theorem test_attemptStart_builds_the_age :
    let v : QueuedVerdict := ⟨2, .downstream, 0, .triggered, -215, 5702, 60412, 60, false⟩
    let s := running.withLink { running.link with
      queue := [.verdict v], tx := .waiting, highFrom := some 604500000 }
    ((after (exec (.attemptStart 604503000) s)).link.txBytes.drop 3).take 2 = [0, 38] := by
  decide +kernel

/-- R101: a PRESENT takes 320 us, 3200 ticks, and leaves the queue at their end, from which the line
is idle. -/
theorem test_attemptSuccess_takes_the_frame_off :
    let s := running.withLink { running.link with
      tx := .sending, attempts := 3, txBytes := [0x5C, 0x95, 0x80, 0x8F], highFrom := some 2800 }
    let s' := after (exec (.attemptSuccess 3200) s)
    s'.link.queue = [] ∧ s'.link.tx = .idle ∧ s'.link.attempts = 0 ∧ s'.link.idleFrom = some 3200 ∧
    (after (exec (.attemptSuccess 3199) s)).link.tx = .sending := by decide +kernel

/-- R109: the seventh failure leaves the frame, the eighth drops it. -/
theorem test_readbackMismatch_drops_at_eight :
    let s (a : Nat) := running.withLink { running.link with tx := .sending, attempts := a }
    (after (exec (.readbackMismatch 200) (s 6))).link.queue = [.present] ∧
    (after (exec (.readbackMismatch 200) (s 7))).link.queue = [] ∧
    (after (exec (.readbackMismatch 199) (s 7))).link.queue = [.present] := by decide +kernel

/-- R111: the fourth byte ends a PRESENT, unless its stop bit reads low. -/
theorem test_noticeFallingEdge_takes_bytes :
    let s := running.withLink { running.link with
      rx := .receiving, rxBytes := [0x5C, 0x95, 0x80], rxExpected := some 4 }
    (after (exec (.noticeFallingEdge 0 (.start 0x8F)) s)).link.rx = .trailing ∧
    (after (exec (.noticeFallingEdge 0 (.broken 0x8F 800)) s)).link.rx = .receiving := by
  decide +kernel

theorem test_frameMalformed_raises_frame_error :
    let s := running.withLink { running.link with rx := .receiving, rxBytes := [0x5B], rxFault := some .badLeader }
    (after (exec (.frameMalformed 0 .badLeader) s)).ctl.causes[4] = ⟨true, 0, true⟩ := by
  decide +kernel

/-- Ch. 7 "Matching at One Receiver", first and fourth row. -/
theorem test_frameComplete_matches :
    let s := withContexts (some (context 30100 0)) (some (context 30104 0)) running
    let v (age : BitVec 16) :=
      encodeNotice (.verdict 5 2 .downstream 0 .triggered age (-215) 5702)
    let a := after (exec (.frameComplete 1600) (trailing (v 37) 30139 s))
    let b := after (exec (.frameComplete 1600) (trailing (v 39) 30152 s))
    (a.corr.slots[0].map fun c => c.peers.length) = some 1 ∧
    (a.corr.slots[1].map fun c => c.peers.length) = some 0 ∧
    b.link.peers[5].unmatched = 1 := by decide +kernel

theorem test_receiverRecovered_is_idle :
    let s := running.withLink { running.link with rx := .recovering, lastStop := 80, highFrom := some 0 }
    (after (exec (.receiverRecovered 1600) s)).link.rx = .idle ∧
    (after (exec (.receiverRecovered 1599) s)).link.rx = .recovering := by decide +kernel

theorem test_peerAgingExpiry_makes_absent :
    let s := running.setPeer 5 ⟨true, some 2, some .star, some .hz50, some 0, 0⟩
    (after (exec (.peerAgingExpiry 1800000000 5) s)).link.peers[5].present = false ∧
    (after (exec (.peerAgingExpiry 1799999999 5) s)).link.peers[5].present = true := by
  decide +kernel

theorem test_presentPeriodExpiry_comes_again :
    (after (exec (.presentPeriodExpiry 600000000) running)).ctl.presentExpiry = some 120000 := by
  decide +kernel

/-- Ch. 8 "At station B": dU = -215 and dI = +5702 after a quiet entry give DOWNSTREAM. -/
theorem test_correlationTakesRefresh_judges :
    let pre : PreValues := ⟨#v[2288, 2291, 2295], #v[3198, 3198, 3198], .watch⟩
    let during : Refresh := { flat 6 60 0 .event with
      value := #v[0, 0, 0, 0, 8900, 3198, 3198, 0, 2073, 2218, 2276] }
    let s := withContexts (some { context 40 4 with pre := some pre, anchored := true }) none running
    let s := s.withCorr { s.corr with handed := [during] }
    ((after (exec (.correlationTakesRefresh 0) s)).corr.slots[0].bind Context.own) =
      some ⟨.downstream, 0, -215, 5702, false, .triggered⟩ := by decide +kernel

/-- Ch. 8 variations: {A} DOWNSTREAM; all three DOWNSTREAM; all UPSTREAM; none of either. -/
theorem test_contextClose_locus :
    locusOf [⟨.downstream, 1, 2⟩, ⟨.upstream, 2, 9⟩] = (.below, 1, 2, false) ∧
    locusOf [⟨.downstream, 1, 2⟩, ⟨.downstream, 2, 9⟩, ⟨.downstream, 2, 5⟩] = (.below, 2, 5, true) ∧
    locusOf [⟨.upstream, 2, 5⟩, ⟨.upstream, 1, 2⟩, ⟨.upstream, 2, 9⟩] = (.above, 1, 2, false) ∧
    locusOf [⟨.indeterminate, 1, 2⟩] = (.unknown, 0, 0, false) := by decide

/-- R80 and R81 on slot 3. -/
theorem test_scrubComplete_frees :
    let s := State.reset.setSlot 3 { slotReset with state := .scrubbing, scrubEnd := some 5 }
    (after (exec (.scrubComplete 50000 3) s)).cap.slots[3].state = .free ∧
    (after (exec (.scrubComplete 49999 3) s)).cap.slots[3].state = .scrubbing := by decide +kernel

theorem test_scrubLocationError_turns_off :
    let s := State.reset.setSlot 3 { slotReset with state := .scrubbing, scrubEnd := some 5 }
    let s' := after (exec (.scrubLocationError 0 3) s)
    s'.cap.on = false ∧ s'.ctl.causes[3] = ⟨true, 3, false⟩ := by decide +kernel

/-- Ch. 10 "Three Intervals": the first boundary at 542,345 ms, then 600 s on. -/
theorem test_intervalBoundary_and_the_next :
    let s := (serving .start (withItem 28 1500000060 State.reset))
    let s' := after (exec (.start 23450000) s)
    (s'.agg.cur.map Interval.boundary) = some 542345 ∧
    ((after (exec (.intervalBoundary 5423450000) s')).agg.cur.map Interval.boundary) =
      some 1142345 := by decide +kernel

/-- Ch. 10 "Three Intervals": the rms of D1, U4 and I1 and the mean frequency. -/
theorem test_aggregatorTakesRefresh_means :
    isqrt (317383200000 / 60000) = 2299 ∧ isqrt (11964000 / 60000) = 14 ∧
    isqrt (1020939000000 / 60000) = 4125 ∧ 1499980000 / 30000 = 49999 := by decide +kernel

/-- Ch. 9 "A Full Store": 497,655 ms after a start at 2,345 ms with time base 1,500,000,000. -/
theorem test_station_time :
    let s := withItem 28 1500000000 State.reset
    (s.withStore { s.store with startTime := 2345 }).stationTime 500000 = ⟨1500000497, 655⟩ := by
  decide +kernel

/-- R146: the base that START froze stands at a SET of item 28 in CONFIG, until the next START;
before the first one the item counts as it is configured (R176). -/
theorem test_time_base_is_frozen_by_start :
    let s := running.withCtl { running.ctl with state := .config }
    (withItem 28 9 State.reset).stationTime 500 = ⟨9, 500⟩ ∧
    (withItem 28 9 s).stationTime 500 = ⟨0, 500⟩ ∧
    ((withItem 28 9 s).takeStart).stationTime 500 = ⟨9, 500⟩ := by decide +kernel

/-- Ch. 11 "A Configuration Session": CLAMPED, CONFLICT, DONE, LOCKED. -/
theorem test_set_clamps :
    (after (exec (.set 0) (serving (.set 5 80) State.reset))).port.buffer =
      some [0x07, 0, 4, 0, 0, 0, 50] ∧
    (after (exec (.set 0) (serving (.set 31 5) State.reset))).port.buffer = some [0x09, 0, 0] := by
  decide +kernel

theorem test_start_conflict :
    let s (x : Int) := serving .start (withItem 5 50 (withItem 3 1020 (withItem 2 x State.reset)))
    (after (exec (.start 0) (s 950))).port.buffer = some [0x08, 0, 0] ∧
    (after (exec (.start 0) (s 880))).ctl.state = .run := by decide +kernel

theorem test_set_is_locked_in_run :
    (after (exec (.set 0) (serving (.set 9 120) running))).port.buffer = some [0x06, 0, 0] ∧
    (after (exec (.get 0) (serving (.get 9) running))).port.buffer =
      some [0x01, 0, 4, 0, 0, 0, 60] := by decide +kernel

/-- Ch. 12 "A Halt": the cause bits 0x0583 with channel 2. -/
theorem test_causes_of_the_halt :
    let e (b : Bool) (n : Nat) : CauseEntry := ⟨b, n, false⟩
    let s := serving .causes (State.reset.withCtl { State.reset.ctl with causes := #v[e true 2, e true 2,
      e false 0, e false 0, e false 0, e false 0, e false 0, e true 0, e true 0, e false 0, e true 0,
      e false 0, e false 0] })
    let s' := after (exec (.causes 0) s)
    (s'.port.buffer.map fun b => b.take 7) = some [0x01, 0, 15, 0x05, 0x83, 0x02, 0x02] ∧
    s'.ctl.attn = false := by decide +kernel

/-- Ch. 11: the response to STATUS begins with status 0x01 and the length 24. -/
theorem test_status_and_readFrame :
    let s' := after (exec (.status 0) (serving .status State.reset))
    (after (exec (.readFrame 0 4) s')).port.pdout = [0xFF, 0x01, 0, 24] ∧
    (after (exec (.readFrame 0 4) s')).port.rdy = true := by decide +kernel

theorem test_requestBegin_and_taken :
    let s' := after (exec (.requestBegin 0 0x02) (serving .head State.reset))
    s'.port.superseded = true ∧
    (after (exec (.requestTaken 0 [8]) s')).port.pendingReq = some (.live 8, false) := by
  decide +kernel

theorem test_ignoredPeriodEnd :
    let s := State.afterPinReset strapsDefault false true 0 []
    s.port.frame = .ignored ∧ (after (exec (.ignoredPeriodEnd 0) s)).port.frame = .none := by
  decide +kernel

/-- Ch. 9 "A Full Store": RELEASE of a later record, of the head, of one not held; HEAD. -/
theorem test_release_answers :
    let s := holding [dip 101, dip 102] State.reset
    let answer (id : BitVec 16) := (after (exec (.release 0) (serving (.release id) s))).port.buffer
    answer 102 = some [0x05, 0, 0] ∧ answer 101 = some [0x01, 0, 0] ∧
    answer 100 = some [0x04, 0, 0] := by decide +kernel

theorem test_head_answers :
    let answer (s : State) := ((after (exec (.head 0) (serving .head s))).port.buffer.map (List.take 5))
    answer (holding [dip 101] State.reset) = some [0x01, 0, 57, 0, 101] ∧
    answer State.reset = some [0x02, 0, 0] := by decide +kernel

theorem test_wave_at_its_bounds :
    let answer (q h : Byte) :=
      ((after (exec (.wave 0 false) (serving (.wave 1 q h) (filling running)))).port.buffer.map
        (List.take 3))
    answer 10 0 = some [0x01, 0, 128] ∧ answer 11 0 = some [0x04, 0, 0] ∧
    answer 10 1 = some [0x04, 0, 0] := by decide +kernel

theorem test_live_at_its_bound :
    let answer (q : Byte) :=
      ((after (exec (.live 0) (serving (.live q) running))).port.buffer.map (List.take 3))
    answer 10 = some [0x01, 0, 22] ∧ answer 11 = some [0x04, 0, 0] := by decide +kernel

theorem test_reference_of_reset :
    ((after (exec (.reference 0) (serving .reference State.reset))).port.buffer.map (List.take 7)) =
      some [0x01, 0, 42, 0x08, 0xFC, 0x08, 0x16] := by decide +kernel

theorem test_other_reads :
    ((after (exec (.tally 0) (serving .tally running))).port.buffer.map (List.take 3)) =
      some [0x01, 0, 50] ∧
    ((after (exec (.peers 0) (serving .peers running))).port.buffer.map (List.take 3)) =
      some [0x01, 0, 176] ∧
    (after (exec (.interval 0) (serving (.interval 4) running))).port.buffer = some [0x04, 0, 0] ∧
    (after (exec (.malformedRequest 0) (serving .malformed running))).port.buffer =
      some [0x09, 0, 0] := by decide +kernel

/-- An order of the blocks at a stop in which the detector alone takes a refresh in RUN, the mark line
interface having taken the stop, where `mark`, or not yet. -/
def crossingWithin (mark : Bool) : StopOrder :=
  { detectorFirst := true, tableFirst := false, storeEarly := true, linkEarly := true
    markEarly := mark, detEarly := false, corrEarly := false, corrWithin := false
    capEarly := false, aggEarly := false
    trackerTakes := false, detTakes := true, corrTakes := false, reportTakes := false
    aggTakes := false, corrBeforeDet := false, checkFails := none }

/-- R97: an event that begins where the mark line interface has taken the stop is UNANCHORED and
ABORTED, with no pulse; where it has not, a pulse begins and is cut short. -/
theorem test_crossing_within_a_stop :
    let s := judging .watch (flat 2 40 2069 .watch) running
    let left (k : Stop) (mark : Bool) := s.takeStop k (crossingWithin mark) none id
    let flags (k : Stop) (mark : Bool) := (left k mark).store.queue.map fun r =>
      (r.isOpen, r.flags.aborted, r.flags.unanchored)
    ∀ k ∈ [Stop.halt, .restart false true],
      flags k true = [(false, true, true)] ∧ (left k true).mark.lastEdge = none ∧
      flags k false = [(false, true, false)] ∧ (left k false).mark.lastEdge = some 0 ∧
      (left k false).mark.drive = false := by decide +kernel

/-- R125: the correlation unit takes the stop between the answer and the anchoring. The SYMPATHETIC
record of the anchor's context is not upgraded, and the event's new record is linked to no context,
though not UNANCHORED; without that it is upgraded and no record is made. -/
theorem test_anchoring_after_a_stop :
    let r := { dip 1 with cls := RecordClass.sympathetic, isOpen := true, anchorOpen := true }
    let s := holding [r] (withContexts (some { context 40 2 with linked := 1 }) none
      (judging .watch (flat 2 40 2069 .watch) running))
    let s := s.withStore { s.store with nextId := 2 }
    let left (within : Bool) :=
      (s.takeStop .halt { crossingWithin false with corrWithin := within } none id).store.queue.map
        fun r => (r.id, r.isOpen, r.flags.upgraded, r.flags.unanchored, r.flags.aborted)
    left true = [(1, false, false, false, true), (2, false, false, false, true)] ∧
    left false = [(1, false, true, false, true)] := by decide +kernel

/-- R187: HALT freezes the thresholds. A refresh taken outside RUN leaves the set in force. -/
theorem test_thresholds_are_frozen_outside_run :
    let d : Reference := { running.ref.d[(0 : Fin 3)] with following := thresholdsFrom defaultItems 2301 }
    let s := running.withRef { running.ref with
      handed := [flat 7 70 2320 .watch], d := running.ref.d.set 0 d }
    (after (exec (.trackerTakesRefresh 0) s.enterHalted)).ref.d[0] = d ∧
    (after (exec (.trackerTakesRefresh 0) s)).ref.d[0].inForce = d.following := by decide +kernel

/-- R138, R121: RESTART leaves the queue empty; LINK_RESET empties it and stays in RUN. -/
theorem test_restart_and_linkReset :
    (∀ a b : Bool, (running.takeStop (.restart false a) (crossingWithin b) none id).link.queue = []) ∧
    (after (exec (.linkReset 0 false) (serving .linkReset running))).ctl.state = .run ∧
    (after (exec (.linkReset 0 false) (serving .linkReset running))).link.queue = [] := by
  decide +kernel

theorem test_pinReset_latches :
    (after (exec (.pinReset ⟨5, 2, .hz60, .delta⟩ true true) running)).ctl.straps.addr = 5 ∧
    (after (exec (.pinReset ⟨5, 2, .hz60, .delta⟩ true true) running)).mark.stuckExpiry = some 51 := by
  decide +kernel

/-! Witnesses: for each obligation with hypotheses, a state and operands that meet all of them, at
the bounds where a clause has some. -/

theorem witness_StepRunsTheFrontCommand :
    (running.withPending [.pulseEnd 0]).pending = .pulseEnd 0 :: [] ∧ State.reset.pending = [] :=
  ⟨rfl, rfl⟩

theorem witness_CommandsKeepWhatIsNotTheirs : ∃ s', exec (.pulseEnd 0) running = .next s' ∧
    (∀ t low, Instr.pulseEnd 0 ≠ .restart t low) ∧ ∀ f, Instr.pulseEnd 0 ≠ .positionClose f :=
  ⟨_, rfl, nofun, nofun⟩

theorem witness_TheClockOnlyMovesOn : ∃ s', exec (.pulseEnd 7) running = .next s' ∧
    ∀ straps low psel, Instr.pulseEnd 7 ≠ .pinReset straps low psel := ⟨_, rfl, nofun⟩

theorem witness_StrapsAndItemsStand :
    ∃ s', exec (.set 0) (serving (.set 0 4000) State.reset) = .next s' ∧
    s'.ctl.items[0] = 4000 ∧ ∀ straps low psel, Instr.set 0 ≠ .pinReset straps low psel :=
  ⟨_, rfl, by decide +kernel, nofun⟩

theorem witness_StationStateMovesByItsTable :
    ∃ s', exec (.start 0) (serving .start State.reset) = .next s' ∧ s'.ctl.state = .run ∧
    ∀ straps low psel, Instr.start 0 ≠ .pinReset straps low psel :=
  ⟨_, rfl, by decide +kernel, nofun⟩

theorem witness_CausesStaySetUntilRead :
    ∃ s', exec (.pulseEnd 0) (State.reset.raise .halt 0) = .next s' ∧
    (State.reset.raise .halt 0).ctl.causes[(7 : Fin 13)].isSet = true ∧
    (∀ straps low psel, Instr.pulseEnd 0 ≠ .pinReset straps low psel) ∧
    ∀ t, Instr.pulseEnd 0 ≠ .causes t := ⟨_, rfl, by decide +kernel, nofun, nofun⟩

/-- A station in RUN with an unmasked cause set and a command waiting. -/
def waiting : State := (running.raise .recordClosed 0).withPending [.pulseEnd 0]

theorem witness_AttnAndRdyFollow :
    let s := (serving .status running).withPending [.status 0]
    (∃ s', waiting.attnFollowsCauses ∧ step waiting = .next s') ∧
    ∃ s', s.rdyFollowsBuffer ∧ step s = .next s' ∧ s'.port.rdy = true :=
  ⟨⟨_, by decide +kernel, rfl⟩, _, by decide +kernel, rfl, by decide +kernel⟩

theorem witness_NothingRunsOutsideRun : ∃ s', (waiting.viewsAgree ∧ waiting.oneFilling ∧
    waiting.quietOutsideRun ∧ waiting.transmitterFollowsQueue) ∧ step waiting = .next s' :=
  ⟨_, ⟨by decide +kernel, by decide +kernel, fun h => absurd (by decide +kernel) h,
    by decide +kernel⟩, rfl⟩

theorem witness_CountsStayInTheirRanges :
    let s := ((fullStore running).withRef { running.ref with
      handed := [flat 0 20 2360 .watch] }).withPending [.trackerTakesRefresh 0]
    ∃ s', (s.withinCapacity ∧ s.itemsInRange ∧ s.referencesInBand) ∧ step s = .next s' :=
  ⟨_, ⟨by decide +kernel, by decide +kernel, by decide +kernel⟩, rfl⟩

/-- Pin reset with a position close waiting, and one refresh of the greatest values held. -/
def closing : State :=
  (State.reset.withRms { rmsReset with history := [flat 0 20 32767 .watch] }).withPending
    [.positionClose ⟨false, none⟩]

theorem witness_SumsSamplesAndValuesFit : ∃ s', (closing.samplesInRange ∧ closing.sumsMatchRings ∧
    closing.valuesInRange) ∧ step closing = .next s' := by
  refine ⟨_, ⟨⟨?_, ?_, ?_⟩, fun q => ?_, by decide +kernel⟩, rfl⟩
  all_goals
    intros
    simp [closing, State.withRms, State.withPending, State.reset, State.afterPinReset, rmsReset,
      frontEndReset, channelReset, square]

theorem witness_HoldersCountTheRecords :
    let s := (filling running).withPending [.markFallingEdge 0 none]
    ∃ s', (s.holdersCountRecords ∧ s.closedAreNotFilling ∧ s.idsInOrder ∧ s.withinCapacity) ∧
      step s = .next s' :=
  ⟨_, by decide +kernel, rfl⟩

theorem witness_OpenRecordsWaitForSomething :
    let s := (filling running).withPending [.markFallingEdge 0 none]
    ∃ s', (s.openRecordsWait ∧ s.holdersCountRecords ∧ s.closedAreNotFilling ∧ s.idsInOrder ∧
      s.withinCapacity) ∧ step s = .next s' :=
  ⟨_, by decide +kernel, rfl⟩

/-- An event on record 1, which the context of slot 0 is linked to. -/
def eventRecord : State :=
  let s := holding [{ dip 1 with isOpen := true, running := true, anchorOpen := true }]
    (withContexts (some { context 40 2 with linked := 1 }) none
      (judging (.event dipMeasure 1 60040) (flat 5 70 1900 .event) running))
  s.withStore { s.store with nextId := 2 }

/-- Its flags have their reasons. -/
theorem eventRecord_flagsHaveReasons : eventRecord.flagsHaveReasons := fun r hr => by
  obtain rfl := List.mem_singleton.1 hr
  exact ⟨fun _ => ⟨_, _, rfl⟩, fun _ => ⟨0, _, rfl, rfl⟩⟩

/-- Its one context is linked to a record that is OPEN, with its anchor open. -/
theorem eventRecord_linkedAreOpen : eventRecord.linkedAreOpen :=
  ⟨fun k c h => (by decide +kernel : ∀ k : Fin 4, ∀ c ∈ eventRecord.corr.slots[k], c.linked ≠ 0 →
      ∃ r ∈ eventRecord.store.queue, r.id = c.linked ∧ r.isOpen = true ∧ r.anchorOpen = true) k c h,
    fun j k c d hjk hc hd => (by decide +kernel : ∀ j k : Fin 4, j ≠ k →
      ∀ c ∈ eventRecord.corr.slots[j], ∀ d ∈ eventRecord.corr.slots[k], c.linked ≠ 0 →
        c.linked ≠ d.linked) j k hjk c hc d hd⟩

theorem witness_RecordFlagsHaveReasons :
    let s := eventRecord.withPending [.detectorTakesRefresh 0 none]
    ∃ s', (s.flagsHaveReasons ∧ s.linkedAreOpen ∧ s.idsInOrder ∧ s.withinCapacity) ∧
      step s = .next s' ∧ eventRecord.corr.slots[(0 : Fin 4)] =
        some { context 40 2 with linked := 1 } :=
  ⟨_, ⟨eventRecord_flagsHaveReasons, eventRecord_linkedAreOpen, by decide +kernel,
    by decide +kernel⟩, rfl, rfl⟩

/-- A context with two entries of its list, in RUN, with a command waiting. -/
def listening : State :=
  let p (a : Fin 16) : PeerVerdict := ⟨a, 1, .upstream, 0, 0, 0, .triggered⟩
  (withContexts (some { context 40 4 with peers := [p 1, p 2] }) none running).withPending [.pulseEnd 0]

theorem witness_PeerListsStaySound : ∃ s', listening.peersSound ∧ step listening = .next s' := by
  refine ⟨_, ⟨fun k c h => ?_, by decide +kernel, by decide +kernel⟩, rfl⟩
  exact (by decide +kernel : ∀ k : Fin 4, ∀ c ∈ listening.corr.slots[k],
    peerListSound listening.ctl.straps.addr c.peers) k c h

theorem witness_RecordTimesAndSequenceNumbersRise :
    let en (n : Nat) := entryOf (beginInterval 0 0 0 true) n 600 false
    let s := (holding [dip 1, dip 2] running).withAgg { running.agg with
      ring := [en 4294967295, en 0], nextSeq := 1 }
    let s := s.withPending [.intervalBoundary 6000000000]
    ∃ s', (s.recordTimesInOrder ∧ s.ringInOrder) ∧ step s = .next s' :=
  ⟨_, ⟨by decide +kernel, by decide +kernel⟩, rfl⟩

/-- Contexts with edges 9 and 8, 9 the last one, and an edge waiting in the same millisecond. -/
def twoEdges : State :=
  let s := withContexts (some (context 9 0)) (some (context 8 0)) running
  (s.withMark { s.mark with lastEdge := some 9 }).withPending [.markFallingEdge 90000 none]

theorem witness_EdgeTimesDiffer :
    ∃ s', twoEdges.edgesDiffer ∧ step twoEdges = .next s' ∧ s'.now = 9 ∧
      ∀ (k : Fin 4) (c : Context), twoEdges.corr.slots[k] = some c → c.edge = s'.now →
        twoEdges.mark.lastEdge = some c.edge := by
  refine ⟨_, fun j k c d hjk hc hd => ?_, rfl, by decide +kernel, fun k c hc => ?_⟩
  · exact (by decide +kernel : ∀ j k : Fin 4, j ≠ k → ∀ c ∈ twoEdges.corr.slots[j],
      ∀ d ∈ twoEdges.corr.slots[k], c.edge ≠ d.edge) j k hjk c hc d hd
  · exact (by decide +kernel : ∀ k : Fin 4, ∀ c ∈ twoEdges.corr.slots[k], c.edge = 9 →
      some 9 = some c.edge) k c hc

/-- Channel 0 with a late result to come, with its result taken, and with neither. -/
theorem witness_ResultIsScaledAndClamped :
    let s (taken : Bool) (late : Nat) := State.reset.withCfe { State.reset.cfe with
      ch := State.reset.cfe.ch.set 0 { channelReset with taken := taken, late := late } }
    (s true 1).cfe.ch[0].late ≠ 0 ∧
    ((s true 0).cfe.ch[0].late = 0 ∧ (s true 0).cfe.ch[0].taken = true) ∧
    ((s false 0).cfe.ch[0].late = 0 ∧ (s false 0).cfe.ch[0].taken = false) := by decide +kernel

theorem witness_PositionCloseWritesTheSamples :
    State.reset.ctl.straps.wiring = .star ∧ (1 : Fin 640) ≠ State.reset.cfe.pos ∧
    (State.afterPinReset ⟨0, 0, .hz50, .delta⟩ false false 0 []).ctl.straps.wiring = .delta := by
  decide +kernel

/-- `running` with the results of all channels taken but those of the list, channel 5 on hold. -/
def overrunning (missing : List (Fin 8)) : State :=
  running.withCfe { running.cfe with
    ch := Vector.ofFn fun k => { channelReset with
      taken := !missing.contains k, hold := if k = 5 then 88 else 0 } }

theorem witness_OverrunIsRaisedAndHeld :
    (let s := overrunning [2, 7]
     s.cfe.ch[2].taken = false ∧ (∀ j : Fin 8, j < 2 → s.cfe.ch[j].taken = true) ∧
     ∃ j : Fin 8, 0 < s.cfe.ch[j].hold) ∧
    ∀ k : Fin 8, (overrunning []).cfe.ch[k].taken = true := by decide +kernel

/-- At the last and the last but one position of segment 0, with a fill count of 126 and of 127. -/
theorem witness_HalfCycleEndEmitsARefresh :
    let s (missing : List (Fin 8)) (p : Fin 640) (fill : Nat) := ((overrunning missing).withCfe
      { (overrunning missing).cfe with pos := p }).withRms { running.rms with fill := fill }
    (s [] 63 126).cfe.pos.val % 64 = 63 ∧ ¬(s [] 63 126).emitsNext ∧ (s [] 63 127).emitsNext ∧
    ¬(s [] 63 127).haltsNext ∧ (s [2] 63 127).haltsNext ∧ (s [] 62 127).cfe.pos.val % 64 ≠ 63 := by
  decide +kernel

/-- A double overrun at a close that emits no refresh, and at one that emits one. -/
theorem witness_DoubleOverrunHaltsARunningStation :
    let s := overrunning [2]
    let t := (s.withCfe { s.cfe with pos := 63 }).withRms { s.rms with fill := 127 }
    (s.haltsNext ∧ ¬s.emitsNext ∧ s.oneFilling ∧ s.nothingWaits ∧ s.agg.cur ≠ none ∧
      s.agg.ring.length ≤ 144 ∧ s.link.view = .run) ∧ t.haltsNext ∧ t.emitsNext := by
  decide +kernel

/-- D1 goes from -10 to +10, with a cycle of this peak in progress, or none. -/
def crossing (start : Option Nat) (peak : Nat) : State :=
  let s := overrunning []
  s.withCfe { s.cfe with
    ch := s.cfe.ch.set 0 { channelReset with lastScaled := 10, taken := true }
    dq := s.cfe.dq.set 0 ⟨-10, -10, false⟩
    trk := { trackerReset .hz50 with
      armed := true, start := start, peak := peak, state := .locked, validCount := 5
      prevInstant := 25500000, instant := 25700000, next := 25900000 } }

/-- The crossing at tick 200,000 without a cycle, with a valid one and with one of too low a peak;
and no crossing where the detector is disarmed; the timeout of a cycle, to the tick. -/
theorem witness_CyclesEnd :
    let s' (start : Option Nat) (peak : Nat) := after (exec (.positionClose ⟨false, none⟩) (crossing start peak))
    ((crossing none 0).cfe.trk.armed = true ∧ (crossing none 0).cfe.dq[0].lastScaled < 0 ∧
      0 ≤ (s' none 0).cfe.dq[0].lastScaled ∧ (s' none 0).cfe.trk.start = some 200000) ∧
    (s' (some 0) 500).cfe.trk.freq = 50000 ∧ (s' (some 0) 500).cfe.trk.state = .locked ∧
    (s' (some 0) 499).cfe.trk.state = .freeRun ∧
    (s' (some 0) 499).ctl.causes[12] = ⟨true, 0, false⟩ ∧
    running.cfe.trk.armed = false ∧ ¬(crossing none 0).haltsNext ∧
    0 + 300000 ≤ max (crossing (some 0) 0).time 300000 := by decide +kernel

/-- At the edge of the motion band (60) and beyond it; an end report that waits. -/
theorem witness_TrackerTakesRefreshesAndReports :
    let s (u : Nat) := running.withRef { running.ref with
      handed := [flat 7 70 u .watch], endReports := 1 }
    let x := running.ref.d[(0 : Fin 3)]
    (s 2360).ref.handed = [flat 7 70 2360 .watch] ∧ running.ctl.state = .run ∧
    running.item 1 = 1 ∧ x.settle = 0 ∧
    ((2360 : Int) - (x.rf / 65536 : Nat)).natAbs ≤ running.motionBand ∧
    ¬ ((2361 : Int) - (x.rf / 65536 : Nat)).natAbs ≤ running.motionBand ∧
    (s 2360).ref.endReports ≠ 0 ∧ (s 2360).enterHalted.ctl.state ≠ .run ∧
    (0 ≤ defaultItems[2] ∧ 0 ≤ defaultItems[4] ∧ 0 ≤ defaultItems[5] ∧
      defaultItems[5] ≤ defaultItems[3]) := by decide +kernel

/-- The thresholds of 2300 dV: 2069 is below the dip start; 2531 above the swell start; 2116 and 2484
are back. -/
theorem witness_DetectorJudgesTheRefresh :
    let e (u : Nat) := flat 5 70 u .event
    let s (m : DetMode) (u : Nat) := judging m (e u) running
    (s .watch 2116).det.handed = [e 2116] ∧
    (∀ k : Fin 3, ((s .watch 2116).judgeConds (e 2116))[k] = .back ∧
      ((s .watch 2484).judgeConds (e 2484))[k] = .back ∧
      ((s .watch 2069).judgeConds (e 2069))[k] = .outLow ∧
      ((s .watch 2531).judgeConds (e 2531))[k] = .outHigh) ∧
    (∀ k : Fin 3, ((s .watch 2100).judgeConds (e 2100))[k] =
      if 2100 < ((s .watch 2100).setFor 5 k).dipStart then .outLow
      else if ((s .watch 2100).setFor 5 k).swellStart < 2100 then .outHigh
      else if ((s .watch 2100).setFor 5 k).dipEnd ≤ 2100 ∧
        2100 ≤ ((s .watch 2100).setFor 5 k).swellEnd then .back
      else (s .watch 2100).det.cond[k]) ∧
    running.ctl.state = .run ∧ (s .watch 2116).det.mode = .watch ∧
    (s (.event dipMeasure 9 60040) 2069).det.mode = .event dipMeasure 9 60040 ∧
    (s (.held dipMeasure 9) 2069).det.mode = .held dipMeasure 9 ∧
    (judging .watch (e 2300) State.reset).ctl.state ≠ .run ∧
    (∃ x ∈ ({ running.ref with handed := [e 2300] } : RefTracker).handed, x.index = 5) ∧
    ∀ x ∈ running.ref.handed, x.index ≠ 5 := by decide +kernel

/-- No candidate, with room for one record and with none; a context linked to an upgradable record; one linked to
none. -/
theorem witness_CrossingBeginsAnEvent :
    let e := flat 5 70 2069 .watch
    let s := judging .watch e running
    let linked (r : Record) (id : Nat) := s.withCorr { s.corr with
        slots := #v[some { context 60 4 with linked := id }, none, none, none] } |>.withStore
      { s.store with queue := [r], nextId := 10 }
    let upTo (n : Nat) := s.withStore { s.store with
      queue := (fullStore s).store.queue.take n, nextId := n + 1 }
    let sympathetic := { dip 9 with cls := RecordClass.sympathetic }
    s.det.handed = [e] ∧
    (∀ k : Fin 3, (s.judgeConds e)[k] = judgeCond (s.setFor e.index k) e.value[dIndex k] s.det.cond[k]) ∧
    s.ctl.state = .run ∧ s.det.mode = .watch ∧ (∃ k : Fin 3, (s.judgeConds e)[k] ≠ .back) ∧
    s.anchorAnswer e.stamp = .pulse ∧ s.hasRoom = true ∧ s.corr.view = .run ∧
    (judging .watch e (fullStore running)).hasRoom = false ∧
    (s.elapse 0).anchorOf e.stamp = some 0 ∧ s.corr.slots[(0 : Fin 4)] = none ∧
    ((linked sympathetic 9).elapse 0).anchorOf e.stamp = some 0 ∧
    (linked sympathetic 9).upgradable { context 60 4 with linked := 9 } = true ∧
    ((linked (dip 9) 0).elapse 0).anchorOf e.stamp = some 0 ∧
    (linked (dip 9) 0).upgradable (context 60 4) = false ∧
    (∀ x ∈ [s, linked sympathetic 9, linked (dip 9) 0, upTo 46, upTo 47, upTo 48],
      x.idsInOrder ∧ x.withinCapacity ∧ x.det = s.det) ∧
    (upTo 47).hasRoom = true ∧ (upTo 47).store.queue.length = 47 ∧ (upTo 48).hasRoom = false := by
  decide +kernel

theorem witness_EventEndsWhenAllAreBack :
    let e := flat 5 70 2116 .event
    let s (id : Nat) := holding [dip 9] (judging (.event dipMeasure id 60040) e running)
    (s 9).det.handed = [e] ∧
    (∀ k : Fin 3, judgeCond ((s 9).setFor e.index k) e.value[dIndex k] (s 9).det.cond[k] = .back) ∧
    (s 9).ctl.state = .run ∧ (s 9).det.mode = .event dipMeasure 9 60040 ∧
    dip 9 ∈ (s 9).store.queue ∧ (dip 9).id = 9 ∧ (s 0).det.mode = .event dipMeasure 0 60040 := by
  decide +kernel

theorem witness_MaxOpenHoldsTheEvent :
    let s (id : Nat) := holding [dip 9]
      (judging (.event dipMeasure id 60040) (flat 5 70 1900 .event) running)
    (s 9).det.mode = .event dipMeasure 9 60040 ∧ (s 0).det.mode = .event dipMeasure 0 60040 ∧
    ((s 9).elapse 600400000).reached 60040 = true ∧ dip 9 ∈ (s 9).store.queue := by decide +kernel

theorem witness_ReturnMakesAContinuation :
    let e := flat 5 70 2116 .held
    let s := judging (.held dipMeasure 9) e running
    s.det.handed = [e] ∧
    (∀ k : Fin 3, judgeCond (s.setFor e.index k) e.value[dIndex k] s.det.cond[k] = .back) ∧
    s.ctl.state = .run ∧ s.det.mode = .held dipMeasure 9 ∧ s.store.queue.length < 48 ∧
    s.idsInOrder ∧ s.withinCapacity ∧ 48 ≤ (fullStore s).store.queue.length := by decide +kernel

/-- An event in progress on record 1, linked to a context, with the VERDICT of both queued: with
RESTART in service, and with a double overrun at a close that emits no refresh; in each case with a
refresh waiting and with none. -/
theorem witness_StopsAbortWhatIsInProgress :
    let v : QueuedVerdict := ⟨2, .upstream, 0, .triggered, 0, 0, 40, 1, false⟩
    let s (waits : List Refresh) := serving .restart
      ((eventRecord.withDet { eventRecord.det with handed := waits }).withLink
        { eventRecord.link with queue := [.verdict v] })
    let t (waits : List Refresh) := (s waits).withCfe (overrunning [2]).cfe
    ∀ waits ∈ [[], [flat 5 70 1900 .event]],
      (s waits).port.inService = some .restart ∧
      ((s waits).nothingWaits ↔ waits = []) ∧ ((t waits).nothingWaits ↔ waits = []) ∧
      ((t waits).haltsNext ∧ ¬(t waits).emitsNext) ∧
      (∀ x ∈ [s waits, t waits], x.openRecordsWait ∧ x.flagsHaveReasons ∧ x.linkedAreOpen ∧
        x.idsInOrder ∧ x.withinCapacity ∧ x.oneFilling ∧ x.agg.cur ≠ none ∧
        QueuedFrame.verdict v ∈ x.link.queue ∧ v.withdrawn = false ∧ v.edge = 40) := by
  intro v s t waits hw
  have shared : ∀ x : State, x.store = eventRecord.store → x.corr = eventRecord.corr →
      x.det.mode = eventRecord.det.mode → x.flagsHaveReasons ∧ x.linkedAreOpen := by
    intro x hs hc hd
    simp only [State.flagsHaveReasons, State.linkedAreOpen, hs, hc, hd]
    exact ⟨eventRecord_flagsHaveReasons, eventRecord_linkedAreOpen⟩
  rcases List.mem_pair.1 hw with rfl | rfl
  all_goals
    refine ⟨rfl, by decide +kernel, by decide +kernel, by decide +kernel, fun x hx => ?_⟩
    rcases List.mem_pair.1 hx with rfl | rfl <;>
      exact ⟨by decide +kernel, (shared _ rfl rfl rfl).1, (shared _ rfl rfl rfl).2,
        by decide +kernel⟩

/-- Offsets 7, 8, 23 and 24 of a request that meets a FILLING slot; no slot FILLING, with all FREE and
with none; the newest refresh the anchor and one after it, where copies 7 and 8 are the last ones; OFF;
an empty history. -/
theorem witness_CaptureRequestIsDecided :
    let s := (filling running).withRms { running.rms with history := [flat 19 0 0 .watch] }
    let t := running.withRms { running.rms with history := [flat 19 0 0 .watch] }
    let full := t.withCap { t.cap with slots := Vector.replicate 8 { slotReset with state := .held } }
    (s.cap.view = .run ∧ s.cap.on = true ∧ s.rms.history ≠ [] ∧ s.fillingSlot = some 3) ∧
    ([17, 18, 33, 34].map fun a : RefIndex => (a - s.cap.slots[(3 : Fin 8)].first).toNat) =
      [7, 8, 23, 24] ∧
    (∀ k : Fin 8, t.cap.slots[k].state ≠ .filling) ∧ t.cap.slots[(0 : Fin 8)].state = .free ∧
    (∀ k : Fin 8, full.cap.slots[k].state ≠ .free ∧ full.cap.slots[k].state ≠ .filling) ∧
    (19 : RefIndex) = 19 + BitVec.ofNat 48 0 ∧ (19 : RefIndex) = 18 + BitVec.ofNat 48 1 ∧
    (∀ j : Fin 9, some (7 : Fin 9) = some j → j.val < 8 + 0) ∧
    (∀ j : Fin 9, some (8 : Fin 9) = some j → 8 + 0 ≤ j.val ∧ j.val < 8 + 1) ∧
    running.rms.history = [] ∧ (running.withCap { running.cap with on := false }).cap.on = false := by
  decide +kernel

/-- Slot 3 filling from refresh 10: nothing copied at refresh 18, position 0 at refresh 19 unless it
is copied already, position 39 at refresh 50. -/
theorem witness_FillCopiesTheHalfCycle :
    let s (n : RefIndex) (copied : Nat) := (((filling (overrunning [])).withCfe
      { (overrunning []).cfe with pos := 63 }).withRms
        { running.rms with fill := 127, nextIndex := n }).setSlot 3
          { slotReset with state := .filling, holders := 1, first := 10, filled := copied }
    (¬(s 19 0).haltsNext ∧ (s 19 0).emitsNext ∧ (s 19 0).fillingSlot = some 3) ∧
    ((18 - 10 : RefIndex).toNat = 8 ∧ (19 - 10 : RefIndex).toNat = 9 ∧
      (50 - 10 : RefIndex).toNat = 40 ∧ (s 19 9).cap.slots[(3 : Fin 8)].filled = 9) ∧
    (s 19 0).oneFilling ∧
    ¬(overrunning []).emitsNext ∧ running.fillingSlot = none := by decide +kernel

theorem witness_ScrubsEnd :
    let s := State.reset.setSlot 3 { slotReset with state := .scrubbing, scrubEnd := some 5 }
    s.cap.slots[(3 : Fin 8)].state = .scrubbing ∧ s.cap.slots[(3 : Fin 8)].scrubEnd = some 5 ∧
    (s.elapse 50000).reached 5 = true ∧ s.cap.on = true ∧
    (∀ x ∈ [filling s, filling (s.withCap { s.cap with on := false }), filling running],
      x.idsInOrder ∧ x.withinCapacity ∧ x.oneFilling) ∧
    (filling running).cap.slots[(3 : Fin 8)].inUse = true ∧
    (filling running).scrubRunning = false := by decide +kernel

/-- R79 and R81 on a FILLING slot: with no scrub in progress, and with one in slot 5. -/
theorem test_memoryError_spoils_the_slot :
    let s := filling running
    let t := s.setSlot 5 { slotReset with state := .scrubbing, scrubEnd := some 4 }
    ((s.memoryError 3).cap.on = true ∧ (s.memoryError 3).cap.slots[3].scrubEnd = some 5 ∧
      (s.memoryError 3).store.queue.map Record.isOpen = [false]) ∧
    (t.memoryError 3).cap.on = false ∧ (t.memoryError 3).cap.slots[5].scrubEnd = none ∧
    (t.memoryError 3).ctl.causes[3] = ⟨true, 3, false⟩ := by decide +kernel

/-- Released, in RUN, with slot 1 the lowest CLOSED one; in EVENT; with a full store; outside RUN. -/
theorem witness_FallingEdgeOpensAContext :
    let s := withContexts (some (context 7 0)) none running
    s.mark.asserted = false ∧ s.mark.view = .run ∧ s.mark.lastEdge ≠ some (s.elapse 90000).now ∧
    s.corr.view = .run ∧ s.corr.slots[(1 : Fin 4)] = none ∧ s.idsInOrder ∧ s.withinCapacity ∧
    (∀ j : Fin 4, j < 1 → s.corr.slots[j] ≠ none) ∧ s.det.mode = .watch ∧
    s.store.queue.length < 48 ∧ 48 ≤ (fullStore s).store.queue.length ∧
    (judging (.held dipMeasure 9) (flat 5 70 2116 .held) s).det.mode ≠ .watch ∧
    State.reset.mark.view ≠ .run ∧
    (let h := [flat 7 70 2300 .watch, flat 6 60 2290 .watch]
     h = [flat 7 70 2300 .watch] ++ flat 6 60 2290 .watch :: [] ∧
     (flat 6 60 2290 .watch).index = (8 : RefIndex) - 2 ∧
     ∀ x ∈ [flat 7 70 2300 .watch], x.index ≠ (8 : RefIndex) - 2) := by decide +kernel

/-- The times of the line to the millisecond; an edge that lies just within the join window, and one
just before it; RESTART in service; a crossing that waits at a stop, for the detector alone and for
the tracker too. -/
theorem witness_MarkLineTimesAndAnchors :
    let low := running.withMark { running.mark with asserted := true, stuckExpiry := some 51 }
    let on := running.withMark { running.mark with drive := true, pulseEnd := some 2 }
    let stuck := running.withMark { running.mark with stuck := true, recoveryExpiry := some 1000 }
    (low.mark.asserted = true ∧ low.mark.drive = false) ∧
    (on.mark.pulseEnd = some 2 ∧ (on.elapse 20000).reached 2 = true) ∧
    (low.mark.stuckExpiry = some 51 ∧ (low.elapse 510000).reached 51 = true) ∧
    stuck.mark.asserted = false ∧ stuck.mark.stuck = true ∧
    stuck.mark.recoveryExpiry = some 1000 ∧ (stuck.elapse 10000000).reached 1000 = true ∧
    (let s := withContexts (some (context 60 0)) (some (context 19 0)) running
     s.markJoin = 40 ∧ atOrAfter (60 : Ms) (100 - BitVec.ofNat 48 s.markJoin) = true ∧
     atOrAfter (19 : Ms) (60 - BitVec.ofNat 48 s.markJoin) = false ∧
     isBefore (19 : Ms) 60 = true ∧ isBefore (60 : Ms) 19 = false) ∧
    (serving .restart running).port.inService = some .restart ∧
    (let e := flat 2 40 2069 .watch
     let s := judging .watch e running
     ∀ x ∈ [s, s.withRef { s.ref with handed := [e] }],
      x.ctl.state = .run ∧ x.viewsAgree ∧ x.det.handed = [e] ∧
      (x.ref.handed = [] ∨ x.ref.handed = [e]) ∧ x.det.mode = .watch ∧
      (∃ k : Fin 3, judgeCond (x.setFor e.index k) e.value[dIndex k] x.det.cond[k] ≠ .back) ∧
      x.store.queue.length < 48 ∧ (∀ k : Fin 4, x.corr.slots[k] = none) ∧ x.idsInOrder ∧
      x.withinCapacity ∧ x.oneFilling ∧ x.anchorAnswer e.stamp = .pulse) ∧
    { crossingWithin false with corrWithin := true }.corrWithin = true ∧
    ∀ mark : Bool, (crossingWithin mark).detTakes = true ∧ (crossingWithin mark).detEarly = false ∧
      (crossingWithin mark).corrEarly = false ∧ (crossingWithin mark).markEarly = mark := by
  decide +kernel

/-- The expiry to the tick; the first attempt after 24 bit times of idle line, to the tick. -/
theorem witness_PresentsAreHandedAndAttemptsBegin :
    let s := running.withLink { running.link with highFrom := some 0 }
    (running.ctl.state = .run ∧ running.ctl.presentExpiry = some 60000 ∧
      (running.elapse 600000000).reached 60000 = true) ∧
    s.link.queue = [.present] ∧ s.link.view = .run ∧ s.link.tx = .waiting ∧
    s.link.idleFrom = some 0 ∧ s.link.attempts = 0 ∧ 0 + 80 * 24 ≤ max s.time 1920 := by
  decide +kernel

/-- SENDING a PRESENT, a VERDICT at its seventh and at its eighth attempt, and a withdrawn one; the
end of a PRESENT of four bytes and the first bit sent as 1, to the tick. -/
theorem witness_AttemptEnds :
    let v (w : Bool) : QueuedVerdict := ⟨2, .upstream, 0, .triggered, 0, 0, 40, 9, w⟩
    let s (f : QueuedFrame) (a : Nat) := holding [dip 9] (withContexts (some (context 40 0)) none
      (running.withLink { running.link with tx := .sending, queue := [f], attempts := a }))
    (let x := (s .present 7).withLink { (s .present 7).link with
      txStart := 100, txBytes := [0x5C, 0x95, 0x80, 0x8F] }
     x.link.txStart + 800 * x.link.txBytes.length ≤ max x.time 3300 ∧
     max x.time 3299 < x.link.txStart + 800 * x.link.txBytes.length ∧
     x.link.txStart + 200 ≤ max x.time 300 ∧ max x.time 299 < x.link.txStart + 200) ∧
    (s .present 7).link.tx = .sending ∧ (s .present 7).link.queue = [.present] ∧
    7 ≤ (s .present 7).link.attempts ∧
    (QueuedFrame.verdict (v false)).isWithdrawn = false ∧
    (s (.verdict (v false)) 6).link.attempts < 7 ∧
    (QueuedFrame.verdict (v true)).isWithdrawn = true ∧ (v false).recordId ≠ 0 ∧
    dip 9 ∈ (s (.verdict (v false)) 7).store.queue ∧
    (s (.verdict (v false)) 7).corr.slots[(0 : Fin 4)] = some (context 40 0) := by decide +kernel

/-- A queue of seven; a full one with the head PRESENT waiting, or being sent with a second PRESENT
behind it, or being sent alone; a link outside RUN. -/
theorem witness_VerdictIsQueuedOrDropped :
    let v : QueuedFrame := .verdict ⟨2, .upstream, 0, .triggered, 0, 0, 40, 9, false⟩
    let s (tx : TxState) (q : List QueuedFrame) := running.withLink { running.link with
      queue := q, tx := tx }
    let mayGo (s : State) (i : Nat) : Prop :=
      s.link.queue[i]? = some .present ∧ ¬(i = 0 ∧ s.link.tx = .sending)
    let vs (n : Nat) := List.replicate n v
    (s .waiting (vs 7)).link.queue.length < 8 ∧ (s .waiting (vs 7)).link.view = .run ∧
    mayGo (s .waiting (.present :: vs 7)) 0 ∧
    (∀ i, i < 8 → ¬mayGo (s .sending (.present :: vs 7)) i) ∧
    8 ≤ (s .sending (.present :: vs 7)).link.queue.length ∧
    mayGo (s .sending (.present :: vs 6 ++ [.present])) 7 ∧
    (∀ j, j < 7 → ¬mayGo (s .sending (.present :: vs 6 ++ [.present])) j) ∧
    State.reset.link.view ≠ .run := by decide +kernel

/-- Each form of edge, at the bounds of a glitch and of a low stop bit; each receiver state; a byte
20 bit times after the stop bit of the last one, and one tick more. -/
theorem witness_NoticeEdgesBeginBytes :
    let s (r : RxState) (bs : List Byte) := running.withLink { running.link with
      rx := r, rxBytes := bs, rxEnd := 800, highFrom := some 800 }
    ((EdgeSample.start 0x5C).wf = true ∧ (EdgeSample.glitch 40).wf = true ∧
    (EdgeSample.broken 0x5C 761).wf = true ∧ riseAfter (.start 0xFF) = 80 ∧
    riseAfter (.start 0x7F) = 160 ∧ riseAfter (.start 0xFE) = 720 ∧
    (s .idle []).link.rx = .idle ∧ (s .receiving [0x5C]).link.rx = .receiving ∧
    (s .receiving [0x5C]).link.rxBytes.length = 1 ∧ (s .receiving [0x5C]).link.rxFault = none ∧
    (2400 ≤ (s .receiving [0x5C]).link.rxEnd + 1600 ∧
      (s .receiving [0x5C]).link.rxEnd + 1600 < 2401) ∧
    (s .trailing []).link.rx = .trailing ∧ (s .trailing []).link.idleFrom = some 800 ∧
    (s .recovering []).link.rx = .recovering ∧ (s .recovering []).link.tx ≠ .sending ∧
    (s .recovering []).stopBitAwaitedOnLine) ∧
    ∃ s', waiting.stopBitAwaitedOnLine ∧ waiting.link.onLine = false ∧ step waiting = .next s' :=
  ⟨by decide +kernel, _, by decide +kernel, by decide +kernel, rfl⟩

/-- R100: 0xFF falls at tick 0 and rises at 80. A receiver in RECOVERING is neither sending nor
receiving and finds the line idle from there; one that takes the byte, from its stop bit on; one that
has dropped it at the middle of that bit, from there. -/
theorem test_idle_while_neither_sending_nor_receiving :
    let s (r : RxState) := running.withLink { running.link with rx := r }
    let byte (r : RxState) := after (exec (.noticeFallingEdge 0 (.start 0xFF)) (s r))
    (byte .recovering).link.idleFrom = some 80 ∧ (byte .idle).link.idleFrom = some 800 ∧
    (after (exec (.frameMalformed 760 .badLeader) (byte .idle))).link.idleFrom = some 760 ∧
    (after (exec (.attemptStart 1999) (byte .recovering))).link.tx = .waiting ∧
    (after (exec (.attemptStart 2000) (byte .recovering))).link.tx = .sending := by decide +kernel

/-- Each fault at the moment where it is first found, and the moment before. -/
theorem witness_FaultyFramesRaiseFrameError :
    let l (r : RxState) (f : Option FrameFault) := { running.link with
      rx := r, rxFault := f, rxEnd := 800 }
    (faultPossible .framing (l .receiving (some .framing)) 760 = true ∧
      faultPossible .framing (l .receiving (some .framing)) 759 = false) ∧
    faultPossible .badLeader (l .receiving (some .badLeader)) 760 = true ∧
    faultPossible .badKind (l .receiving (some .badKind)) 760 = true ∧
    (faultPossible .tooShort (l .receiving none) 2401 = true ∧
      faultPossible .tooShort (l .receiving none) 2400 = false) ∧
    (faultPossible .tooLong (l .trailing (some .tooLong)) 0 = true ∧
      faultPossible .tooLong (l .trailing none) 0 = false) ∧
    (let s := trailing [0x5C, 0x95, 0x81, 0x8E] 0 running
     s.link.rx = .trailing ∧ s.link.rxFault = none ∧ s.link.idleFrom = some 0 ∧
     0 + 1600 ≤ max s.time 1600 ∧ decodeNotice s.link.rxBytes = none) ∧
    (let s := running.withLink { running.link with rx := .recovering, highFrom := some 0 }
     s.link.rx = .recovering ∧ s.link.highFrom = some 0) ∧
    State.reset.link.rx = .recovering ∧ State.reset.link.highFrom = none := by decide +kernel

theorem witness_PeersAreHeardAndAge :
    let n : Notice := .present 5 2 .star .hz50
    let s := trailing (encodeNotice n) 9 running
    let p := running.setPeer 5 ⟨true, some 2, some .star, some .hz50, some 0, 0⟩
    s.link.rx = .trailing ∧ s.link.rxFault = none ∧ s.link.idleFrom = some 0 ∧ 0 + 1600 ≤ max s.time 1600 ∧
    decodeNotice s.link.rxBytes = some n ∧ s.link.rxOwn = false ∧ senderOf n ≠ s.ctl.straps.addr ∧
    senderOf (.present 0 2 .star .hz50) = s.ctl.straps.addr ∧
    (s.withLink { s.link with rxOwn := true }).link.rxOwn = true ∧
    p.link.peers[(5 : Fin 16)].present = true ∧ p.link.peers[(5 : Fin 16)].lastHeard = some 0 ∧
    (p.elapse 1800000000).reached (0 + 180000) = true := by decide +kernel

/-- The first row of ch. 7 "Matching at One Receiver": c1 and c2 both 2 ms away, c1 the earlier; and an
estimate 9 ms beyond c2. -/
theorem witness_VerdictIsMatchedByAge :
    let n (age : BitVec 16) : Notice := .verdict 5 2 .downstream 0 .triggered age (-215) 5702
    let s := withContexts (some (context 30100 0)) (some (context 30104 0))
      (trailing (encodeNotice (n 37)) 30139 running)
    s.link.rx = .trailing ∧ s.link.rxFault = none ∧ decodeNotice s.link.rxBytes = some (n 37) ∧ s.link.rxOwn = false ∧
    (5 : Fin 16) ≠ s.ctl.straps.addr ∧ s.link.view = .run ∧
    clockDistance 30100 (30139 - (37 : BitVec 16).setWidth 48) = 2 ∧
    clockDistance 30104 (30139 - (37 : BitVec 16).setWidth 48) = 2 ∧
    isBefore 30100 30104 = true ∧
    3 < clockDistance 30104 (30152 - (39 : BitVec 16).setWidth 48) := by decide +kernel

theorem witness_FramesDecodeAndEncodeAgree : decodeRequest [0x0C, 29] = .get 29 ∧
    Request.get 29 ≠ .malformed := by decide

theorem witness_OwnVerdictIsComputed :
    let pre : PreValues := ⟨#v[2288, 2291, 2295], #v[3198, 3198, 3198], .watch⟩
    let e := flat 6 60 2000 .event
    let c := { context 40 4 with pre := some pre, linked := 9 }
    let d := { context 41 4 with own := some ⟨.upstream, 0, -60, 0, false, .triggered⟩ }
    let s := holding [dip 9] ((withContexts (some c) (some d) running).withRms { running.rms with
      history := [e, flat 5 50 2200 .watch, flat 4 40 2250 .watch] })
    let s := s.withCorr { s.corr with handed := [e] }
    s.corr.handed = [e] ∧ s.corr.slots[(0 : Fin 4)] = some c ∧ c.own = none ∧ c.pre = some pre ∧
    c.ref = e.index - 2 ∧ s.corr.slots[(1 : Fin 4)] = some d ∧ d.own ≠ none ∧
    (context 40 4).pre = none ∧ s.dueContexts e.index = [0] ∧ s.link.view = .run ∧
    s.link.queue.length < 8 ∧ c.linked ≠ 0 ∧ dip 9 ∈ s.store.queue ∧ (dip 9).id = c.linked ∧
    s.entry (e.index - 2) = some (flat 4 40 2250 .watch) ∧
    s.entry (e.index - 1) = some (flat 5 50 2200 .watch) := by decide +kernel

/-- Two contexts due at refresh 6, the one of the later edge in the lower slot, and a third whose
reference is refresh 5. -/
theorem witness_OwnVerdictIsComputed_due_contexts :
    let p : PreValues := ⟨#v[2288, 2291, 2295], #v[3198, 3198, 3198], .watch⟩
    let c (edge : Ms) (ref : RefIndex) := { context edge ref with pre := some p }
    let e := flat 6 60 2000 .event
    let s := running.withCorr { running.corr with
      handed := [e], slots := #v[some (c 41 4), some (c 40 4), some (c 50 5), none] }
    s.dueContexts e.index = [1, 0] ∧ (c 50 5).ref ≠ e.index - 2 ∧ isBefore (40 : Ms) 41 = true ∧
    isBefore (41 : Ms) 40 = false ∧ s.link.view = .run ∧
    s.link.queue.length + (s.dueContexts e.index).length ≤ 8 ∧
    ∀ j k : Fin 4, j ≠ k → ∀ x ∈ s.corr.slots[j], ∀ y ∈ s.corr.slots[k], x.edge ≠ y.edge := by
  decide +kernel

/-- A context with no VERDICT queued (a PRESENT waits), and with its VERDICT at the head, waiting or
being sent, or second. -/
theorem witness_ContextCloses :
    let c := { context 40 4 with linked := 9 }
    let v : QueuedVerdict := ⟨2, .upstream, 0, .triggered, 0, 0, 40, 9, false⟩
    let s := holding [dip 9] (withContexts (some c) none running)
    let s := s.withStore { s.store with nextId := 10 }
    let q (tx : TxState) (fs : List QueuedFrame) :=
      s.withLink { s.link with tx := tx, queue := fs, attempts := 2 }
    (∀ x ∈ [s, q .sending [.verdict v], q .waiting [.verdict v], q .waiting [.present, .verdict v]],
      x.idsInOrder ∧ x.withinCapacity ∧ x.corr.slots[(0 : Fin 4)] = some c ∧
      (x.elapse 20400000).reached c.close = true ∧ c.linked ≠ 0 ∧
      dip 9 ∈ x.store.queue ∧ (dip 9).id = c.linked ∧
      x.link.queue.countP (QueuedFrame.isVerdictOf c.edge) ≤ 1) ∧
    s.link.queue = [.present] ∧ (q .sending [.verdict v]).link.queue[0]? = some (.verdict v) ∧
    (q .waiting [.present, .verdict v]).link.queue[1]? = some (.verdict v) ∧
    v.edge = c.edge := by decide +kernel

theorem witness_LocusFollowsItsTable :
    let ds : List Reporter := [⟨.downstream, 2, 9⟩, ⟨.downstream, 2, 5⟩, ⟨.upstream, 3, 1⟩]
    let us : List Reporter := [⟨.upstream, 1, 2⟩, ⟨.indeterminate, 0, 0⟩]
    let is : List Reporter := [⟨.indeterminate, 1, 2⟩]
    (∃ r ∈ ds, r.verdict = .downstream) ∧
    ((∀ r ∈ us, r.verdict ≠ .downstream) ∧ ∃ r ∈ us, r.verdict = .upstream) ∧
    ∀ r ∈ is, r.verdict = .indeterminate := by decide

theorem witness_AggregatorTakesTheRefresh :
    let s := running.withAgg { running.agg with handed := [flat 7 70 2300 .watch] }
    s.agg.handed = [flat 7 70 2300 .watch] ∧ s.ctl.state = .run ∧
    s.agg.cur = some (beginInterval 0 0 0 true) ∧ State.reset.agg.cur = none := by decide +kernel

/-- The boundary at 600 s, to the millisecond, with nothing taken and with one refresh. -/
theorem witness_BoundaryWritesTheInterval :
    let i := beginInterval 0 0 0 true
    running.agg.cur = some i ∧ (running.elapse 6000000000).reached i.boundary = true ∧
    (running.elapse 5999999999).reached i.boundary = false ∧ running.agg.ring.length ≤ 144 ∧
    i.acc.count = 0 ∧ (i.acc.take (flat 7 70 2300 .watch)).count ≠ 0 := by decide +kernel

/-- Each kind of period; a response of three bytes read whole by four bytes, and cut short by three. -/
theorem witness_SelectPeriodsCarryFrames :
    let s := State.reset.withPort { State.reset.port with frame := .request 1 }
    let r := after (exec (.head 0) (serving .head State.reset))
    State.reset.port.frame = .none ∧ (1 : Byte) ≠ 0 ∧ s.port.frame = .request 1 ∧
    s.port.inService = none ∧ (serving .head s).port.inService ≠ none ∧
    (State.afterPinReset strapsDefault false true 0 []).port.frame = .ignored ∧
    r.port.frame = .none ∧ r.port.buffer = some [0x02, 0, 0] ∧
    (after (exec (.readFrame 0 4) r)).port.buffer = none ∧
    (after (exec (.readFrame 0 3) r)).port.buffer = some [0x02, 0, 0] ∧
    State.reset.port.buffer = none := by decide +kernel

theorem witness_ServingOffersTheResponse :
    let s := serving .head State.reset
    s.port.superseded = false ∧ s.port.pendingReq = none ∧
    (s.withPort { s.port with superseded := true }).port.superseded = true ∧
    (s.withPort { s.port with pendingReq := some (.status, false) }).port.pendingReq =
      some (.status, false) := by decide +kernel

/-- q = 10 and 11 of LIVE, items 29 and 30 of GET, an entry held and one not held of INTERVAL. -/
theorem witness_ReadingRequestsAreAnswered :
    let en := entryOf (beginInterval 0 0 0 true) 7 600 false
    let s := running.withAgg { running.agg with ring := [en] }
    (serving .malformed s).port.inService = some .malformed ∧
    (10 : Byte).toNat < 11 ∧ 10 < (11 : Byte).toNat ∧ (29 : Byte).toNat < 30 ∧
    29 < (30 : Byte).toNat ∧ en ∈ s.agg.ring ∧ en.seq = (7 : BitVec 32).toNat ∧
    (∀ e' ∈ s.agg.ring, e'.seq = (7 : BitVec 32).toNat → e' = en) ∧
    ∀ e ∈ s.agg.ring, e.seq ≠ (8 : BitVec 32).toNat := by decide +kernel

theorem witness_HeadIsReadAndReleased :
    let open9 := { dip 9 with isOpen := true }
    let held := { dip 9 with wave := WavePart.present 3 8 }
    let s (r : Record) := holding [r, dip 10] State.reset
    (serving .head (s (dip 9))).port.inService = some .head ∧ State.reset.store.queue = [] ∧
    (s open9).store.queue = [open9, dip 10] ∧ open9.isOpen = true ∧ (dip 9).isOpen = false ∧
    (dip 9).id = (9 : BitVec 16).toNat ∧ (∃ x ∈ [dip 10], x.id = (10 : BitVec 16).toNat) ∧
    (∀ r ∈ (s (dip 9)).store.queue, r.id ≠ (11 : BitVec 16).toNat) ∧
    held.wave = .present 3 8 ∧ (dip 9).wave = .absent .noSlot := by decide +kernel

/-- One position copied: h = 0 is read and h = 1 is not; q = 11, h = 40 and record 2 are out. -/
theorem witness_WaveReadsTheSlot :
    let s := serving (.wave 1 10 0) (filling running)
    let r := { dip 1 with isOpen := true, wave := WavePart.present 3 8 }
    s.port.inService = some (.wave 1 10 0) ∧ s.recordOf (1 : BitVec 16).toNat = some r ∧
    r.wave = .present 3 8 ∧ (0 : Byte).toNat < s.cap.slots[(3 : Fin 8)].filled ∧
    s.cap.slots[(3 : Fin 8)].filled ≤ (1 : Byte).toNat ∧ s.cap.slots[(3 : Fin 8)].inUse = true ∧
    10 < (11 : Byte).toNat ∧ 39 < (40 : Byte).toNat ∧ s.recordOf (2 : BitVec 16).toNat = none := by
  decide +kernel

theorem witness_TallyAndCausesAreCleared :
    let s := running.handToTally .dip 1900 2300 40
    (serving .tally running).port.inService = some .tally ∧
    (serving .causes waiting).port.inService = some .causes ∧
    running.store.tally[(0 : Fin 5)].count = 0 ∧ s.store.tally[(0 : Fin 5)].count ≠ 0 ∧
    s.store.tally[(0 : Fin 5)].residual = some 1900 ∧ s.store.tally[(0 : Fin 5)].maximum = some 2300 ∧
    s.store.tally[(0 : Fin 5)].duration = some 40 := by decide +kernel

/-- Items 29 and 30; item 0 in CONFIG; item 9 in RUN. -/
theorem witness_SetStoresTheItem :
    (serving (.set 29 31) State.reset).port.inService = some (.set 29 31) ∧
    (29 : Byte).toNat < 30 ∧ 29 < (30 : Byte).toNat ∧ State.reset.ctl.state = .config ∧
    (serving (.set 9 120) running).ctl.state ≠ .config := by decide +kernel

/-- Swell start - hysteresis equal to dip start + hysteresis, and one above it. -/
theorem witness_StartIsAnswered :
    let s (x : Int) := serving .start (withItem 5 50 (withItem 3 1020 (withItem 2 x State.reset)))
    (s 920).port.inService = some .start ∧ (s 920).ctl.state = .config ∧
    (s 920).item 3 - (s 920).item 5 ≤ (s 920).item 2 + (s 920).item 5 ∧
    (s 919).item 2 + (s 919).item 5 < (s 919).item 3 - (s 919).item 5 ∧
    running.ctl.state = .run ∧ running.enterHalted.ctl.state = .halted ∧
    (s 919).link.queue.length < 8 := by decide +kernel

/-- LINK_RESET with a VERDICT queued for the context of slot 0 and for record 9. -/
theorem witness_RestartAndLinkReset :
    let v : QueuedVerdict := ⟨2, .upstream, 0, .triggered, 0, 0, 40, 9, false⟩
    let s := holding [dip 9] (withContexts (some (context 40 0)) none
      (running.withLink { running.link with queue := [.verdict v] }))
    (serving .restart running).port.inService = some .restart ∧
    (serving .linkReset s).port.inService = some .linkReset ∧ running.oneFilling ∧
    s.corr.slots[(0 : Fin 4)] = some (context 40 0) ∧ s.corr.slots[(1 : Fin 4)] = none ∧
    s.store.queue[0]? = some (dip 9) ∧ QueuedFrame.verdict v ∈ s.link.queue ∧ v.withdrawn = false ∧
    v.edge = (context 40 0).edge ∧ v.recordId ≠ 0 ∧ v.recordId = (dip 9).id := by
  decide +kernel

end Sys2Proof.Tests
end

section
/-! The matching of a received VERDICT by its mark age (R115, R116): the candidates, the one
among them that beats all others, and what FRAME_COMPLETE makes of it in the contexts and the peer
table. -/

namespace Sys2Proof.Machine

/-! Clock values. -/

/-- Of two clock values near a third only one lies before the other. It needs the nearness: two
values half the range apart each lie before the other. -/
theorem isBefore_asymm_of_near {a b e : Ms} (ha : clockDistance a e ≤ 3)
    (hb : clockDistance b e ≤ 3) (h : isBefore a b = true) : isBefore b a = false := by
  simp only [clockDistance, isBefore, atOrAfter, Bool.not_eq_true', Bool.not_eq_false',
    decide_eq_true_eq, decide_eq_false_iff_not, BitVec.toNat_sub] at *
  split at ha <;> split at hb <;> omega

/-! The choice among the slots (R115). -/

/-- A slot is a candidate where it holds a context whose edge lies within 3 ms of the estimate. -/
theorem State.mem_matchCandidates {s : State} {e : Ms} {k : Fin 4} :
    k ∈ s.matchCandidates e ↔ ∃ c, s.corr.slots[k] = some c ∧ clockDistance c.edge e ≤ 3 := by
  simp only [State.matchCandidates, State.edgeDistance, List.mem_filter, List.mem_finRange,
    true_and]
  cases s.corr.slots[k] with
  | none => simp
  | some c => simp

/-- Of two contexts the better match is the nearer one, or the earlier of two equally near. -/
theorem State.betterMatch_iff {s : State} {e : Ms} {k j : Fin 4} {c d : Context}
    (hc : s.corr.slots[k] = some c) (hd : s.corr.slots[j] = some d) :
    s.betterMatch e k j = true ↔ clockDistance c.edge e < clockDistance d.edge e ∨
      (clockDistance c.edge e = clockDistance d.edge e ∧ isBefore c.edge d.edge = true) := by
  simp [State.betterMatch, State.edgeDistance, hc, hd]

/-- Of two candidates at most one is the better match. -/
theorem State.betterMatch_asymm {s : State} {e : Ms} {k j : Fin 4} (hk : k ∈ s.matchCandidates e)
    (hj : j ∈ s.matchCandidates e) (h : s.betterMatch e k j = true) :
    s.betterMatch e j k = false := by
  obtain ⟨c, hc, nearC⟩ := mem_matchCandidates.mp hk
  obtain ⟨d, hd, nearD⟩ := mem_matchCandidates.mp hj
  rw [betterMatch_iff hc hd] at h
  rw [Bool.eq_false_iff, Ne, betterMatch_iff hd hc]
  rintro (hlt | ⟨heq, hdc⟩)
  · omega
  · rcases h with hlt | ⟨-, hcd⟩
    · omega
    · simp [isBefore_asymm_of_near nearC nearD hcd] at hdc

/-- The head of a list is its best match where the rest has none. -/
theorem State.bestMatch_cons_of_none {s : State} {e : Ms} {k : Fin 4} {rest : List (Fin 4)}
    (h : s.bestMatch e rest = none) : s.bestMatch e (k :: rest) = some k := by
  simp [State.bestMatch, h]

/-- The best match of the rest stays the best one where it beats the head. -/
theorem State.bestMatch_cons_of_some {s : State} {e : Ms} {k j : Fin 4} {rest : List (Fin 4)}
    (h : s.bestMatch e rest = some j) :
    s.bestMatch e (k :: rest) = some (if s.betterMatch e j k then j else k) := by
  simp only [State.bestMatch, h, apply_ite some]

/-- The best match of a list is one of its slots. -/
theorem State.bestMatch_mem {s : State} {e : Ms} {m : Fin 4} {l : List (Fin 4)}
    (h : s.bestMatch e l = some m) : m ∈ l := by
  induction l with
  | nil => simp [State.bestMatch] at h
  | cons k rest ih =>
    cases hj : s.bestMatch e rest with
    | none =>
      rw [bestMatch_cons_of_none hj, Option.some_inj] at h
      exact h ▸ List.mem_cons_self
    | some j =>
      rw [bestMatch_cons_of_some hj, Option.some_inj] at h
      split at h
      · exact List.mem_cons_of_mem _ (ih (h ▸ hj))
      · exact h ▸ List.mem_cons_self

/-- A slot that beats every other one of a list, and that none of them beats, is its best match. -/
theorem State.bestMatch_eq_some {s : State} {e : Ms} {j : Fin 4} {l : List (Fin 4)} (hj : j ∈ l)
    (beats : ∀ i ∈ l, i ≠ j → s.betterMatch e j i = true)
    (unbeaten : ∀ i ∈ l, i ≠ j → s.betterMatch e i j = false) : s.bestMatch e l = some j := by
  induction l with
  | nil => simp at hj
  | cons k rest ih =>
    by_cases hkj : k = j
    · subst hkj
      cases hm : s.bestMatch e rest with
      | none => exact bestMatch_cons_of_none hm
      | some m =>
        by_cases hmk : m = k
        · simp [bestMatch_cons_of_some hm, hmk]
        · have := unbeaten m (List.mem_cons_of_mem _ (bestMatch_mem hm)) hmk
          simp [bestMatch_cons_of_some hm, this]
    · have hrest : s.bestMatch e rest = some j :=
        ih ((List.mem_cons.mp hj).resolve_left (Ne.symm hkj))
          (fun i hi => beats i (List.mem_cons_of_mem _ hi))
          (fun i hi => unbeaten i (List.mem_cons_of_mem _ hi))
      simp [bestMatch_cons_of_some hrest, beats k List.mem_cons_self hkj]

/-! What the matching writes (R115, R116). -/

/-- With no context within 3 ms of the estimate the VERDICT is counted at its sender's entry. -/
theorem State.matchVerdict_of_far {s : State} {v : PeerVerdict} {e : Ms}
    (far : ∀ (j : Fin 4) (c : Context), s.corr.slots[j] = some c → 3 < clockDistance c.edge e) :
    s.matchVerdict v e = s.setPeer v.addr s.link.peers[v.addr].countUnmatched := by
  have none_near : s.matchCandidates e = [] := by
    rw [List.eq_nil_iff_forall_not_mem]
    intro k hk
    obtain ⟨c, hc, near⟩ := mem_matchCandidates.mp hk
    have := far k c hc
    omega
  simp [State.matchVerdict, none_near, State.bestMatch]

/-- A candidate that is a better match than every other context takes the VERDICT's entry. -/
theorem State.matchVerdict_of_nearest {s : State} {v : PeerVerdict} {e : Ms} {j : Fin 4}
    {c : Context} (hc : s.corr.slots[j] = some c) (near : clockDistance c.edge e ≤ 3)
    (nearest : ∀ (i : Fin 4) (d : Context), i ≠ j → s.corr.slots[i] = some d →
      clockDistance c.edge e < clockDistance d.edge e ∨
        (clockDistance c.edge e = clockDistance d.edge e ∧ isBefore c.edge d.edge = true)) :
    s.matchVerdict v e =
      s.withCorr { s.corr with slots := s.corr.slots.set j (some (c.addPeer v)) } := by
  have hj : j ∈ s.matchCandidates e := mem_matchCandidates.mpr ⟨c, hc, near⟩
  have beats : ∀ i ∈ s.matchCandidates e, i ≠ j → s.betterMatch e j i = true := by
    intro i hi hij
    obtain ⟨d, hd, -⟩ := mem_matchCandidates.mp hi
    exact (betterMatch_iff hc hd).mpr (nearest i d hij hd)
  have best : s.bestMatch e (s.matchCandidates e) = some j :=
    bestMatch_eq_some hj beats fun i hi hij => betterMatch_asymm hj hi (beats i hi hij)
  simp only [State.matchVerdict, best, hc, Option.map_some]

/-- An entry is taken unless one from its address stands (R116). -/
theorem Context.addPeer_eq (c : Context) (v : PeerVerdict) :
    c.addPeer v = if ∃ p ∈ c.peers, p.addr = v.addr then c
      else { c with peers := c.peers ++ [v] } := by
  simp [Context.addPeer]

/-! The peer table (R114). -/

@[simp] theorem State.setPeer_peers_same (s : State) (a : Fin 16) (p : Peer) :
    (s.setPeer a p).link.peers[a] = p := by
  simp [State.setPeer]

@[simp] theorem Peer.hear_unmatched (p : Peer) (n : Notice) (leader : Ms) :
    (p.hear n leader).unmatched = p.unmatched := by
  cases n <;> rfl

@[simp] theorem State.updatePeer_corr (s : State) (n : Notice) (leader : Ms) :
    (s.updatePeer n leader).corr = s.corr := by
  simp only [State.updatePeer]
  split <;> rfl

/-- A received frame is heard at its sender's entry. -/
theorem State.updatePeer_peers_sender (s : State) (n : Notice) (leader : Ms) :
    (s.updatePeer n leader).link.peers[senderOf n] =
      s.link.peers[senderOf n].hear n leader := by
  simp only [State.updatePeer]
  split <;> simp only [State.raise_link, State.setPeer_peers_same]

/-! FRAME_COMPLETE (R111 to R113). -/

/-- A line idle since `t0` has been so for every length that has passed since. -/
theorem idleFor_of_le {time t0 ticks : Nat} (h : t0 + ticks ≤ time) :
    idleFor time (some t0) ticks = true := decide_eq_true h

/-- A complete valid frame of another station from another address ends the reception and is
taken. -/
theorem exec_frameComplete_of_heard {t t0 : Nat} {s : State} {n : Notice}
    (trailing : s.link.rx = .trailing) (sound : s.link.rxFault = none)
    (idle : s.link.idleFrom = some t0) (passed : t0 + 1600 ≤ max s.time t)
    (valid : decodeNotice s.link.rxBytes = some n) (foreign : s.link.rxOwn = false)
    (other : senderOf n ≠ s.ctl.straps.addr) :
    exec (.frameComplete t) s =
      .next (((s.elapse t).withLink s.link.endFrame).takeNotice n s.link.rxLeader) := by
  have idle20 : idleFor (max s.time t) (some t0) Config.frameGapTicks = true :=
    idleFor_of_le passed
  have judged : (s.elapse t).judgeFrame =
      ((s.elapse t).withLink s.link.endFrame).takeNotice n s.link.rxLeader := by
    simp [State.judgeFrame, valid, foreign, other]
  calc exec (.frameComplete t) s = execFrameComplete t s := rfl
    _ = .next (s.elapse t).judgeFrame := by
      simp [execFrameComplete, trailing, sound, idle, idle20]
    _ = _ := by rw [judged]

/-- Settles O43: FRAME_COMPLETE hears the sender, which leaves the contexts and the unmatched count
alone, and then matches the VERDICT. -/
theorem verdictIsMatchedByAge : Obligations.VerdictIsMatchedByAge := by
  unfold Obligations.VerdictIsMatchedByAge
  intro t t0 s addr level v k o age dU dI trailing sound idle passed valid foreign other
    estimate distance entry
  let n : Notice := .verdict addr level v k o age dU dI
  let u := ((s.elapse t).withLink s.link.endFrame).updatePeer n s.link.rxLeader
  have u_corr : u.corr = s.corr := State.updatePeer_corr _ _ _
  have u_unmatched : u.link.peers[addr].unmatched = s.link.peers[addr].unmatched :=
    (congrArg Peer.unmatched (State.updatePeer_peers_sender _ n _)).trans
      (Peer.hear_unmatched _ _ _)
  refine ⟨_, exec_frameComplete_of_heard trailing sound idle passed valid foreign other,
    fun hview => ?notRun, fun hview far => ?unmatched, fun j c hview hc near nearest => ?matched⟩
  case notRun =>
    have taken : ((s.elapse t).withLink s.link.endFrame).takeNotice n s.link.rxLeader = u :=
      if_neg hview
    rw [taken]
    exact ⟨u_corr, u_unmatched⟩
  all_goals
    have taken : ((s.elapse t).withLink s.link.endFrame).takeNotice n s.link.rxLeader =
      u.matchVerdict entry estimate := if_pos hview
    rw [taken]
  case unmatched =>
    rw [State.matchVerdict_of_far (by rwa [u_corr])]
    refine ⟨u_corr, ?_⟩
    rw [State.setPeer_peers_same, ← u_unmatched]
    rfl
  case matched =>
    rw [State.matchVerdict_of_nearest (by rwa [u_corr]) near (by rwa [u_corr]), u_corr]
    refine ⟨?_, fun i hij => ?_, u_unmatched⟩
    · simp [Context.addPeer_eq, entry]
    · have hne : j.val ≠ i.val := fun h => hij (Fin.ext h.symm)
      simp [hne]

end Sys2Proof.Machine
end

section
/-! The locus (R135): the least and the greatest of a list, the boundary that a level gives, and
one equation of `locusOf` for each row of the table. -/

namespace Sys2Proof.Machine

/-! The boundary of a list of reporters. -/

/-- The least of a list that is not empty is one of its numbers, and none lies below it. -/
theorem leastOf_spec {xs : List Nat} (h : xs ≠ []) :
    leastOf xs ∈ xs ∧ ∀ x ∈ xs, leastOf xs ≤ x := by
  cases xs with
  | nil => exact absurd rfl h
  | cons x rest => exact List.min?_eq_some_iff.mp List.min?_cons'

/-- The greatest of a list that is not empty is one of its numbers, and none lies above it. The 0
it is folded from is the greatest only where the list itself holds nothing else. -/
theorem greatestOf_spec {xs : List Nat} (h : xs ≠ []) :
    greatestOf xs ∈ xs ∧ ∀ x ∈ xs, x ≤ greatestOf xs := by
  have withZero : (0 :: xs).max? = some (greatestOf xs) := List.max?_cons'
  obtain ⟨mem, all⟩ := List.max?_eq_some_iff.mp withZero
  have upper : ∀ x ∈ xs, x ≤ greatestOf xs := fun x hx => all x (List.mem_cons_of_mem 0 hx)
  refine ⟨?_, upper⟩
  rcases List.mem_cons.mp mem with zero | mem
  · obtain ⟨x, hx⟩ := List.exists_mem_of_ne_nil xs h
    have same : greatestOf xs = x := by have := upper x hx; omega
    rwa [same]
  · exact mem

/-- The lowest address among the reporters at a level: the boundary address of both rows that have
one. -/
def lowestAddrAt (rs : List Reporter) (level : Nat) : Nat :=
  leastOf ((rs.filter fun r => r.level == level).map Reporter.addr)

theorem lowestAddrAt_spec {rs : List Reporter} {level : Nat} (h : ∃ r ∈ rs, r.level = level) :
    (∃ r ∈ rs, r.level = level ∧ r.addr = lowestAddrAt rs level) ∧
    ∀ r ∈ rs, r.level = level → lowestAddrAt rs level ≤ r.addr := by
  have mem_at {a : Nat} : a ∈ (rs.filter fun r => r.level == level).map Reporter.addr ↔
      ∃ r ∈ rs, r.level = level ∧ r.addr = a := by
    simp [and_assoc]
  obtain ⟨r, hr, hlevel⟩ := h
  obtain ⟨mem, least⟩ := leastOf_spec (List.ne_nil_of_mem (mem_at.mpr ⟨r, hr, hlevel, rfl⟩))
  exact ⟨mem_at.mp mem, fun q hq hql => least _ (mem_at.mpr ⟨q, hq, hql, rfl⟩)⟩

/-! The rows of the table. -/

/-- The reporters that saw the cause beneath them: DS of R135. -/
def downstreamOf (rs : List Reporter) : List Reporter :=
  rs.filter fun r => r.verdict == .downstream

@[simp] theorem mem_downstreamOf {rs : List Reporter} {r : Reporter} :
    r ∈ downstreamOf rs ↔ r ∈ rs ∧ r.verdict = .downstream := by
  simp [downstreamOf]

theorem downstreamOf_eq_nil {rs : List Reporter} :
    downstreamOf rs = [] ↔ ∀ r ∈ rs, r.verdict ≠ .downstream := by
  simp [downstreamOf]

theorem locusOf_of_downstream {rs : List Reporter} (h : downstreamOf rs ≠ []) :
    locusOf rs =
      let level := greatestOf ((downstreamOf rs).map Reporter.level)
      (.below, level, lowestAddrAt (downstreamOf rs) level,
        decide (1 < ((downstreamOf rs).filter fun r => r.level == level).length)) :=
  if_pos h

theorem locusOf_of_upstream {rs : List Reporter} (noDown : downstreamOf rs = [])
    (h : ∃ r ∈ rs, r.verdict = .upstream) :
    locusOf rs =
      let level := leastOf (rs.map Reporter.level)
      (.above, level, lowestAddrAt rs level, false) :=
  (if_neg (not_not_intro noDown)).trans (if_pos (by simpa using h))

theorem locusOf_of_indeterminate {rs : List Reporter}
    (h : ∀ r ∈ rs, r.verdict = .indeterminate) : locusOf rs = (.unknown, 0, 0, false) := by
  have noDown : downstreamOf rs = [] := downstreamOf_eq_nil.mpr fun r hr => by simp [h r hr]
  have noUpstream : ¬ (rs.any fun r => r.verdict == .upstream) = true := by
    simp only [List.any_eq_true, beq_iff_eq, not_exists, not_and]
    exact fun r hr => by simp [h r hr]
  exact (if_neg (not_not_intro noDown)).trans (if_neg noUpstream)

/-- The station reports its own verdict, and every entry of the peer verdict list its sender's. -/
theorem mem_reporters {straps : Straps} {c : Context} {r : Reporter} :
    r ∈ reporters straps c ↔
      (∃ o, c.own = some o ∧ r = ⟨o.verdict, straps.level.val, straps.addr.val⟩) ∨
      ∃ p ∈ c.peers, r = ⟨p.verdict, p.level.val, p.addr.val⟩ := by
  cases hown : c.own <;> simp [reporters, hown, eq_comm]

/-- Settles O47, row by row: the boundary level is the greatest of DS or the least of all
reporters, so a reporter stands at it, and the boundary address is the lowest there. -/
theorem locusFollowsItsTable : Obligations.LocusFollowsItsTable := by
  unfold Obligations.LocusFollowsItsTable
  intro rs l
  refine ⟨fun ⟨r, hr, hdown⟩ => ?below, fun noDown hup => ?above, locusOf_of_indeterminate,
    fun _ _ _ => mem_reporters⟩
  case below =>
    have hds : r ∈ downstreamOf rs := mem_downstreamOf.mpr ⟨hr, hdown⟩
    obtain ⟨levelMem, greatest⟩ :=
      greatestOf_spec (List.ne_nil_of_mem (List.mem_map_of_mem (f := Reporter.level) hds))
    obtain ⟨⟨b, hb, hlevel, haddr⟩, lowest⟩ := lowestAddrAt_spec (List.mem_map.mp levelMem)
    obtain ⟨hbrs, hbdown⟩ := mem_downstreamOf.mp hb
    have hl : l = _ := locusOf_of_downstream (List.ne_nil_of_mem hds)
    rw [hl]
    refine ⟨rfl, ⟨b, hbrs, hbdown, hlevel, haddr⟩, fun q hq hqdown => ?_, ?ambiguous⟩
    · have hqds : q ∈ downstreamOf rs := mem_downstreamOf.mpr ⟨hq, hqdown⟩
      exact ⟨greatest _ (List.mem_map_of_mem hqds), lowest q hqds⟩
    case ambiguous =>
      simp only [decide_eq_true_eq, Nat.lt_iff_add_one_le, ← List.countP_eq_length_filter,
        downstreamOf, List.countP_filter, Bool.and_comm]
  case above =>
    have ⟨r, hr, _⟩ := hup
    obtain ⟨levelMem, least⟩ :=
      leastOf_spec (List.ne_nil_of_mem (List.mem_map_of_mem (f := Reporter.level) hr))
    obtain ⟨boundary, lowest⟩ := lowestAddrAt_spec (List.mem_map.mp levelMem)
    have hl : l = _ := locusOf_of_upstream (downstreamOf_eq_nil.mpr noDown) hup
    rw [hl]
    exact ⟨rfl, boundary, fun q hq => ⟨least _ (List.mem_map_of_mem hq), lowest q hq⟩, rfl⟩

end Sys2Proof.Machine
end

section
/-! The interval aggregator (ch. 10): what a refresh adds to the accumulators (R160), and the entry,
the ring and the next interval that a boundary makes (R158, R162 to R164). -/

namespace Sys2Proof.Machine

/-! The quantities accumulated (R160). -/

/-- The sums 0 to 2, and the extremes 0 to 2, are those of D1 to D3. -/
theorem sumQuantity_of_lt_three (k : Fin 3) (h : k.val < 8) :
    sumQuantity ⟨k.val, h⟩ = dIndex k := by
  have hk := k.isLt
  simp [sumQuantity, dIndex, Nat.mod_eq_of_lt hk]

/-- From U4 on, a sum is that of the quantity with its own number. -/
theorem sumQuantity_of_three_le {j : Nat} (h : j < 8) (hj : 3 ≤ j) :
    sumQuantity ⟨j, h⟩ = ⟨j, by omega⟩ := by
  apply Fin.ext
  simp only [sumQuantity, Nat.not_lt.mpr hj, if_false]
  split
  · next three => exact three.symm
  · rfl

/-! What a refresh adds (R160). -/

/-- The two orders of the lesser agree, with nothing held as with a value held. -/
theorem lesserOf_eq (old : Option Nat) (x : Nat) : lesserOf old x = old.elim x (min · x) := by
  cases old with
  | none => rfl
  | some y => exact Nat.min_comm x y

theorem greaterOf_eq (old : Option Nat) (x : Nat) : greaterOf old x = old.elim x (max · x) := by
  cases old with
  | none => rfl
  | some y => exact Nat.max_comm x y

theorem Refresh.anyClip_iff {e : Refresh} :
    e.anyClip = true ↔ ∃ q : Fin 11, e.clip[q] = true := by
  simp [Refresh.anyClip]

theorem Accumulators.take_sums {j : Nat} {h : j < 8} {q : Fin 11} (hq : sumQuantity ⟨j, h⟩ = q)
    (a : Accumulators) (e : Refresh) : (a.take e).sums[j] = a.sums[j] + e.value[q] ^ 2 := by
  subst hq
  simp [Accumulators.take, Nat.pow_two]

theorem Accumulators.take_extremes {j : Nat} {h : j < 4} {q : Fin 11}
    (hq : sumQuantity ⟨j, by omega⟩ = q) (a : Accumulators) (e : Refresh) :
    (a.take e).dmin[j] = some ((a.dmin[j]).elim e.value[q] (min · e.value[q])) ∧
    (a.take e).dmax[j] = some ((a.dmax[j]).elim e.value[q] (max · e.value[q])) := by
  subst hq
  constructor
  · simp [Accumulators.take, extremeQuantity, lesserOf_eq]
  · simp [Accumulators.take, extremeQuantity, greaterOf_eq]

theorem Accumulators.take_flagged (a : Accumulators) (e : Refresh) :
    (a.take e).flagged = true ↔ a.flagged = true ∨ e.det ≠ .watch := by
  simp [Accumulators.take]

theorem Accumulators.take_freeRun (a : Accumulators) (e : Refresh) :
    (a.take e).freeRun = true ↔ a.freeRun = true ∨ e.freeRun = true := by
  simp [Accumulators.take]

theorem Accumulators.take_clip (a : Accumulators) (e : Refresh) :
    (a.take e).clip = true ↔ a.clip = true ∨ ∃ q : Fin 11, e.clip[q] = true := by
  simp only [Accumulators.take, Bool.or_eq_true, Refresh.anyClip_iff]

/-- The oldest refresh handed over is taken off the list, and into an open interval in RUN. -/
theorem State.aggregatorTakes_of_cons {s : State} {e : Refresh} {rest : List Refresh}
    (h : s.agg.handed = e :: rest) :
    s.aggregatorTakes = s.withAgg { s.agg with
      handed := rest
      cur := if s.ctl.state = .run then
          s.agg.cur.map fun i => { i with acc := i.acc.take e }
        else s.agg.cur } := by
  simp only [State.aggregatorTakes, h]
  split <;> simp

/-- Settles O48: the refresh leaves the list of those handed over, and in RUN it enters the
accumulators of an open interval, whose sums are those of D1 to D3, of U4 and of I1 to I4. -/
theorem aggregatorTakesTheRefresh : Obligations.AggregatorTakesTheRefresh := by
  unfold Obligations.AggregatorTakesTheRefresh
  intro t e rest s handed
  have frame : onlyChanges [.agg] s (s.elapse t).aggregatorTakes :=
    onlyChanges_trans (onlyChanges_mono (s.elapse_onlyChanges t) (by simp))
      (s.elapse t).aggregatorTakes_onlyChanges
  have taken := State.aggregatorTakes_of_cons (s := s.elapse t) handed
  refine ⟨(s.elapse t).aggregatorTakes, rfl, frame, ?_⟩
  rw [taken]
  refine ⟨rfl, rfl, rfl, fun nothing => ?unchanged, fun i running opened => ?added⟩
  case unchanged =>
    rcases nothing with notRun | noneOpen
    · simp [notRun]
    · simp [noneOpen]
  case added =>
    have u4 : sumQuantity ⟨3, by omega⟩ = 3 := sumQuantity_of_three_le _ le_rfl
    obtain ⟨minU4, maxU4⟩ := i.acc.take_extremes u4 e
    exact ⟨i.acc.take e, by simp [running, opened],
      fun k => i.acc.take_sums (sumQuantity_of_lt_three k _) e, i.acc.take_sums u4 e,
      fun k => i.acc.take_sums (sumQuantity_of_three_le _ (by omega)) e,
      fun k => i.acc.take_extremes (sumQuantity_of_lt_three k _) e, minU4, maxU4,
      rfl, rfl, rfl, i.acc.take_flagged e, i.acc.take_freeRun e, i.acc.take_clip e⟩

/-! The entry and the ring (R163, R164). -/

/-- In a ring of at most 144 the oldest entry leaves exactly where the ring was full. -/
theorem pushEntry_eq {ring : List IntervalEntry} (h : ring.length ≤ 144) (e : IntervalEntry) :
    pushEntry ring e = (ring ++ [e]).drop (ring.length + 1 - 144) := by
  unfold pushEntry Config.ringSize
  split
  · next room =>
    rw [show ring.length + 1 - 144 = 0 by omega, List.drop_zero]
  · next full =>
    have nonempty : ring ≠ [] := by rintro rfl; simp at full
    rw [show ring.length + 1 - 144 = 1 by omega, List.drop_one,
      List.tail_append_of_ne_nil nonempty]

/-- The entry's roots are exact: `isqrt` is the integer square root of each mean square. -/
theorem entryOf_holds (i : Interval) (seq length : Nat) (isPartial : Bool) :
    entryHolds i (entryOf i seq length isPartial) := by
  refine ⟨rfl, rfl, rfl, rfl, fun empty j => ?zeros, fun taken j => ?roots, fun j => ?extremes, rfl⟩
  case zeros => simp [entryOf, empty]
  case roots =>
    have root : (entryOf i seq length isPartial).rms[j] =
        isqrt (i.acc.sums[j] / i.acc.count) := by simp [entryOf, taken]
    rw [root, Nat.pow_two, Nat.pow_two]
    exact isqrt_spec _
  case extremes => simp [entryOf]

theorem State.writeInterval_onlyChanges (s : State) (i : Interval) (length : Nat)
    (isPartial : Bool) (next : Option Interval) :
    onlyChanges [.agg, .ctl] s (s.writeInterval i length isPartial next) :=
  onlyChanges_trans (onlyChanges_mono (s.withAgg_onlyChanges _) (by simp))
    (onlyChanges_mono (State.raise_onlyChanges _ .intervalDone 0) (by simp))

theorem State.writeInterval_cur (s : State) (i : Interval) (length : Nat) (isPartial : Bool)
    (next : Option Interval) : (s.writeInterval i length isPartial next).agg.cur = next := rfl

theorem State.writeInterval_written {s : State} (h : s.agg.ring.length ≤ 144) (i : Interval)
    (length : Nat) (isPartial : Bool) (next : Option Interval) :
    intervalWritten s (s.writeInterval i length isPartial next) i length isPartial :=
  ⟨State.raise_causes _ .intervalDone 0 10, rfl, entryOf i s.agg.nextSeq length isPartial,
    pushEntry_eq h _, rfl, rfl, rfl, rfl, entryOf_holds ..⟩

/-! The boundary (R162). -/

/-- The interval that follows `i` at its boundary. -/
def Interval.following (i : Interval) (startTime : Ms) : Interval :=
  let length := secondsToBoundary i.start.sec
  beginInterval startTime ((i.start.sec + length) % 2 ^ 32) (i.elapsed + msOf (1000 * length)) false

theorem exec_intervalBoundary_of_reached {t : Nat} {i : Interval} {s : State}
    (opened : s.agg.cur = some i) (reached : (s.elapse t).reached i.boundary = true) :
    exec (.intervalBoundary t) s =
      .next ((s.elapse t).writeInterval i (secondsToBoundary i.start.sec)
        (i.atStart || decide (secondsToBoundary i.start.sec < 600))
        (some (i.following s.store.startTime))) := by
  calc exec (.intervalBoundary t) s = execIntervalBoundary t s := rfl
    _ = _ := by simp [execIntervalBoundary, opened, reached, Interval.following]

/-- Settles O49: the interval that ends is written, and the one that follows it begins with cleared
accumulators at the boundary. -/
theorem boundaryWritesTheInterval : Obligations.BoundaryWritesTheInterval := by
  unfold Obligations.BoundaryWritesTheInterval
  intro t i s opened reached ringSize
  refine ⟨_, i.following s.store.startTime, exec_intervalBoundary_of_reached opened reached, ?frame,
    State.writeInterval_written (s := s.elapse t) ringSize .., State.writeInterval_cur ..,
    rfl, rfl, rfl, rfl, rfl⟩
  case frame =>
    exact onlyChanges_trans (onlyChanges_mono (s.elapse_onlyChanges t) (by simp))
      (State.writeInterval_onlyChanges ..)

end Sys2Proof.Machine
end

section
/-! Frames (R95 of the steps' list): the blocks that each operation of several blocks may change,
together with what none of them changes: the clock, the straps and items, the station state, the
START time, a cause once set, and ATTN as the causes give it. -/

namespace Sys2Proof.Machine

/-- What every operation of the blocks leaves alone: only a few commands move the clock, the free
value, the straps, the items, the station state, the PRESENT period or the START time, and a cause
that is set stays set with ATTN following it (R181, R184, R189, R191). -/
structure Steady (s s' : State) : Prop where
  time : s'.time = s.time
  free : s'.free = s.free
  straps : s'.ctl.straps = s.ctl.straps
  items : s'.ctl.items = s.ctl.items
  state : s'.ctl.state = s.ctl.state
  presentExpiry : s'.ctl.presentExpiry = s.ctl.presentExpiry
  startTime : s'.store.startTime = s.store.startTime
  frozenBase : s'.store.frozenBase = s.store.frozenBase
  causes : ∀ b : Fin 13, s.ctl.causes[b].isSet = true → s'.ctl.causes[b].isSet = true
  attn : s'.ctl.attn = attnOf s'.ctl.causes s'.attnMask ∨
    s'.ctl.attn = s.ctl.attn ∧ s'.ctl.causes = s.ctl.causes

theorem Steady.refl (s : State) : Steady s s :=
  ⟨rfl, rfl, rfl, rfl, rfl, rfl, rfl, rfl, fun _ h => h, .inr ⟨rfl, rfl⟩⟩

/-- The mask is an item, so it stands with the items. -/
theorem Steady.attnMask {s t : State} (h : Steady s t) : t.attnMask = s.attnMask := by
  simp only [State.attnMask, State.item, h.items]

theorem Steady.trans {s t u : State} (h : Steady s t) (h' : Steady t u) : Steady s u where
  time := h'.time.trans h.time
  free := h'.free.trans h.free
  straps := h'.straps.trans h.straps
  items := h'.items.trans h.items
  state := h'.state.trans h.state
  presentExpiry := h'.presentExpiry.trans h.presentExpiry
  startTime := h'.startTime.trans h.startTime
  frozenBase := h'.frozenBase.trans h.frozenBase
  causes := fun b hb => h'.causes b (h.causes b hb)
  attn := by
    rcases h'.attn with new | ⟨attn, causes⟩
    · exact .inl new
    · rw [attn, causes, h'.attnMask]
      exact h.attn

/-- An operation that leaves the clock, the free value, the controller and the two fields of the
time base is steady. -/
theorem Steady.of_ctl {s t : State} (time : t.time = s.time) (free : t.free = s.free)
    (ctl : t.ctl = s.ctl) (startTime : t.store.startTime = s.store.startTime)
    (frozenBase : t.store.frozenBase = s.store.frozenBase) : Steady s t :=
  ⟨time, free, by rw [ctl], by rw [ctl], by rw [ctl], by rw [ctl], startTime, frozenBase,
    by rw [ctl]; exact fun _ h => h, .inr ⟨by rw [ctl], by rw [ctl]⟩⟩

/-- An operation changes only the listed blocks, and steadily. -/
structure Frame (bs : List Block) (s s' : State) : Prop where
  only : onlyChanges bs s s'
  steady : Steady s s'

theorem Frame.refl (bs : List Block) (s : State) : Frame bs s s :=
  ⟨onlyChanges_refl bs s, Steady.refl s⟩

theorem Frame.mono {bs cs : List Block} {s t : State} (h : Frame bs s t)
    (hsub : ∀ b ∈ bs, b ∈ cs) : Frame cs s t :=
  ⟨onlyChanges_mono h.only hsub, h.steady⟩

/-- Two operations one after the other change the blocks of both. -/
theorem Frame.comp {bs cs : List Block} {s t u : State} (h : Frame bs s t) (h' : Frame cs t u) :
    Frame (bs ++ cs) s u :=
  ⟨onlyChanges_trans (onlyChanges_mono h.only fun _ => List.mem_append_left cs)
    (onlyChanges_mono h'.only fun _ => List.mem_append_right bs), h.steady.trans h'.steady⟩

theorem Frame.trans {bs : List Block} {s t u : State} (h : Frame bs s t) (h' : Frame bs t u) :
    Frame bs s u :=
  ⟨onlyChanges_trans h.only h'.only, h.steady.trans h'.steady⟩

theorem Frame.foldl {α : Type} {bs : List Block} {f : State → α → State}
    (h : ∀ s a, Frame bs s (f s a)) (l : List α) (s : State) : Frame bs s (l.foldl f s) := by
  induction l generalizing s with
  | nil => exact Frame.refl bs s
  | cons a l ih => exact (h s a).trans (ih (f s a))

/-- `f` where `c` changes no more than `f` does. -/
theorem State.when_frame {bs : List Block} (s : State) (c : Bool) {f : State → State}
    (h : ∀ u, Frame bs u (f u)) : Frame bs s (s.when c f) := by
  cases c
  · exact Frame.refl bs s
  · exact h s

/-- A choice between an operation and nothing. -/
theorem Frame.ite {bs : List Block} {s t u : State} {c : Prop} [Decidable c] (ht : Frame bs s t)
    (hu : Frame bs s u) : Frame bs s (if c then t else u) := by
  split
  · exact ht
  · exact hu

/-! The writes of one block. -/

theorem State.withCfe_frame (s : State) (x : FrontEnd) : Frame [.cfe] s (s.withCfe x) :=
  ⟨⟨fun b hb => by cases b <;> simp_all [Block.same], rfl⟩, .of_ctl rfl rfl rfl rfl rfl⟩
theorem State.withRms_frame (s : State) (x : RmsEngine) : Frame [.rms] s (s.withRms x) :=
  ⟨⟨fun b hb => by cases b <;> simp_all [Block.same], rfl⟩, .of_ctl rfl rfl rfl rfl rfl⟩
theorem State.withRef_frame (s : State) (x : RefTracker) : Frame [.ref] s (s.withRef x) :=
  ⟨s.withRef_onlyChanges x, .of_ctl rfl rfl rfl rfl rfl⟩
theorem State.withDet_frame (s : State) (x : Detector) : Frame [.det] s (s.withDet x) :=
  ⟨s.withDet_onlyChanges x, .of_ctl rfl rfl rfl rfl rfl⟩
theorem State.withCap_frame (s : State) (x : CaptureUnit) : Frame [.cap] s (s.withCap x) :=
  ⟨s.withCap_onlyChanges x, .of_ctl rfl rfl rfl rfl rfl⟩
theorem State.withMark_frame (s : State) (x : MarkLine) : Frame [.mark] s (s.withMark x) :=
  ⟨s.withMark_onlyChanges x, .of_ctl rfl rfl rfl rfl rfl⟩
theorem State.withLink_frame (s : State) (x : NoticeLink) : Frame [.link] s (s.withLink x) :=
  ⟨s.withLink_onlyChanges x, .of_ctl rfl rfl rfl rfl rfl⟩
theorem State.withCorr_frame (s : State) (x : Correlation) : Frame [.corr] s (s.withCorr x) :=
  ⟨s.withCorr_onlyChanges x, .of_ctl rfl rfl rfl rfl rfl⟩
theorem State.withAgg_frame (s : State) (x : Aggregator) : Frame [.agg] s (s.withAgg x) :=
  ⟨s.withAgg_onlyChanges x, .of_ctl rfl rfl rfl rfl rfl⟩
theorem State.withPort_frame (s : State) (x : RecordPort) : Frame [.port] s (s.withPort x) :=
  ⟨s.withPort_onlyChanges x, .of_ctl rfl rfl rfl rfl rfl⟩
theorem State.withStore_frame (s : State) (x : RecordStore) (hs : x.startTime = s.store.startTime)
    (hb : x.frozenBase = s.store.frozenBase) : Frame [.store] s (s.withStore x) :=
  ⟨s.withStore_onlyChanges x, .of_ctl rfl rfl rfl hs hb⟩

/-- A raise sets one cause, and ATTN follows (R189, R191). -/
theorem State.raise_frame (s : State) (c : Cause) (n : Nat) : Frame [.ctl] s (s.raise c n) := by
  refine ⟨s.raise_onlyChanges c n, rfl, rfl, rfl, rfl, rfl, rfl, rfl, rfl, fun b hb => ?_,
    .inl (s.raise_attn c n)⟩
  rw [State.raise_causes]
  split
  · rfl
  · exact hb

theorem State.answer_frame (s : State) (st : Status) (p : List Byte) :
    Frame [.port] s (s.answer st p) := s.withPort_frame _

/-! The store. -/

theorem State.editRecord_frame (s : State) (id : Nat) (f : Record → Record) :
    Frame [.store] s (s.editRecord id f) := s.withStore_frame _ (by rfl) (by rfl)
theorem State.writeWave_frame (s : State) (id : Nat) (w : WavePart) :
    Frame [.store] s (s.writeWave id w) := s.editRecord_frame _ _
theorem State.handToTally_frame (s : State) (c : RecordClass) (r m d : Nat) :
    Frame [.store] s (s.handToTally c r m d) := s.withStore_frame _ (by rfl) (by rfl)
theorem State.storeTakes_frame (s : State) (view : StationState) :
    Frame [.store] s (s.storeTakes view) := s.withStore_frame _ (by rfl) (by rfl)

theorem State.addRecord_frame (s : State) (r : Record) (t : Ms) :
    Frame [.store, .ctl] s (s.addRecord r t) := by
  simp only [State.addRecord]
  exact Frame.ite (((s.withStore_frame _ (by rfl) (by rfl) ).comp (State.raise_frame _ _ _)).mono (by simp)) ((s.withStore_frame _ (by rfl) (by rfl) ).mono (by simp))

theorem State.judge_frame (s : State) (id : Nat) : Frame [.store, .ctl] s (s.judge id) := by
  rcases s.judge_cases id with h | ⟨r, -, -, -, h⟩ <;> rw [h]
  · exact Frame.refl _ _
  · exact ((s.editRecord_frame _ _).comp (State.raise_frame _ _ _)).mono (by simp)

theorem State.judgeAll_frame (s : State) (ids : List Nat) :
    Frame [.store, .ctl] s (s.judgeAll ids) := Frame.foldl State.judge_frame ids s

/-! The capture unit. -/

theorem State.setSlot_frame (s : State) (k : Fin 8) (x : Slot) : Frame [.cap] s (s.setSlot k x) :=
  s.withCap_frame _
theorem State.dropHold_frame (s : State) (k : Fin 8) : Frame [.cap] s (s.dropHold k) :=
  s.setSlot_frame _ _

theorem State.loseHolders_frame (s : State) (k : Fin 8) :
    Frame [.cap, .store] s (s.loseHolders k) := by
  simp only [State.loseHolders]
  exact ((s.withStore_frame _ (by rfl) (by rfl) ).comp (State.setSlot_frame _ _ _)).mono (by simp)

theorem State.stopFill_frame (s : State) : Frame [.cap, .store, .ctl] s s.stopFill := by
  unfold State.stopFill
  split
  · exact Frame.refl _ _
  · exact ((s.setSlot_frame _ _).comp (State.judgeAll_frame _ _)).mono (by simp)

theorem State.spoilSlot_frame (s : State) (k : Fin 8) (e : Option Ms) :
    Frame [.cap, .store, .ctl] s (s.spoilSlot k e) := by
  unfold State.spoilSlot
  split
  · exact (((s.loseHolders_frame k).comp (State.setSlot_frame _ _ _)).comp
      (State.judgeAll_frame _ _)).mono (by simp)
  · exact Frame.refl _ _

theorem State.memoryError_frame (s : State) (k : Fin 8) :
    Frame [.cap, .store, .ctl] s (s.memoryError k) := by
  unfold State.memoryError
  split
  · exact ((s.raise_frame _ _).comp (State.spoilSlot_frame _ _ _)).mono (by simp)
  · split
    · exact ((((((s.raise_frame _ _).comp (State.raise_frame _ _ _)).comp
        (State.spoilSlot_frame _ _ _)).comp (State.withCap_frame _ _)).comp
        (State.withCap_frame _ _)).comp (State.stopFill_frame _)).mono (by simp)
    · exact ((s.raise_frame _ _).comp (State.spoilSlot_frame _ _ _)).mono (by simp)

theorem State.copyPosition_frame (s : State) (k : Fin 8) (j : Nat) (hc : HalfCycle)
    (fails : Bool) : Frame [.cap, .store, .ctl] s (s.copyPosition k j hc fails) := by
  unfold State.copyPosition
  split
  · split
    · exact ((s.setSlot_frame _ _).comp (State.memoryError_frame _ _)).mono (by simp)
    · exact (s.setSlot_frame _ _).mono (by simp)
  · exact Frame.refl _ _

theorem State.openSlot_frame (s : State) (k : Fin 8) (id : Nat) (a newest : RefIndex)
    (failed : Option (Fin 9)) : Frame [.cap, .store, .ctl] s (s.openSlot k id a newest failed) :=
  (((s.setSlot_frame _ _).comp (State.writeWave_frame _ _ _)).comp
    (Frame.foldl (fun u _ => u.copyPosition_frame _ _ _ _) _ _)).mono (by simp)

theorem State.captureRequest_frame (s : State) (id : Nat) (a : RefIndex)
    (failed : Option (Fin 9)) : Frame [.cap, .store, .ctl] s (s.captureRequest id a failed) := by
  have hw (u : State) (w : WavePart) : Frame [.cap, .store, .ctl] u (u.writeWave id w) :=
    (u.writeWave_frame id w).mono (by simp)
  simp only [State.captureRequest]
  split
  · exact hw _ _
  · split
    · exact hw _ _
    · split
      · split
        · exact ((s.setSlot_frame _ _).mono (by simp)).trans (hw _ _)
        · exact hw _ _
      · split
        · exact s.openSlot_frame _ _ _ _ _
        · exact hw _ _

theorem State.fillCopy_frame (s : State) (m : RefIndex) (fails : Bool) :
    Frame [.cap, .store, .ctl] s (s.fillCopy m fails) := by
  unfold State.fillCopy
  split
  · exact Frame.refl _ _
  · dsimp only
    split
    · have copied := s.copyPosition_frame
      exact Frame.ite ((copied _ _ _ _).trans (State.stopFill_frame _)) (copied _ _ _ _)
    · exact Frame.refl _ _

theorem State.capStops_frame (s : State) (k : Stop) : Frame [.cap, .store, .ctl] s (s.capStops k) := by
  cases k with
  | halt => exact ((s.withCap_frame _).comp (State.stopFill_frame _)).mono (by simp)
  | restart low first =>
    exact (((s.withCap_frame _).comp (State.stopFill_frame _)).comp (State.withCap_frame _ _)).mono (by simp)

/-! The notice link. -/

theorem State.dropReport_frame (s : State) (edge : Ms) (id : Nat) :
    Frame [.corr, .store] s (s.dropReport edge id) := by
  simp only [State.dropReport]
  exact Frame.ite ((s.withCorr_frame _).mono (by simp))
    (((s.withCorr_frame _).comp (State.editRecord_frame _ _ _)).mono (by simp))

theorem State.reportFrame_frame (s : State) (f : QueuedFrame) :
    Frame [.corr, .store] s (s.reportFrame f) := by
  unfold State.reportFrame
  split
  · exact Frame.refl _ _
  · exact Frame.ite (Frame.refl _ _) (s.dropReport_frame _ _)

theorem State.reportQueue_frame (s : State) : Frame [.corr, .store] s s.reportQueue :=
  Frame.foldl State.reportFrame_frame _ s

theorem State.handVerdict_frame (s : State) (v : QueuedVerdict) :
    Frame [.link, .corr, .store] s (s.handVerdict v) := by
  have dropped := (s.dropReport_frame v.edge v.recordId).mono (cs := [.link, .corr, .store]) (by simp)
  have queued (x : NoticeLink) := (s.withLink_frame x).mono (cs := [.link, .corr, .store]) (by simp)
  unfold State.handVerdict
  split
  · exact dropped
  · split
    · exact queued _
    · split
      · exact queued _
      · exact dropped

theorem State.windowExpiry_frame (s : State) (edge : Ms) :
    Frame [.link, .corr, .store] s (s.windowExpiry edge) := by
  unfold State.windowExpiry
  split
  · exact Frame.refl _ _
  · exact Frame.ite (((s.reportFrame_frame _).comp (State.withLink_frame _ _)).mono (by simp))
      (((s.reportFrame_frame _).comp (State.withLink_frame _ _)).mono (by simp))

theorem State.linkDropsQueue_frame (s : State) (view : StationState) :
    Frame [.link, .corr, .store] s (s.linkDropsQueue view) :=
  (s.reportQueue_frame.comp (State.withLink_frame _ _)).mono (by simp)

theorem State.linkClearsPeers_frame (s : State) : Frame [.link] s s.linkClearsPeers :=
  s.withLink_frame _

theorem State.linkTakesReset_frame (s : State) (view : StationState) :
    Frame [.link, .corr, .store] s (s.linkTakesReset view) :=
  ((s.linkDropsQueue_frame view).comp (State.linkClearsPeers_frame _)).mono (by simp)

theorem State.linkStops_frame (s : State) (k : Stop) :
    Frame [.link, .corr, .store] s (s.linkStops k) := by
  cases k with
  | halt => exact (s.reportQueue_frame.comp (State.withLink_frame _ _)).mono (by simp)
  | restart low first =>
    exact Frame.ite (s.linkDropsQueue_frame _) (s.linkTakesReset_frame .config)

/-! The correlation unit. -/

theorem State.setContext_frame (s : State) (k : Fin 4) (c : Option Context) :
    Frame [.corr] s (s.setContext k c) := s.withCorr_frame _
theorem State.editContext_frame (s : State) (k : Fin 4) (f : Context → Context) :
    Frame [.corr] s (s.editContext k f) := s.setContext_frame _ _
theorem State.linkRecord_frame (s : State) (k : Fin 4) (id : Nat) :
    Frame [.corr, .store] s (s.linkRecord k id) :=
  ((s.editContext_frame _ _).comp (State.editRecord_frame _ _ _)).mono (by simp)

theorem State.makeSympathetic_frame (s : State) (k : Fin 4) (edge : Ms) (failed : Option (Fin 9)) :
    Frame [.cap, .corr, .store, .ctl] s (s.makeSympathetic k edge failed) :=
  Frame.ite
    ((((s.addRecord_frame _ _).comp (State.linkRecord_frame _ _ _)).comp
      (State.captureRequest_frame _ _ _ _)).mono (by simp))
    ((s.handToTally_frame _ _ _ _).mono (by simp))

theorem State.openContext_frame (s : State) (k : Fin 4) (edge : Ms) (failed : Option (Fin 9)) :
    Frame [.cap, .corr, .store, .ctl] s (s.openContext k edge failed) :=
  Frame.ite (((s.setContext_frame _ _).comp (State.makeSympathetic_frame _ _ _ _)).mono (by simp))
    ((s.setContext_frame _ _).mono (by simp))

theorem State.takeAnchoring_frame (s : State) (k : Fin 4) (n : RefIndex) :
    Frame [.corr] s (s.takeAnchoring k n) :=
  Frame.ite (Frame.refl _ _) (s.editContext_frame _ _)

theorem State.judgeContext_frame (s : State) (e : Refresh) (k : Fin 4) :
    Frame [.link, .corr, .store] s (s.judgeContext e k) := by
  simp only [State.judgeContext]
  split
  · exact Frame.refl _ _
  · have handed (f : Context → Context) (v : QueuedVerdict) :=
      ((s.editContext_frame k f).comp (State.handVerdict_frame _ v)).mono (cs := [.link, .corr, .store]) (by simp)
    exact Frame.ite (handed _ _) ((handed _ _).trans ((State.editRecord_frame _ _ _).mono (by simp)))

theorem State.correlationTakes_frame (s : State) :
    Frame [.link, .corr, .store] s s.correlationTakes := by
  unfold State.correlationTakes
  split
  · exact Frame.refl _ _
  · exact ((s.withCorr_frame _).mono (by simp)).trans (Frame.foldl (fun u k => u.judgeContext_frame _ k) _ _)

theorem State.freeContext_frame (s : State) (k : Fin 4) (linked : Nat) :
    Frame [.corr, .store, .ctl] s (s.freeContext k linked) :=
  Frame.ite ((s.setContext_frame _ _).mono (by simp))
    ((((s.setContext_frame _ _).comp (State.editRecord_frame _ _ _)).comp
      (State.judge_frame _ _)).mono (by simp))

theorem State.closeContext_frame (s : State) (k : Fin 4) (c : Context) :
    Frame [.corr, .store, .ctl] s (s.closeContext k c) :=
  (Frame.ite (Frame.refl _ _) ((s.editRecord_frame _ _).mono (by simp))).trans (State.freeContext_frame _ _ _)

theorem State.earlyClose_frame (s : State) (k : Fin 4) :
    Frame [.corr, .store, .ctl] s (s.earlyClose k) := by
  unfold State.earlyClose
  split
  · exact Frame.refl _ _
  · exact (Frame.ite (Frame.refl _ _) ((s.editRecord_frame _ _).mono (by simp))).trans
      (State.freeContext_frame _ _ _)

theorem State.corrStops_frame (s : State) (k : Stop) :
    Frame [.link, .corr, .store, .ctl] s (s.corrStops k) := by
  have closed : Frame [.link, .corr, .store, .ctl] s (s.corrTakesStop k.view) :=
    ((s.withCorr_frame _).comp (Frame.foldl State.earlyClose_frame _ _)).mono (by simp)
  unfold State.corrStops
  split
  · exact closed.trans ((State.linkClearsPeers_frame _).mono (by simp))
  · exact closed
  · exact closed

/-! The mark line. -/

theorem State.takeFallingEdge_frame (s : State) (failed : Option (Fin 9)) :
    Frame [.cap, .mark, .corr, .store, .ctl] s (s.takeFallingEdge failed) := by
  unfold State.takeFallingEdge
  split
  · exact (s.withMark_frame _).mono (by simp)
  · exact ((s.withMark_frame _).comp (State.openContext_frame _ _ _ _)).mono (by simp)

theorem State.afterAnchor_frame (s : State) (tn : Ms) :
    Frame [.cap, .mark, .corr, .store, .ctl] s (s.afterAnchor tn) := by
  unfold State.afterAnchor
  split
  · exact Frame.refl _ _
  · exact Frame.refl _ _
  · exact ((s.withMark_frame _).mono (by simp)).trans (State.takeFallingEdge_frame _ _)

theorem State.markStops_frame (s : State) (k : Stop) : Frame [.mark] s (s.markStops k) := by
  cases k <;> exact s.withMark_frame _

/-! The detector. -/

theorem State.obtainRecord_frame (s : State) (m : Measurement) (expiry : Ms)
    (anchor : Option (Fin 4)) (unanchored : Bool) (failed : Option (Fin 9)) :
    Frame [.det, .cap, .corr, .store, .ctl] s (s.obtainRecord m expiry anchor unanchored failed) := by
  refine Frame.ite ?_ (Frame.refl _ _)
  have linked (u : State) (id : Nat) : Frame [.corr, .store] u (match anchor with
      | none => u
      | some k => u.linkRecord k id) := by
    split
    · exact Frame.refl _ _
    · exact u.linkRecord_frame _ _
  exact ((((s.addRecord_frame _ _).comp (linked _ _)).comp (State.withDet_frame _ _)).comp
    (State.captureRequest_frame _ _ _ _)).mono (by simp)

theorem State.upgradeRecord_frame (s : State) (m : Measurement) (expiry : Ms) (id : Nat) :
    Frame [.det, .store] s (s.upgradeRecord m expiry id) :=
  ((s.editRecord_frame _ _).comp (State.withDet_frame _ _)).mono (by simp)

/-- What comes between the answer and the anchoring may reach further blocks. -/
theorem State.anchorEvent_frame {bs : List Block} (s : State) (m : Measurement) (expiry : Ms)
    (failed : Option (Fin 9)) {between : State → State} (hb : ∀ u, Frame bs u (between u))
    (hsub : ∀ b ∈ [Block.det, .cap, .mark, .corr, .store, .ctl], b ∈ bs) :
    Frame bs s (s.anchorEvent m expiry failed between) := by
  have answered : Frame bs s (between (s.afterAnchor m.time)) :=
    ((s.afterAnchor_frame _).mono fun b h => hsub b (by revert b; simp)).trans (hb _)
  have obtained (u : State) (a : Option (Fin 4)) (n : Bool) :
      Frame bs u (u.obtainRecord m expiry a n failed) :=
    (u.obtainRecord_frame m expiry a n failed).mono fun b h => hsub b (by revert b; simp)
  have anchored (u : State) (k : Fin 4) : Frame bs u (u.takeAnchoring k m.crossing) :=
    (u.takeAnchoring_frame k m.crossing).mono fun b h => hsub b (by revert b; simp)
  have upgraded (u : State) (id : Nat) : Frame bs u (u.upgradeRecord m expiry id) :=
    (u.upgradeRecord_frame m expiry id).mono fun b h => hsub b (by revert b; simp)
  simp only [State.anchorEvent]
  split
  · exact answered.trans (obtained _ _ _)
  · split
    · exact answered.trans (obtained _ _ _)
    · split
      · exact (answered.trans (anchored _ _)).trans (obtained _ _ _)
      · split
        · exact (answered.trans (anchored _ _)).trans (upgraded _ _)
        · exact (answered.trans (anchored _ _)).trans (obtained _ _ _)

theorem State.finishEvent_frame (s : State) (m : Measurement) (id halves durationMs : Nat)
    (ongoing aborted : Bool) :
    Frame [.store, .ctl] s (s.finishEvent m id halves durationMs ongoing aborted) :=
  Frame.ite ((s.handToTally_frame _ _ _ _).mono (by simp))
    (((s.editRecord_frame _ _).comp (State.judge_frame _ _)).mono (by simp))

theorem State.reportEnd_frame (s : State) : Frame [.ref] s s.reportEnd := s.withRef_frame _
theorem State.toWatch_frame (s : State) : Frame [.det] s s.toWatch := s.withDet_frame _

theorem State.endEvent_frame (s : State) (m : Measurement) (id : Nat) (e : Refresh) :
    Frame [.ref, .det, .store, .ctl] s (s.endEvent m id e) :=
  (((s.finishEvent_frame _ _ _ _ _ _).comp (State.reportEnd_frame _)).comp
    (State.toWatch_frame _)).mono (by simp)

theorem State.measureEvent_frame (s : State) (m : Measurement) (id : Nat) (expiry : Ms)
    (e : Refresh) (conds : Vector Cond 3) :
    Frame [.det, .store] s (s.measureEvent m id expiry e conds) :=
  Frame.ite ((s.withDet_frame _).mono (by simp)) (((s.withDet_frame _).comp (State.editRecord_frame _ _ _)).mono (by simp))

theorem State.takeReturn_frame (s : State) (m : Measurement) (ongoingId : Nat) (e : Refresh)
    (failed : Option (Fin 9)) :
    Frame [.ref, .det, .cap, .store, .ctl] s (s.takeReturn m ongoingId e failed) :=
  ((Frame.ite ((((s.addRecord_frame _ _).comp (State.captureRequest_frame _ _ _ _)).comp
    (State.judge_frame _ _)).mono (by simp)) ((s.handToTally_frame _ _ _ _).mono (by simp)) :
      Frame [.cap, .store, .ctl] s _).comp
    ((State.reportEnd_frame _).comp (State.toWatch_frame _))).mono (by simp)

theorem State.detectorTakes_frame {bs : List Block} (s : State) (failed : Option (Fin 9))
    {between : State → State} (hb : ∀ u, Frame bs u (between u))
    (hsub : ∀ b ∈ [Block.ref, .det, .cap, .mark, .corr, .store, .ctl], b ∈ bs) :
    Frame bs s (s.detectorTakes failed between) := by
  have det (u : State) (x : Detector) : Frame bs u (u.withDet x) :=
    (u.withDet_frame x).mono fun b h => hsub b (by revert b; simp)
  have crossed (u : State) (m : Measurement) (expiry : Ms) :
      Frame bs u (u.anchorEvent m expiry failed between) :=
    u.anchorEvent_frame m expiry failed hb fun b h => hsub b (by revert b; simp)
  have ended (u : State) (m : Measurement) (id : Nat) (e : Refresh) : Frame bs u (u.endEvent m id e) :=
    (u.endEvent_frame m id e).mono fun b h => hsub b (by revert b; simp)
  have measured (u : State) (m : Measurement) (id : Nat) (x : Ms) (e : Refresh) (c : Vector Cond 3) :
      Frame bs u (u.measureEvent m id x e c) :=
    (u.measureEvent_frame m id x e c).mono fun b h => hsub b (by revert b; simp)
  have returned (u : State) (m : Measurement) (id : Nat) (e : Refresh) :
      Frame bs u (u.takeReturn m id e failed) :=
    (u.takeReturn_frame m id e failed).mono fun b h => hsub b (by revert b; simp)
  have judged (u : State) (e : Refresh) : Frame bs u (u.judgeRefresh e failed between) := by
    simp only [State.judgeRefresh]
    split
    · exact Frame.ite (det _ _) ((det _ _).trans (crossed _ _ _))
    · exact Frame.ite (ended _ _ _ _) (measured _ _ _ _ _ _)
    · exact Frame.ite (returned _ _ _ _) (det _ _)
  unfold State.detectorTakes
  split
  · exact Frame.refl _ _
  · exact Frame.ite ((det _ _).trans (judged _ _)) (det _ _)

theorem State.detTakesStop_frame (s : State) : Frame [.det, .store, .ctl] s s.detTakesStop := by
  unfold State.detTakesStop
  split
  · exact s.toWatch_frame.mono (by simp)
  · exact ((s.finishEvent_frame _ _ _ _ _ _).comp (State.toWatch_frame _)).mono (by simp)
  · exact ((Frame.ite (((s.addRecord_frame _ _).comp (State.judge_frame _ _)).mono (by simp))
      ((s.handToTally_frame _ _ _ _).mono (by simp)) : Frame [.store, .ctl] s _).comp
        (State.toWatch_frame _)).mono (by simp)

/-! The aggregator and the tracker. -/

theorem State.writeInterval_frame (s : State) (i : Interval) (length : Nat) (isPartial : Bool)
    (next : Option Interval) : Frame [.agg, .ctl] s (s.writeInterval i length isPartial next) :=
  ((s.withAgg_frame _).comp (State.raise_frame _ _ _)).mono (by simp)

theorem State.aggTakesStop_frame (s : State) : Frame [.agg, .ctl] s s.aggTakesStop := by
  unfold State.aggTakesStop
  split
  · exact Frame.refl _ _
  · exact s.writeInterval_frame _ _ _ _

theorem State.aggregatorTakes_frame (s : State) : Frame [.agg] s s.aggregatorTakes := by
  unfold State.aggregatorTakes
  split
  · exact Frame.refl _ _
  · exact s.withAgg_frame _

theorem State.trackerTakes_frame (s : State) : Frame [.ref] s s.trackerTakes := by
  unfold State.trackerTakes
  split
  · exact Frame.refl _ _
  · exact s.withRef_frame _

theorem State.trackerTakesReport_frame (s : State) : Frame [.ref] s s.trackerTakesReport :=
  Frame.ite (Frame.refl _ _) (s.withRef_frame _)

theorem State.takeLockedCycle_frame (s : State) (inRun : Bool) (freq : Nat) :
    Frame [.agg] s (s.takeLockedCycle inRun freq) :=
  Frame.ite (s.withAgg_frame _) (Frame.refl _ _)

theorem State.handLockedCycle_frame (s : State) (inRun : Bool) (freq : Option Nat) :
    Frame [.agg] s (s.handLockedCycle inRun freq) := by
  cases freq with
  | none => exact Frame.refl _ _
  | some f => exact s.takeLockedCycle_frame inRun f

theorem State.refTakesRestart_frame (s : State) : Frame [.ref] s s.refTakesRestart :=
  ((s.withRef_frame _).comp (State.withRef_frame _ _)).mono (by simp)

/-! A position close. -/

theorem State.raiseFreeRun_frame (s : State) (before after : TrackState) :
    Frame [.ctl] s (s.raiseFreeRun before after) := Frame.ite (s.raise_frame _ _) (Frame.refl _ _)

theorem State.raiseOverruns_frame (s : State) : Frame [.ctl] s s.raiseOverruns := by
  unfold State.raiseOverruns
  split
  · exact Frame.refl _ _
  · exact Frame.ite ((s.raise_frame _ _).trans (State.raise_frame _ _ _)) (s.raise_frame _ _)

theorem State.measurePosition_frame (s : State) : Frame [.cfe, .rms, .ctl] s s.measurePosition :=
  (((s.withRms_frame _).comp (State.withCfe_frame _ _)).comp (State.raiseFreeRun_frame _ _ _)).mono (by simp)

theorem State.handRefresh_frame (s : State) (e : Refresh) :
    Frame [.ref, .det, .corr, .agg] s (s.handRefresh e) :=
  ((((s.withRef_frame _).comp (State.withDet_frame _ _)).comp (State.withCorr_frame _ _)).comp
    (State.withAgg_frame _ _)).mono (by simp)

theorem State.halfCycleEnd_frame (s : State) :
    Frame [.cfe, .rms, .ref, .det, .corr, .agg] s s.halfCycleEnd :=
  Frame.ite (((s.withCfe_frame _).comp (State.withRms_frame _ _)).mono (by simp))
    ((((s.withCfe_frame _).comp (State.withRms_frame _ _)).comp (State.handRefresh_frame _ _)).mono (by simp))

theorem State.closeEvents_frame (s : State) (locked : Option Nat) (ends emits fails : Bool) :
    Frame [.cfe, .rms, .ref, .det, .cap, .corr, .store, .agg, .ctl] s
      (s.closeEvents locked ends emits fails) := by
  have handed := (s.handLockedCycle_frame (s.ctl.state == .run) locked)
  refine Frame.ite (Frame.ite ?_ ?_) (handed.mono (by simp))
  · exact ((handed.comp (State.halfCycleEnd_frame _)).comp (State.fillCopy_frame _ _ _)).mono (by simp)
  · exact (handed.comp (State.halfCycleEnd_frame _)).mono (by simp)

/-! A stop. -/

theorem State.stopBlocks_frame (s : State) (k : Stop) (p : StopPhase) (detectorFirst : Bool) :
    Frame [.det, .cap, .mark, .link, .corr, .store, .agg, .ctl] s
      (s.stopBlocks k p detectorFirst) := by
  have detStops (u : State) (c : Bool) := u.when_frame c State.detTakesStop_frame
  have corrStops (u : State) (c : Bool) := u.when_frame c fun x => x.corrStops_frame k
  have first := (((s.when_frame p.store fun u => u.storeTakes_frame k.view).comp
    (State.when_frame _ p.link fun u => u.linkStops_frame k)).comp
    (State.when_frame _ p.mark fun u => u.markStops_frame k)).mono
      (cs := [.det, .cap, .mark, .link, .corr, .store, .agg, .ctl]) (by simp)
  have last (u : State) := ((u.when_frame p.cap fun x => x.capStops_frame k).comp
    (State.when_frame _ p.agg State.aggTakesStop_frame)).mono
      (cs := [.det, .cap, .mark, .link, .corr, .store, .agg, .ctl]) (by simp)
  refine (first.trans (Frame.ite ?_ ?_)).trans (last _)
  · exact ((detStops _ _).comp (corrStops _ _)).mono (by simp)
  · exact ((corrStops _ _).comp (detStops _ _)).mono (by simp)

theorem State.readersTake_frame (s : State) (k : Stop) (o : StopOrder) (failed : Option (Fin 9)) :
    Frame [.ref, .det, .cap, .mark, .link, .corr, .store, .agg, .ctl] s
      (s.readersTake k o failed) := by
  have det (u : State) := u.when_frame (o.detTakes && !o.detEarly) fun x =>
    x.detectorTakes_frame (bs := [.ref, .det, .cap, .mark, .link, .corr, .store, .agg, .ctl]) failed
      (between := fun st => st.when (o.corrWithin && !o.corrEarly) fun x => x.corrStops k)
      (fun v => ((v.when_frame _ fun y => y.corrStops_frame k).mono (by simp))) (by simp)
  have corr (u : State) := (u.when_frame (o.corrTakes && !o.corrEarly && u.corr.view == .run)
    State.correlationTakes_frame).mono
      (cs := [.ref, .det, .cap, .mark, .link, .corr, .store, .agg, .ctl]) (by simp)
  have tracker := (s.when_frame o.trackerTakes State.trackerTakes_frame).mono
      (cs := [.ref, .det, .cap, .mark, .link, .corr, .store, .agg, .ctl]) (by simp)
  have last (u : State) := ((u.when_frame o.reportTakes State.trackerTakesReport_frame).comp
    (State.when_frame _ (o.aggTakes && !o.aggEarly) State.aggregatorTakes_frame)).mono
      (cs := [.ref, .det, .cap, .mark, .link, .corr, .store, .agg, .ctl]) (by simp)
  exact (tracker.trans (Frame.ite ((corr _).trans (det _)) ((det _).trans (corr _)))).trans (last _)

/-- A stop without its last step, the count of free values: `act` are the events that come with
it. -/
theorem State.takeStop_frame {bs : List Block} (s : State) (k : Stop) (o : StopOrder)
    (failed : Option (Fin 9)) {act : State → State} (ha : ∀ u, Frame bs u (act u))
    (hsub : ∀ b ∈ [Block.ref, .det, .cap, .mark, .link, .corr, .store, .agg, .ctl], b ∈ bs) :
    ∃ u, Frame bs s u ∧ s.takeStop k o failed act = u.withFree (s.free + 1) := by
  have stopped (u : State) (p : StopPhase) : Frame bs u (u.stopBlocks k p o.detectorFirst) :=
    (u.stopBlocks_frame k p o.detectorFirst).mono fun b h => hsub b (by revert b; simp)
  have readers (u : State) (c : Bool) : Frame bs u (u.when c fun st => st.readersTake k o failed) :=
    u.when_frame c fun x => (x.readersTake_frame k o failed).mono hsub
  exact ⟨_, (((stopped s _).trans (ha _)).trans (readers _ _)).trans (stopped _ _), rfl⟩

end Sys2Proof.Machine
end

section
/-! What each command does to the blocks, once for all of them: the commands that are a steady
change of their blocks after the clock has moved on, and one inversion lemma for each of the others.
From these follow the frame of every command, and the statements about the clock, the straps, the
items, the station state, the causes, ATTN and RDY. -/

namespace Sys2Proof.Machine

/-- The commands that are no more than a steady change of their blocks. The others move the clock
back, the free value, the station state, the PRESENT period, an item or the cause set. -/
def steadyCommand : Instr → Bool
  | .pinReset _ _ _ | .positionClose _ | .presentPeriodExpiry _ | .causes _ | .set _ | .start _
  | .restart _ _ => false
  | _ => true

/-- The answer to a request after an operation. -/
theorem Frame.answer {bs : List Block} {s u : State} (h : Frame bs s u) (st : Status)
    (p : List Byte) : Frame (bs ++ [.port]) s (u.answer st p) := h.comp (u.answer_frame st p)

/-- A command whose condition is not met leaves the clock alone changed. -/
theorem execAttemptStart_frame (t : Nat) (s : State) :
    ∃ u, exec (.attemptStart t) s = .next u ∧ Frame [.link] (s.elapse t) u := by
  refine ⟨_, rfl, ?_⟩
  split
  · exact Frame.refl _ _
  · exact Frame.ite (State.withLink_frame _ _) (Frame.refl _ _)

theorem execReadbackMismatch_frame (t : Nat) (s : State) :
    ∃ u, exec (.readbackMismatch t) s = .next u ∧ Frame [.link, .corr, .store] (s.elapse t) u := by
  refine ⟨_, rfl, ?_⟩
  split
  · exact Frame.refl _ _
  · refine Frame.ite (Frame.ite ?_ (Frame.ite ?_ ?_)) (Frame.refl _ _)
    · exact (State.withLink_frame _ _).mono (by simp)
    · exact ((State.reportFrame_frame _ _).comp (State.withLink_frame _ _)).mono (by simp)
    · exact (State.withLink_frame _ _).mono (by simp)

theorem execMaxOpenExpiry_frame (t : Nat) (s : State) :
    ∃ u, exec (.maxOpenExpiry t) s = .next u ∧
      Frame [.ref, .det, .store, .ctl] (s.elapse t) u := by
  refine ⟨_, rfl, ?_⟩
  split
  · exact Frame.refl _ _
  · exact Frame.refl _ _
  · refine Frame.ite ?_ (Frame.refl _ _)
    exact (((State.finishEvent_frame _ _ _ _ _ _ _).comp (State.reportEnd_frame _)).comp
      (State.withDet_frame _ _)).mono (by simp)

theorem State.setPeer_frame (s : State) (a : Fin 16) (p : Peer) : Frame [.link] s (s.setPeer a p) :=
  s.withLink_frame _

theorem State.updatePeer_frame (s : State) (n : Notice) (leader : Ms) :
    Frame [.link, .ctl] s (s.updatePeer n leader) :=
  Frame.ite ((s.setPeer_frame _ _).mono (by simp))
    (((s.setPeer_frame _ _).comp (State.raise_frame _ _ _)).mono (by simp))

theorem State.matchVerdict_frame (s : State) (v : PeerVerdict) (estimate : Ms) :
    Frame [.link, .corr] s (s.matchVerdict v estimate) := by
  unfold State.matchVerdict
  split
  · exact (s.withCorr_frame _).mono (by simp)
  · exact (s.setPeer_frame _ _).mono (by simp)

theorem State.takeNotice_frame (s : State) (n : Notice) (leader : Ms) :
    Frame [.link, .corr, .ctl] s (s.takeNotice n leader) := by
  have heard := (s.updatePeer_frame n leader).mono (cs := [.link, .corr, .ctl]) (by simp)
  unfold State.takeNotice
  split
  · exact heard
  · exact Frame.ite (heard.trans ((State.matchVerdict_frame _ _ _).mono (by simp))) heard

theorem State.judgeFrame_frame (s : State) : Frame [.link, .corr, .ctl] s s.judgeFrame := by
  have ended := (s.withLink_frame s.link.endFrame).mono (cs := [.link, .corr, .ctl]) (by simp)
  unfold State.judgeFrame
  split
  · exact ((s.withLink_frame _).comp (State.raise_frame _ _ _)).mono (by simp)
  · refine Frame.ite ended (Frame.ite ?_ ?_)
    · exact ended.trans ((State.raise_frame _ _ _).mono (by simp))
    · exact ended.trans (State.takeNotice_frame _ _ _)

theorem execContextClose_frame (t : Nat) (k : Fin 4) (s : State) :
    ∃ u, exec (.contextClose t k) s = .next u ∧
      Frame [.link, .corr, .store, .ctl] (s.elapse t) u := by
  refine ⟨_, rfl, ?_⟩
  split
  · exact Frame.refl _ _
  · refine Frame.ite ?_ (Frame.refl _ _)
    dsimp only
    split
    · exact (State.windowExpiry_frame _ _).mono (by simp)
    · exact ((State.windowExpiry_frame _ _).comp (State.closeContext_frame _ _ _)).mono (by simp)

theorem execIntervalBoundary_frame (t : Nat) (s : State) :
    ∃ u, exec (.intervalBoundary t) s = .next u ∧ Frame [.agg, .ctl] (s.elapse t) u := by
  refine ⟨_, rfl, ?_⟩
  split
  · exact Frame.refl _ _
  · exact Frame.ite (State.writeInterval_frame _ _ _ _ _) (Frame.refl _ _)

theorem execCycleTimeout_frame (t : Nat) (s : State) :
    ∃ u, exec (.cycleTimeout t) s = .next u ∧ Frame [.cfe, .ctl] (s.elapse t) u := by
  refine ⟨_, rfl, ?_⟩
  split
  · exact Frame.refl _ _
  · exact Frame.ite ((State.withCfe_frame _ _).comp (State.raiseFreeRun_frame _ _ _)) (Frame.refl _ _)

theorem State.removeHead_frame (s : State) (r : Record) : Frame [.cap, .store] s (s.removeHead r) := by
  unfold State.removeHead
  split
  · exact ((s.dropHold_frame _).comp (State.withStore_frame _ _ (by rfl) (by rfl)))
  · exact (s.withStore_frame _ (by rfl) (by rfl)).mono (by simp)

theorem execRelease_frame (t : Nat) (s : State) :
    ∃ u, exec (.release t) s = .next u ∧ Frame [.cap, .store, .port] (s.elapse t) u := by
  have told (u : State) (st : Status) : Frame [.cap, .store, .port] u (u.answer st []) :=
    (u.answer_frame st []).mono (by simp)
  refine ⟨_, rfl, ?_⟩
  split
  · split
    · exact told _ _
    · refine Frame.ite (Frame.ite (told _ _) ?_) (Frame.ite (told _ _) (told _ _))
      exact (State.removeHead_frame _ _).answer _ _
  · exact Frame.refl _ _

theorem execWave_frame (t : Nat) (fails : Bool) (s : State) :
    ∃ u, exec (.wave t fails) s = .next u ∧ Frame [.cap, .store, .ctl, .port] (s.elapse t) u := by
  have told (u : State) (st : Status) (p : List Byte) :
      Frame [.cap, .store, .ctl, .port] u (u.answer st p) :=
    (u.answer_frame st p).mono (by simp)
  refine ⟨_, rfl, ?_⟩
  split
  · split
    · exact told _ _ _
    · exact Frame.ite ((State.memoryError_frame _ _).answer _ _) (told _ _ _)
  · exact Frame.refl _ _

/-- A request that only reads changes the port alone. -/
theorem State.answerIf_frame (s : State) (c : Prop) [Decidable c] (st : Status) (p : List Byte) :
    Frame [.port] s (if c then s.answer st p else s) :=
  Frame.ite (s.answer_frame st p) (Frame.refl _ _)

theorem execLive_frame (t : Nat) (s : State) :
    ∃ u, exec (.live t) s = .next u ∧ Frame [.port] (s.elapse t) u := by
  refine ⟨_, rfl, ?_⟩
  split
  · split <;> exact State.answer_frame _ _ _
  · exact Frame.refl _ _

theorem execHead_frame (t : Nat) (s : State) :
    ∃ u, exec (.head t) s = .next u ∧ Frame [.port] (s.elapse t) u := by
  refine ⟨_, rfl, Frame.ite ?_ (Frame.refl _ _)⟩
  split
  · exact State.answer_frame _ _ _
  · exact Frame.ite (State.answer_frame _ _ _) (State.answer_frame _ _ _)

theorem execInterval_frame (t : Nat) (s : State) :
    ∃ u, exec (.interval t) s = .next u ∧ Frame [.port] (s.elapse t) u := by
  refine ⟨_, rfl, ?_⟩
  split
  · split <;> exact State.answer_frame _ _ _
  · exact Frame.refl _ _

theorem execGet_frame (t : Nat) (s : State) :
    ∃ u, exec (.get t) s = .next u ∧ Frame [.port] (s.elapse t) u := by
  refine ⟨_, rfl, ?_⟩
  split
  · split <;> exact State.answer_frame _ _ _
  · exact Frame.refl _ _

theorem execRequestTaken_frame (t : Nat) (bytes : List Byte) (s : State) :
    ∃ u, exec (.requestTaken t bytes) s = .next u ∧ Frame [.port] (s.elapse t) u := by
  refine ⟨_, rfl, ?_⟩
  split
  · exact State.withPort_frame _ _
  all_goals exact Frame.refl _ _

/-- A steady command changes its own blocks after the clock has moved on. -/
theorem exec_steady (i : Instr) (s : State) (hi : steadyCommand i = true) :
    ∃ t u, exec i s = .next u ∧ Frame (touches i) (s.elapse t) u := by
  cases i with
  | pinReset straps low psel => exact absurd hi Bool.false_ne_true
  | positionClose c => exact absurd hi Bool.false_ne_true
  | presentPeriodExpiry t => exact absurd hi Bool.false_ne_true
  | causes t => exact absurd hi Bool.false_ne_true
  | set t => exact absurd hi Bool.false_ne_true
  | start t => exact absurd hi Bool.false_ne_true
  | restart t low => exact absurd hi Bool.false_ne_true
  | takeResult t ch code => exact ⟨t, _, rfl, State.withCfe_frame _ _⟩
  | cycleTimeout t => exact ⟨t, execCycleTimeout_frame t s⟩
  | trackerTakesRefresh t => exact ⟨t, _, rfl, State.trackerTakes_frame _⟩
  | trackerTakesEndReport t => exact ⟨t, _, rfl, State.trackerTakesReport_frame _⟩
  | detectorTakesRefresh t failed =>
    exact ⟨t, _, rfl, State.detectorTakes_frame _ failed (fun u => Frame.refl _ u) (by simp [touches])⟩
  | maxOpenExpiry t => exact ⟨t, execMaxOpenExpiry_frame t s⟩
  | correlationTakesRefresh t => exact ⟨t, _, rfl, State.correlationTakes_frame _⟩
  | aggregatorTakesRefresh t => exact ⟨t, _, rfl, State.aggregatorTakes_frame _⟩
  | markFallingEdge t failed =>
    exact ⟨t, _, rfl, Frame.ite (Frame.refl _ _) (State.takeFallingEdge_frame _ failed)⟩
  | markRelease t => exact ⟨t, _, rfl, Frame.ite (State.withMark_frame _ _) (Frame.refl _ _)⟩
  | pulseEnd t => exact ⟨t, _, rfl, Frame.ite (State.withMark_frame _ _) (Frame.refl _ _)⟩
  | stuckExpiry t =>
    exact ⟨t, _, rfl, Frame.ite ((State.withMark_frame _ _).comp (State.raise_frame _ _ _))
      (Frame.refl _ _)⟩
  | recoveryExpiry t => exact ⟨t, _, rfl, Frame.ite (State.withMark_frame _ _) (Frame.refl _ _)⟩
  | attemptStart t => exact ⟨t, execAttemptStart_frame t s⟩
  | readbackMismatch t => exact ⟨t, execReadbackMismatch_frame t s⟩
  | attemptSuccess t => exact ⟨t, _, rfl, Frame.ite (State.withLink_frame _ _) (Frame.refl _ _)⟩
  | frameMalformed t fault =>
    exact ⟨t, _, rfl, Frame.ite ((State.withLink_frame _ _).comp (State.raise_frame _ _ _))
      (Frame.refl _ _)⟩
  | frameComplete t => exact ⟨t, _, rfl, Frame.ite (State.judgeFrame_frame _) (Frame.refl _ _)⟩
  | receiverRecovered t => exact ⟨t, _, rfl, Frame.ite (State.withLink_frame _ _) (Frame.refl _ _)⟩
  | peerAgingExpiry t a =>
    exact ⟨t, _, rfl, Frame.ite ((State.setPeer_frame _ _ _).comp (State.raise_frame _ _ _))
      (Frame.refl _ _)⟩
  | contextClose t k => exact ⟨t, execContextClose_frame t k s⟩
  | scrubComplete t k => exact ⟨t, _, rfl, Frame.ite (State.setSlot_frame _ _ _) (Frame.refl _ _)⟩
  | scrubLocationError t k =>
    exact ⟨t, _, rfl, Frame.ite (State.memoryError_frame _ _) (Frame.refl _ _)⟩
  | intervalBoundary t => exact ⟨t, execIntervalBoundary_frame t s⟩
  | requestBegin t code => exact ⟨t, _, rfl, Frame.ite (State.withPort_frame _ _) (Frame.refl _ _)⟩
  | requestTaken t bytes => exact ⟨t, execRequestTaken_frame t bytes s⟩
  | readFrame t count => exact ⟨t, _, rfl, Frame.ite (State.withPort_frame _ _) (Frame.refl _ _)⟩
  | malformedRequest t => exact ⟨t, _, rfl, State.answerIf_frame _ _ _ _⟩
  | status t => exact ⟨t, _, rfl, State.answerIf_frame _ _ _ _⟩
  | live t => exact ⟨t, execLive_frame t s⟩
  | reference t => exact ⟨t, _, rfl, State.answerIf_frame _ _ _ _⟩
  | head t => exact ⟨t, execHead_frame t s⟩
  | release t => exact ⟨t, execRelease_frame t s⟩
  | wave t fails => exact ⟨t, execWave_frame t fails s⟩
  | interval t => exact ⟨t, execInterval_frame t s⟩
  | tally t =>
    exact ⟨t, _, rfl, Frame.ite ((State.withStore_frame _ _ (by rfl) (by rfl)).answer _ _)
      (Frame.refl _ _)⟩
  | peers t => exact ⟨t, _, rfl, State.answerIf_frame _ _ _ _⟩
  | get t => exact ⟨t, execGet_frame t s⟩
  | linkReset t low =>
    exact ⟨t, _, rfl, Frame.ite
      ((((State.linkTakesReset_frame _ _).comp (State.withMark_frame _ _)).answer _ _).mono
        (by simp [touches])) (Frame.refl _ _)⟩
  | noticeFallingEdge t e => exact ⟨t, _, rfl, Frame.ite (State.withLink_frame _ _) (Frame.refl _ _)⟩
  | ignoredPeriodEnd t => exact ⟨t, _, rfl, Frame.ite (State.withPort_frame _ _) (Frame.refl _ _)⟩

/-! The commands that are not steady. -/

/-- The state in which the events of a position close are taken: the clock has moved on, the
overruns are raised and the position is measured (R1, R7). -/
def State.measured (s : State) : State :=
  (s.elapse s.closeMoment).raiseOverruns.measurePosition

theorem State.measured_frame (s : State) :
    Frame [.cfe, .rms, .ctl] (s.elapse s.closeMoment) s.measured :=
  ((State.raiseOverruns_frame _).comp (State.measurePosition_frame _)).mono (by simp)

/-- The frequency of the locked cycle that ends with the position that closes (R13). -/
def State.closedCycle (s : State) : Option Nat :=
  s.cfe.trk.lockedCycle s.ctl.straps.freq s.cfe.dq[0].lastScaled
    (s.cfe.settle s.ctl.straps.wiring).dq[0].lastScaled

/-- The events of the position close of `s`, in the state `u` in which they come (R1). -/
def State.eventsOf (s : State) (checks : CloseChecks) (u : State) : State :=
  u.closeEvents s.closedCycle (endsSegment s.cfe.pos)
    (endsSegment s.cfe.pos && s.measured.rms.fill == 128) checks.fails

theorem State.eventsOf_frame (s : State) (checks : CloseChecks) (u : State) :
    Frame [.cfe, .rms, .ref, .det, .cap, .corr, .store, .agg, .ctl] u (s.eventsOf checks u) :=
  u.closeEvents_frame _ _ _ _

/-- The position that closes halts the station (R187). -/
def State.halts (s : State) : Bool := s.doubleOverrun && s.ctl.state == .run

/-- A position close is its measurement and its events, and in RUN at a double overrun the stop
around them (R1, R187). -/
theorem exec_positionClose (checks : CloseChecks) (s : State) :
    exec (.positionClose checks) s = .next (if s.halts then
      (s.measured.takeStop .halt s.order checks.failed (s.eventsOf checks)).enterHalted
      else s.eventsOf checks s.measured) := rfl

theorem exec_positionClose_of_halts {s : State} (h : s.halts = true) (checks : CloseChecks) :
    exec (.positionClose checks) s =
      .next (s.measured.takeStop .halt s.order checks.failed (s.eventsOf checks)).enterHalted := by
  rw [exec_positionClose, if_pos h]

theorem exec_positionClose_of_runs {s : State} (h : s.halts = false) (checks : CloseChecks) :
    exec (.positionClose checks) s = .next (s.eventsOf checks s.measured) := by
  rw [exec_positionClose, if_neg (by simp [h])]

/-- All blocks that a position close may change. -/
theorem positionClose_frame (s : State) (checks : CloseChecks) :
    Frame (touches (.positionClose checks)) (s.elapse s.closeMoment)
      (s.eventsOf checks s.measured) :=
  (s.measured_frame.comp (s.eventsOf_frame checks _)).mono (by simp [touches])

/-- A halt is a steady change, then the free value counts and the controller enters HALTED. -/
theorem positionClose_halt_frame (s : State) (checks : CloseChecks) :
    ∃ u, Frame (touches (.positionClose checks)) (s.elapse s.closeMoment) u ∧
      s.measured.takeStop .halt s.order checks.failed (s.eventsOf checks) = u.withFree (s.free + 1) := by
  have events (u : State) : Frame (touches (.positionClose checks)) u (s.eventsOf checks u) :=
    (s.eventsOf_frame checks u).mono (by simp [touches])
  obtain ⟨u, frame, stop⟩ := s.measured.takeStop_frame .halt s.order checks.failed events
    (by simp [touches])
  refine ⟨u, (s.measured_frame.mono (by simp [touches])).trans frame, ?_⟩
  rw [stop, s.measured_frame.steady.free, State.elapse_free]

/-- RESTART in service: a steady change of all but front end, RMS engine and port, after which the
free value counts and the controller is in CONFIG; then the answer (R186). -/
theorem takeRestart_frame (s : State) (low : Bool) :
    ∃ u, Frame [.ref, .det, .cap, .mark, .link, .corr, .store, .agg, .ctl] s u ∧
      s.takeRestart low = (u.withFree (s.free + 1)).withCtl
        { u.ctl with state := .config, presentExpiry := none } := by
  obtain ⟨u, frame, stop⟩ := s.takeStop_frame (.restart low s.order.tableFirst) s.order
    s.order.checkFails (act := id) (fun v => Frame.refl _ v)
    (bs := [.ref, .det, .cap, .mark, .link, .corr, .store, .agg, .ctl]) (by simp)
  refine ⟨u.refTakesRestart, frame.trans ((u.refTakesRestart_frame).mono (by simp)), ?_⟩
  simp only [State.takeRestart, stop]
  rfl

theorem exec_restart (t : Nat) (low : Bool) (s : State) :
    exec (.restart t low) s = .next (if s.port.inService = some .restart then
      ((s.elapse t).takeRestart low).answer .done [] else s.elapse t) := rfl

/-- The blocks of a START that is accepted, apart from the controller's state and the store (R185). -/
theorem takeStart_onlyChanges (s : State) :
    onlyChanges [.ref, .cap, .mark, .link, .corr, .store, .agg, .ctl] s s.takeStart :=
  ⟨fun b hb => by cases b <;> simp_all [Block.same, State.takeStart, State.seedReferences], rfl⟩

end Sys2Proof.Machine
end

section
/-! What a command can do to the state as a whole, and the statements that follow from it: the frame
of every command, the clock, the straps and items, the station state, the causes, ATTN and RDY. -/

namespace Sys2Proof.Machine

/-- What a command can make of a state: in most cases a steady change of its blocks after the clock
has moved on; the other cases are those of the commands that do more. -/
inductive Effect : Instr → State → State → Prop
  | steady {i : Instr} {s u : State} (t : Nat) (frame : Frame (touches i) (s.elapse t) u) :
      Effect i s u
  | pinReset (straps : Straps) (low psel : Bool) (s : State) :
      Effect (.pinReset straps low psel) s
        (State.afterPinReset straps low psel s.free s.pending)
  | halt {s u : State} (checks : CloseChecks) (halts : s.halts = true)
      (frame : Frame (touches (.positionClose checks)) (s.elapse s.closeMoment) u) :
      Effect (.positionClose checks) s (u.withFree (s.free + 1)).enterHalted
  | presentPeriod {s u : State} (t : Nat) (x : Ms) (running : s.ctl.state = .run)
      (frame : Frame [.link] (s.elapse t) u) :
      Effect (.presentPeriodExpiry t) s (u.withCtl { u.ctl with presentExpiry := some x })
  | causes {s : State} (t : Nat) (p : List Byte) :
      Effect (.causes t) s (((s.elapse t).withCtl { s.ctl with
        causes := causesClear, attn := attnOf causesClear s.attnMask }).answer .done p)
  | set {s : State} (t : Nat) (i : Fin 30) (v : BitVec 32) (st : Status) (p : List Byte)
      (config : s.ctl.state = .config) :
      Effect (.set t) s (((s.elapse t).storeItem i (storedValue i v)).answer st p)
  | start {s : State} (t : Nat) (config : s.ctl.state = .config) :
      Effect (.start t) s ((s.elapse t).takeStart.answer .done [])
  | restart {s u : State} (t : Nat) (low : Bool)
      (frame : Frame [.ref, .det, .cap, .mark, .link, .corr, .store, .agg, .ctl] (s.elapse t) u) :
      Effect (.restart t low) s (((u.withFree (s.free + 1)).withCtl
        { u.ctl with state := .config, presentExpiry := none }).answer .done [])

/-- A steady command has a steady effect. -/
theorem Effect.of_steadyCommand {i : Instr} {s s' : State} (hi : steadyCommand i = true)
    (h : exec i s = .next s') : Effect i s s' := by
  obtain ⟨t, u, next, frame⟩ := exec_steady i s hi
  rw [next] at h
  cases h
  exact .steady t frame

theorem effect_positionClose {checks : CloseChecks} {s s' : State}
    (h : exec (.positionClose checks) s = .next s') : Effect (.positionClose checks) s s' := by
  cases hh : s.halts with
  | true =>
    obtain ⟨u, frame, stop⟩ := positionClose_halt_frame s checks
    rw [exec_positionClose_of_halts hh, stop] at h
    cases h
    exact .halt checks hh frame
  | false =>
    rw [exec_positionClose_of_runs hh] at h
    cases h
    exact .steady _ (positionClose_frame s checks)

theorem effect_presentPeriodExpiry {t : Nat} {s s' : State}
    (h : exec (.presentPeriodExpiry t) s = .next s') : Effect (.presentPeriodExpiry t) s s' := by
  obtain rfl : (match (s.elapse t).ctl.presentExpiry with
    | none => s.elapse t
    | some e => _) = s' := Host.Outcome.next.inj h
  split
  · exact .steady t (Frame.refl _ _)
  · split
    · next x _ due =>
      simp only [Bool.and_eq_true, beq_iff_eq] at due
      exact .presentPeriod t (x + msOf 60000) due.1 (State.withLink_frame _ _)
    · exact .steady t (Frame.refl _ _)

theorem effect_causes {t : Nat} {s s' : State} (h : exec (.causes t) s = .next s') :
    Effect (.causes t) s s' := by
  obtain rfl : (if (s.elapse t).port.inService = some .causes then _ else s.elapse t) = s' :=
    Host.Outcome.next.inj h
  split
  · exact .causes t _
  · exact .steady t (Frame.refl _ _)

theorem effect_set {t : Nat} {s s' : State} (h : exec (.set t) s = .next s') :
    Effect (.set t) s s' := by
  have told (st : Status) (p : List Byte) : Effect (.set t) s ((s.elapse t).answer st p) :=
    .steady t ((State.answer_frame _ st p).mono (by simp [touches]))
  obtain rfl : (match (s.elapse t).port.inService with
    | some (.set item v) => _
    | _ => s.elapse t) = s' := Host.Outcome.next.inj h
  split
  · split
    · dsimp only
      split
      · exact told _ _
      · next config => exact .set t _ _ _ _ (not_not.mp config)
    · exact told _ _
  · exact .steady t (Frame.refl _ _)

theorem effect_start {t : Nat} {s s' : State} (h : exec (.start t) s = .next s') :
    Effect (.start t) s s' := by
  have told (st : Status) (p : List Byte) : Effect (.start t) s ((s.elapse t).answer st p) :=
    .steady t ((State.answer_frame _ st p).mono (by simp [touches]))
  obtain rfl : (if (s.elapse t).port.inService = some .start then _ else s.elapse t) = s' :=
    Host.Outcome.next.inj h
  split
  · split
    · next config =>
      split
      · exact told _ _
      · exact .start t config
    · exact told _ _
    · exact told _ _
  · exact .steady t (Frame.refl _ _)

theorem effect_restart {t : Nat} {low : Bool} {s s' : State}
    (h : exec (.restart t low) s = .next s') : Effect (.restart t low) s s' := by
  rw [exec_restart] at h
  cases h
  split
  · obtain ⟨u, frame, restarted⟩ := takeRestart_frame (s.elapse t) low
    rw [restarted]
    exact .restart t low frame
  · exact .steady t (Frame.refl _ _)

/-- Every command has one of these effects. -/
theorem exec_effect {i : Instr} {s s' : State} (h : exec i s = .next s') : Effect i s s' := by
  cases hi : steadyCommand i with
  | true => exact .of_steadyCommand hi h
  | false =>
    cases i with
    | pinReset straps low psel => cases h; exact .pinReset straps low psel s
    | positionClose checks => exact effect_positionClose h
    | presentPeriodExpiry t => exact effect_presentPeriodExpiry h
    | causes t => exact effect_causes h
    | set t => exact effect_set h
    | start t => exact effect_start h
    | restart t low => exact effect_restart h
    | _ => cases hi

/-- A step idles, or is the command at the front of the queue on the rest of it. -/
theorem step_cases {s s' : State} (h : step s = .next s') :
    s' = s ∨ ∃ c rest, exec c (s.withPending rest) = .next s' := by
  unfold step at h
  split at h
  · exact .inl (Host.Outcome.next.inj h).symm
  · next c rest _ => exact .inr ⟨c, rest, h⟩

/-- A property that no command loses, and that does not look at the queue, every step keeps. -/
theorem step_keeps {P : State → Prop} (queue : ∀ s q, P s → P (s.withPending q))
    (command : ∀ i s s', P s → exec i s = .next s' → P s') {s s' : State} (hs : P s)
    (h : step s = .next s') : P s' := by
  rcases step_cases h with same | ⟨c, rest, exec⟩
  · exact same ▸ hs
  · exact command c _ s' (queue s rest hs) exec

/-! What the items' owners do. -/

theorem State.storeItem_onlyChanges (s : State) (i : Fin 30) (x : Int) :
    onlyChanges [.ref, .ctl] s (s.storeItem i x) := by
  refine onlyChanges_trans (onlyChanges_mono
    (s.withCtl_onlyChanges { s.ctl with items := s.ctl.items.set i x }) (by simp)) ?_
  unfold State.storeItem State.itemTaken
  split
  · exact onlyChanges_mono (State.withRef_onlyChanges _ _) (by simp)
  · split
    · exact onlyChanges_mono (State.withRef_onlyChanges _ _) (by simp)
    · split
      · exact onlyChanges_mono (State.withCtl_onlyChanges _ _) (by simp)
      · exact onlyChanges_refl _ _

/-- A stored item and what its owner makes of it, as an update of tracker and controller. -/
theorem State.storeItem_eq (s : State) (i : Fin 30) (x : Int) :
    ∃ ref attn, s.storeItem i x = (s.withRef ref).withCtl { s.ctl with
      items := s.ctl.items.set i x, attn := attn } ∧
      attn = if i = 29 then attnOf s.ctl.causes (s.storeItem i x).attnMask else s.ctl.attn := by
  by_cases h29 : i = 29
  · subst h29
    exact ⟨s.ref, _, rfl, rfl⟩
  · simp only [h29, if_false]
    unfold State.storeItem State.itemTaken
    split
    · exact ⟨_, _, rfl, rfl⟩
    · split
      · exact ⟨_, _, rfl, rfl⟩
      · exact ⟨s.ref, _, rfl, rfl⟩

/-! The machine as a whole. -/

/-- Settles O1: both cases are those of the definition of a step. -/
theorem stepRunsTheFrontCommand : Obligations.StepRunsTheFrontCommand := by
  unfold Obligations.StepRunsTheFrontCommand
  constructor
  · intro s c rest h
    unfold step
    rw [h]
  · intro s h
    unfold step
    rw [h]

/-- Settles O2, from the effect of a command. -/
theorem commandsKeepWhatIsNotTheirs : Obligations.CommandsKeepWhatIsNotTheirs := by
  unfold Obligations.CommandsKeepWhatIsNotTheirs
  intro i s s' h
  have moved (t : Nat) (bs : List Block) : onlyChanges bs s (s.elapse t) :=
    onlyChanges_mono (s.elapse_onlyChanges t) (by simp)
  cases exec_effect h with
  | steady t frame => exact ⟨onlyChanges_trans (moved t _) frame.only, fun _ _ => frame.steady.free⟩
  | pinReset straps low psel =>
    exact ⟨⟨fun b hb => by cases b <;> simp [touches] at hb, rfl⟩, fun _ _ => rfl⟩
  | halt checks halts frame =>
    refine ⟨?_, fun _ noClose => absurd rfl (noClose checks)⟩
    refine onlyChanges_trans (onlyChanges_trans (moved _ _) frame.only) ?_
    exact onlyChanges_mono (bs := [.ctl]) ⟨fun b hb => by
      cases b <;> simp [Block.same, State.enterHalted] at hb ⊢, rfl⟩ (by simp [touches])
  | presentPeriod t x running frame =>
    refine ⟨onlyChanges_trans (onlyChanges_trans (moved t _)
      (onlyChanges_mono frame.only (by simp [touches]))) ?_, fun _ _ => frame.steady.free⟩
    exact onlyChanges_mono (State.withCtl_onlyChanges _ _) (by simp [touches])
  | causes t p =>
    refine ⟨onlyChanges_trans (moved t _) (onlyChanges_trans
      (onlyChanges_mono (State.withCtl_onlyChanges _ _) (by simp [touches]))
      (onlyChanges_mono (State.answer_frame _ _ _).only (by simp [touches]))), fun _ _ => rfl⟩
  | set t i v st p config =>
    obtain ⟨ref, attn, stored, -⟩ := (s.elapse t).storeItem_eq i (storedValue i v)
    refine ⟨onlyChanges_trans (moved t _) (onlyChanges_trans
      (onlyChanges_mono (State.storeItem_onlyChanges _ _ _) (by simp [touches]))
      (onlyChanges_mono (State.answer_frame _ _ _).only (by simp [touches]))), fun _ _ => ?_⟩
    rw [State.answer_free, stored]
    rfl
  | start t config =>
    exact ⟨onlyChanges_trans (moved t _) (onlyChanges_trans
      (onlyChanges_mono (takeStart_onlyChanges _) (by simp [touches]))
      (onlyChanges_mono (State.answer_frame _ _ _).only (by simp [touches]))), fun _ _ => rfl⟩
  | restart t low frame =>
    refine ⟨?_, fun noRestart => absurd rfl (noRestart t low)⟩
    refine onlyChanges_trans (onlyChanges_trans (moved t _)
      (onlyChanges_mono frame.only (by simp [touches]))) ?_
    exact onlyChanges_mono (bs := [.ctl, .port]) ⟨fun b hb => by
      cases b <;> simp [Block.same] at hb ⊢, rfl⟩ (by simp [touches])

/-- Settles O3: only a pin reset sets the tick count back. -/
theorem theClockOnlyMovesOn : Obligations.TheClockOnlyMovesOn := by
  unfold Obligations.TheClockOnlyMovesOn
  intro i s s' h noReset
  cases exec_effect h with
  | steady t frame => exact frame.steady.time ▸ s.time_le_elapse t
  | pinReset straps low psel => exact absurd rfl (noReset straps low psel)
  | halt checks halts frame =>
    have moved : s.time ≤ _ := s.time_le_elapse s.closeMoment
    exact frame.steady.time ▸ moved
  | presentPeriod t x running frame =>
    have moved : s.time ≤ _ := s.time_le_elapse t
    exact frame.steady.time ▸ moved
  | causes t p => exact s.time_le_elapse t
  | set t i v st p config =>
    obtain ⟨ref, attn, stored, -⟩ := (s.elapse t).storeItem_eq i (storedValue i v)
    rw [stored]
    exact s.time_le_elapse t
  | start t config => exact s.time_le_elapse t
  | restart t low frame =>
    have moved : s.time ≤ _ := s.time_le_elapse t
    exact frame.steady.time ▸ moved

/-- Settles O4, from the effect of a command. -/
theorem strapsAndItemsStand : Obligations.StrapsAndItemsStand := by
  unfold Obligations.StrapsAndItemsStand
  refine ⟨fun straps low psel s => ⟨_, rfl, rfl⟩, fun i s s' h noReset => ?_⟩
  have stand {t : Nat} {u : State} (steady : Steady (s.elapse t) u) :
      u.ctl.straps = s.ctl.straps ∧ u.ctl.items = s.ctl.items ∧
        u.store.startTime = s.store.startTime ∧ u.store.frozenBase = s.store.frozenBase :=
    ⟨steady.straps, steady.items, steady.startTime, steady.frozenBase⟩
  cases exec_effect h with
  | steady t frame =>
    obtain ⟨straps, items, start, base⟩ := stand frame.steady
    exact ⟨straps, .inl items, .inl ⟨start, base⟩⟩
  | pinReset straps low psel => exact absurd rfl (noReset straps low psel)
  | halt checks halts frame =>
    obtain ⟨straps, items, start, base⟩ := stand frame.steady
    exact ⟨straps, .inl items, .inl ⟨start, base⟩⟩
  | presentPeriod t x running frame =>
    obtain ⟨straps, items, start, base⟩ := stand frame.steady
    exact ⟨straps, .inl items, .inl ⟨start, base⟩⟩
  | causes t p => exact ⟨rfl, .inl rfl, .inl ⟨rfl, rfl⟩⟩
  | set t i v st p config =>
    obtain ⟨ref, attn, stored, -⟩ := (s.elapse t).storeItem_eq i (storedValue i v)
    rw [stored]
    exact ⟨rfl, .inr ⟨⟨t, rfl⟩, config⟩, .inl ⟨rfl, rfl⟩⟩
  | start t config => exact ⟨rfl, .inl rfl, .inr ⟨⟨t, rfl⟩, config⟩⟩
  | restart t low frame =>
    obtain ⟨straps, items, start, base⟩ := stand frame.steady
    exact ⟨straps, .inl items, .inl ⟨start, base⟩⟩

/-- A halt comes in RUN alone (R187). -/
theorem State.running_of_halts {s : State} (h : s.halts = true) : s.ctl.state = .run := by
  simp only [State.halts, Bool.and_eq_true, beq_iff_eq] at h
  exact h.2

/-- Settles O5, from the effect of a command; a RESTART in CONFIG leaves the state there. -/
theorem stationStateMovesByItsTable : Obligations.StationStateMovesByItsTable := by
  unfold Obligations.StationStateMovesByItsTable
  intro i s s' h noReset
  cases exec_effect h with
  | steady t frame => exact .inl frame.steady.state
  | pinReset straps low psel => exact absurd rfl (noReset straps low psel)
  | halt checks halts frame =>
    exact .inr (.inr (.inr ⟨State.running_of_halts halts, rfl, checks, rfl⟩))
  | presentPeriod t x running frame => exact .inl frame.steady.state
  | causes t p => exact .inl rfl
  | set t i v st p config =>
    obtain ⟨ref, attn, stored, -⟩ := (s.elapse t).storeItem_eq i (storedValue i v)
    rw [stored]
    exact .inl rfl
  | start t config => exact .inr (.inl ⟨config, rfl, t, rfl⟩)
  | restart t low frame =>
    by_cases config : s.ctl.state = .config
    · exact .inl config.symm
    · exact .inr (.inr (.inl ⟨config, rfl, t, low, rfl⟩))

/-- Settles O6: no effect but that of CAUSES and of a pin reset clears a cause. -/
theorem causesStaySetUntilRead : Obligations.CausesStaySetUntilRead := by
  unfold Obligations.CausesStaySetUntilRead
  intro i s s' h noReset noCauses b hb
  cases exec_effect h with
  | steady t frame => exact frame.steady.causes b hb
  | pinReset straps low psel => exact absurd rfl (noReset straps low psel)
  | halt checks halts frame =>
    exact ((State.raise_frame _ .halt 0).steady.causes b (frame.steady.causes b hb))
  | presentPeriod t x running frame => exact frame.steady.causes b hb
  | causes t p => exact absurd rfl (noCauses t)
  | set t i v st p config =>
    obtain ⟨ref, attn, stored, -⟩ := (s.elapse t).storeItem_eq i (storedValue i v)
    rw [stored]
    exact hb
  | start t config => exact hb
  | restart t low frame => exact frame.steady.causes b hb

/-! ATTN and RDY. -/

/-- ATTN follows the causes where it is what they and the mask give (R191). -/
theorem State.attnFollowsCauses_iff {s : State} :
    s.attnFollowsCauses ↔ s.ctl.attn = attnOf s.ctl.causes s.attnMask := by
  rw [State.attnFollowsCauses, ← attnOf_eq_true_iff, ← Bool.eq_iff_iff]

/-- A steady change leaves ATTN following the causes: where the causes stay, the mask does too. -/
theorem Steady.keeps_attn {s u : State} (h : Steady s u)
    (hs : s.ctl.attn = attnOf s.ctl.causes s.attnMask) :
    u.ctl.attn = attnOf u.ctl.causes u.attnMask := by
  rcases h.attn with new | ⟨attn, causes⟩
  · exact new
  · rw [attn, causes, h.attnMask, hs]

theorem exec_keeps_attn {i : Instr} {s s' : State}
    (hs : s.ctl.attn = attnOf s.ctl.causes s.attnMask) (h : exec i s = .next s') :
    s'.ctl.attn = attnOf s'.ctl.causes s'.attnMask := by
  cases exec_effect h with
  | steady t frame => exact frame.steady.keeps_attn hs
  | pinReset straps low psel => exact (by decide : false = attnOf causesClear 0)
  | halt checks halts frame => rfl
  | presentPeriod t x running frame => exact frame.steady.keeps_attn hs
  | causes t p => rfl
  | set t i v st p config =>
    obtain ⟨ref, attn, stored, hattn⟩ := (s.elapse t).storeItem_eq i (storedValue i v)
    rw [stored] at hattn ⊢
    by_cases h29 : i = 29
    · rw [if_pos h29] at hattn
      exact hattn
    · have mask : s.ctl.items[29] = (s.ctl.items.set i (storedValue i v))[29] := by
        have : i.val ≠ 29 := fun e => h29 (Fin.ext e)
        rw [Vector.getElem_set_ne _ _ this]
      rw [if_neg h29] at hattn
      subst hattn
      exact hs.trans (congrArg (fun x : Int => attnOf s.ctl.causes x.toNat) mask)
  | start t config => exact hs
  | restart t low frame => exact frame.steady.keeps_attn hs

theorem RecordPort.serveNext_buffer (p : RecordPort) :
    p.serveNext.buffer = p.buffer ∧ p.serveNext.rdy = p.rdy := by
  unfold RecordPort.serveNext
  split <;> exact ⟨rfl, rfl⟩

/-- Serving leaves RDY asserted exactly with a response in the buffer (R172). -/
theorem State.answer_keeps_rdy {s : State} (hs : s.rdyFollowsBuffer) (st : Status)
    (p : List Byte) : (s.answer st p).rdyFollowsBuffer := by
  obtain ⟨buffer, rdy⟩ := (s.port.offer (responseBytes st p)).serveNext_buffer
  rw [State.rdyFollowsBuffer, State.answer_port, buffer, rdy]
  unfold RecordPort.offer
  split
  · exact hs
  · rfl

/-- A command that leaves the port, or answers a request, keeps RDY to the buffer. -/
theorem rdy_of_same_port {s u : State} (hs : s.rdyFollowsBuffer) (h : u.port = s.port) :
    u.rdyFollowsBuffer := by
  rw [State.rdyFollowsBuffer, h]
  exact hs

theorem RecordPort.readFrame_rdy (p : RecordPort) (count : Nat) (h : p.rdy = p.buffer.isSome) :
    (p.readFrame count).rdy = (p.readFrame count).buffer.isSome := by
  unfold RecordPort.readFrame
  split
  · next empty => simp [h, empty]
  · next resp full => split <;> simp [h, full]

theorem RecordPort.takeRequest_rdy (p : RecordPort) (r : Request) :
    (p.takeRequest r).rdy = p.rdy ∧ (p.takeRequest r).buffer = p.buffer := by
  unfold RecordPort.takeRequest
  split <;> exact ⟨rfl, rfl⟩

/-- What a request of the port comes to: an answer after a change of other blocks, or nothing. -/
def Answers (s s' : State) : Prop :=
  s'.port = s.port ∨ ∃ u st p, u.port = s.port ∧ s' = State.answer u st p

theorem Answers.refl (s : State) : Answers s s := .inl rfl
theorem Answers.of {s u : State} (h : u.port = s.port) (st : Status) (p : List Byte) :
    Answers s (u.answer st p) := .inr ⟨u, st, p, h, rfl⟩

theorem Answers.keeps_rdy {s s' : State} (hs : s.rdyFollowsBuffer) (h : Answers s s') :
    s'.rdyFollowsBuffer := by
  rcases h with same | ⟨u, st, p, same, rfl⟩
  · exact rdy_of_same_port hs same
  · exact State.answer_keeps_rdy (rdy_of_same_port hs same) st p

/-- The commands that serve a request answer it, or leave the port alone (R172). -/
theorem exec_answers {i : Instr} {s s' : State} (h : exec i s = .next s')
    (serving : ∀ straps low psel, i ≠ .pinReset straps low psel)
    (noBegin : ∀ t code, i ≠ .requestBegin t code) (noTaken : ∀ t bytes, i ≠ .requestTaken t bytes)
    (noRead : ∀ t count, i ≠ .readFrame t count) (noEnd : ∀ t, i ≠ .ignoredPeriodEnd t) :
    Answers s s' := by
  by_cases hp : Block.port ∈ touches i
  case neg => exact .inl ((commandsKeepWhatIsNotTheirs i s s' h).1.1 .port hp)
  cases i with
  | pinReset straps low psel => exact absurd rfl (serving straps low psel)
  | requestBegin t code => exact absurd rfl (noBegin t code)
  | requestTaken t bytes => exact absurd rfl (noTaken t bytes)
  | readFrame t count => exact absurd rfl (noRead t count)
  | ignoredPeriodEnd t => exact absurd rfl (noEnd t)
  | malformedRequest t | status t | reference t | peers t =>
    cases h
    split
    · exact .of rfl _ _
    · exact Answers.refl _
  | tally t | causes t =>
    cases h
    split
    · exact .of rfl _ _
    · exact Answers.refl _
  | linkReset t low =>
    cases h
    split
    · have reset : Frame [.mark, .link, .corr, .store] (s.elapse t) ((s.elapse t).takeLinkReset low) :=
        ((State.linkTakesReset_frame _ _).comp (State.withMark_frame _ _)).mono (by simp)
      exact .of (reset.only.1 .port (by simp)) _ _
    · exact Answers.refl _
  | live t =>
    cases h
    split
    · split <;> exact .of rfl _ _
    · exact Answers.refl _
  | head t =>
    cases h
    split
    · split
      · exact .of rfl _ _
      · split <;> exact .of rfl _ _
    · exact Answers.refl _
  | release t =>
    cases h
    split
    · split
      · exact .of rfl _ _
      · split
        · split
          · exact .of rfl _ _
          · exact .of ((State.removeHead_frame _ _).only.1 .port (by simp)) _ _
        · split <;> exact .of rfl _ _
    · exact Answers.refl _
  | wave t fails =>
    cases h
    split
    · split
      · exact .of rfl _ _
      · split
        · refine .of ?_ _ _
          exact (State.memoryError_frame _ _).only.1 .port (by simp)
        · exact .of rfl _ _
    · exact Answers.refl _
  | interval t =>
    cases h
    split
    · split <;> exact .of rfl _ _
    · exact Answers.refl _
  | get t =>
    cases h
    split
    · split <;> exact .of rfl _ _
    · exact Answers.refl _
  | set t =>
    cases h
    split
    · split
      · dsimp only
        split
        · exact .of rfl _ _
        · exact .of ((State.storeItem_onlyChanges _ _ _).1 .port (by simp)) _ _
      · exact .of rfl _ _
    · exact Answers.refl _
  | start t =>
    cases h
    split
    · split
      · split
        · exact .of rfl _ _
        · exact .of rfl _ _
      · exact .of rfl _ _
      · exact .of rfl _ _
    · exact Answers.refl _
  | restart t low =>
    rw [exec_restart] at h
    cases h
    split
    · obtain ⟨u, frame, restarted⟩ := takeRestart_frame (s.elapse t) low
      refine .of ?_ _ _
      rw [restarted]
      exact frame.only.1 .port (by simp)
    · exact Answers.refl _
  | _ => simp [touches] at hp

theorem exec_keeps_rdy {i : Instr} {s s' : State} (hs : s.rdyFollowsBuffer)
    (h : exec i s = .next s') : s'.rdyFollowsBuffer := by
  cases i with
  | pinReset straps low psel => cases h; rfl
  | requestBegin t code =>
    cases h
    split
    · rfl
    · exact hs
  | requestTaken t bytes =>
    cases h
    split
    · obtain ⟨rdy, buffer⟩ := s.port.takeRequest_rdy (decodeRequest _)
      exact (rdy.trans hs).trans (congrArg Option.isSome buffer.symm)
    all_goals exact hs
  | readFrame t count =>
    cases h
    split
    · exact s.port.readFrame_rdy count hs
    · exact hs
  | ignoredPeriodEnd t =>
    cases h
    split <;> exact hs
  | _ => exact (exec_answers h nofun nofun nofun nofun nofun).keeps_rdy hs

/-- Settles O7, from the effect of a command on the causes and on the port. -/
theorem attnAndRdyFollow : Obligations.AttnAndRdyFollow := by
  unfold Obligations.AttnAndRdyFollow
  refine ⟨fun s s' hs h => ?_, fun s s' hs h => ?_⟩
  · rw [State.attnFollowsCauses_iff] at hs ⊢
    exact step_keeps (fun _ _ hq => hq) (fun _ _ _ hu he => exec_keeps_attn hu he) hs h
  · exact step_keeps (fun _ _ hq => hq) (fun _ _ _ hu he => exec_keeps_rdy hu he) hs h

end Sys2Proof.Machine
end

section
/-! The ledger: what the record store, the waveform slots, the mark contexts and the detector hold
of one another (ch. 4, 5, 8 and 9), taken out of the state, and the moves by which every operation
changes it. The invariants that tie these four blocks together are kept move by move. -/

namespace Sys2Proof.Machine

/-- What ties a record to the other blocks. -/
structure Core where
  id : Nat
  isOpen : Bool
  running : Bool
  anchorOpen : Bool
  time : StationTime
  slot : Option (Fin 8)
  peers : List PeerVerdict

/-- The slot that a waveform part names. -/
def WavePart.slot : WavePart → Option (Fin 8)
  | .present k _ => some k
  | .absent _ => none

/-- What ties `r` to the other blocks. -/
def Record.core (r : Record) : Core :=
  ⟨r.id, r.isOpen, r.running, r.anchorOpen, r.time, r.wave.slot, r.peers⟩

/-- What ties an OPEN context to the other blocks. -/
structure Link where
  linked : Nat
  edge : Ms
  peers : List PeerVerdict

/-- What ties `c` to the other blocks. -/
def Context.tie (c : Context) : Link := ⟨c.linked, c.edge, c.peers⟩

/-- The event record id in EVENT. -/
def DetMode.eventId : DetMode → Option Nat
  | .watch => none
  | .event _ id _ => some id
  | .held _ _ => none

/-- What the four blocks hold of one another, with RECORD_CLOSED, the last edge time and the clock. -/
structure Ledger where
  queue : List Core
  nextId : Nat
  slot : Fin 8 → SlotState
  holders : Fin 8 → Nat
  ctx : Fin 4 → Option Link
  event : Option Nat
  closed : CauseEntry
  lastEdge : Option Ms
  now : Ms

/-- The ledger of a state. -/
def State.ledger (s : State) : Ledger where
  queue := s.store.queue.map Record.core
  nextId := s.store.nextId
  slot k := s.cap.slots[k].state
  holders k := s.cap.slots[k].holders
  ctx k := s.corr.slots[k].map Context.tie
  event := s.det.mode.eventId
  closed := s.ctl.causes[8]
  lastEdge := s.mark.lastEdge
  now := s.now

namespace Ledger

/-- A write to the records with this id. -/
def edit (w : Ledger) (id : Nat) (f : Core → Core) : Ledger :=
  { w with queue := w.queue.map fun c => if c.id = id then f c else c }

/-- The record's slot is FILLING. -/
def filling (w : Ledger) (c : Core) : Bool := c.slot.any fun k => w.slot k == .filling

/-- The three conditions of CLOSED (R149). -/
def closable (w : Ledger) (c : Core) : Bool := !c.running && !c.anchorOpen && !w.filling c

/-- The store judges the record with this id (R149). -/
def judge (w : Ledger) (id : Nat) : Ledger :=
  match w.queue.find? fun c => c.id == id with
  | none => w
  | some c =>
    if c.isOpen && w.closable c then
      { w.edit id fun c => { c with isOpen := false } with closed := ⟨true, 0, false⟩ }
    else w

/-- The ids of the records that name slot `k`. -/
def namers (w : Ledger) (k : Fin 8) : List Nat :=
  (w.queue.filter fun c => c.slot == some k).map Core.id

/-- Slot `k` in state `x` with `n` holders. -/
def setSlot (w : Ledger) (k : Fin 8) (x : SlotState) (n : Nat) : Ledger :=
  { w with slot := Function.update w.slot k x, holders := Function.update w.holders k n }

/-- Context slot `k` with `l`. -/
def setCtx (w : Ledger) (k : Fin 4) (l : Option Link) : Ledger :=
  { w with ctx := Function.update w.ctx k l }

/-- The records that name slot `k` lose their waveform part. -/
def lose (w : Ledger) (k : Fin 8) : Ledger :=
  { w with queue := w.queue.map fun c => if c.slot = some k then { c with slot := none } else c }

/-- The tail of the queue is an OPEN record `id` without a waveform part. -/
def Newest (w : Ledger) (id : Nat) : Prop :=
  ∃ q c, w.queue = q ++ [c] ∧ c.id = id ∧ c.isOpen = true ∧ c.slot = none

/-- The record `c` is added at the tail, linked to the context in slot `anchor` if there is one, and
made the event record if it runs (R124, R145, R49). -/
def add (w : Ledger) (c : Core) (anchor : Option (Fin 4)) : Ledger :=
  { w with
    queue := (if anchor.isSome then (w.edit c.id fun d => { d with anchorOpen := true }).queue
      else w.queue) ++ [c]
    nextId := nextRecordId w.nextId
    ctx := fun k => if anchor = some k then (w.ctx k).map fun l => { l with linked := c.id } else w.ctx k
    event := if c.running then some c.id else w.event }

/-- What a record that is added must be: OPEN, with the next id, no waveform part and no peer
verdicts, no earlier than the tail, held OPEN by its anchor, by its event or by a judgement still due
(`due`), its anchor context linked to nothing before. -/
structure Addable (w : Ledger) (c : Core) (anchor : Option (Fin 4)) (due : List Nat) : Prop where
  id : c.id = w.nextId
  isOpen : c.isOpen = true
  slot : c.slot = none
  peers : c.peers = []
  room : w.queue.length < 48
  time : ∀ d ∈ w.queue.getLast?, c.time.earlier d.time = false
  anchored : c.anchorOpen = anchor.isSome
  unlinked : ∀ k ∈ anchor, ∃ l, w.ctx k = some l ∧ l.linked = 0
  event : c.running = true → w.event = some 0
  waits : c.running = false → c.anchorOpen = false → c.id ∈ due

/-- The moves of the ledger. `due` before and after are the ids of the records whose judgement is
still to come. -/
inductive Move : List Nat → Ledger → List Nat → Ledger → Prop
  /-- Fewer judgements are promised than are due. -/
  | relax {due due' : List Nat} (w : Ledger) (h : ∀ id ∈ due, id ∈ due') : Move due w due' w
  /-- The peer verdict list of a context is copied into its record (R136). -/
  | peers (due : List Nat) (w : Ledger) (k : Fin 4) (l : Link) (id : Nat) (h : w.ctx k = some l) :
      Move due w due (w.edit id fun c => { c with peers := l.peers })
  /-- The running flag is cleared (R54). -/
  | rest (due : List Nat) (w : Ledger) (id : Nat) :
      Move due w (id :: due) (w.edit id fun c => { c with running := false })
  /-- The detector leaves a state whose event record no longer runs, or enters EVENT without one. -/
  | event (due : List Nat) (w : Ledger) (e : Option Nat)
      (h : ∀ c ∈ w.queue, c.id ≠ 0 → w.event = some c.id → c.running = false) :
      Move due w due { w with event := e }
  /-- The record `id` becomes the event record (R48). -/
  | upgrade (due : List Nat) (w : Ledger) (id : Nat) (h : w.event = some 0) :
      Move due w due { w.edit id fun c => { c with running := true } with event := some id }
  /-- A context closes, and the record linked to it has its anchor open no more (R134). -/
  | unlink (due : List Nat) (w : Ledger) (k : Fin 4) (l : Link) (h : w.ctx k = some l) :
      Move due w (l.linked :: due)
        ((w.setCtx k none).edit l.linked fun c => { c with anchorOpen := false })
  /-- A context that is linked to nothing closes. -/
  | close (due : List Nat) (w : Ledger) (k : Fin 4) (l : Link) (h : w.ctx k = some l)
      (hl : l.linked = 0) : Move due w due (w.setCtx k none)
  /-- A record is created (R145). -/
  | add (due : List Nat) {due' : List Nat} (w : Ledger) (c : Core) (anchor : Option (Fin 4))
      (hsub : ∀ id ∈ due, id ∈ due') (h : w.Addable c anchor due') :
      Move due w due' (w.add c anchor)
  /-- The new record's capture is refused (R71). -/
  | refuse (due : List Nat) (w : Ledger) (id : Nat) (h : w.Newest id) :
      Move due w due (w.edit id fun c => { c with slot := none })
  /-- The new record joins a FILLING slot (R71). -/
  | join (due : List Nat) (w : Ledger) (id : Nat) (k : Fin 8) (h : w.Newest id)
      (hk : w.slot k = .filling) :
      Move due w due ((w.setSlot k .filling (w.holders k + 1)).edit id fun c =>
        { c with slot := some k })
  /-- The new record opens a FREE slot, no slot being FILLING (R71). -/
  | fill (due : List Nat) (w : Ledger) (id : Nat) (k : Fin 8) (h : w.Newest id)
      (hk : w.slot k = .free) (hf : ∀ j, w.slot j ≠ .filling) :
      Move due w due ((w.setSlot k .filling 1).edit id fun c => { c with slot := some k })
  /-- A record is judged. -/
  | judge (due : List Nat) (w : Ledger) (id : Nat) :
      Move due w (due.filter (· ≠ id)) (w.judge id)
  /-- A fill ends (R76). -/
  | hold (due : List Nat) (w : Ledger) (k : Fin 8) (hk : w.slot k = .filling) :
      Move due w (w.namers k ++ due) (w.setSlot k .held (w.holders k))
  /-- A slot in use is lost (R79). -/
  | spoil (due : List Nat) (w : Ledger) (k : Fin 8) (hk : w.slot k = .filling ∨ w.slot k = .held) :
      Move due w (w.namers k ++ due) ((w.setSlot k .scrubbing 0).lose k)
  /-- A scrub completes (R80). -/
  | scrubbed (due : List Nat) (w : Ledger) (k : Fin 8) (hk : w.slot k = .scrubbing) :
      Move due w due (w.setSlot k .free 0)
  /-- A falling edge is stamped (R87). -/
  | edge (due : List Nat) (w : Ledger) : Move due w due { w with lastEdge := some w.now }
  /-- A falling edge is stamped and opens a context, where it is not in the millisecond of the one
  before (R87, R122). -/
  | mark (due : List Nat) (w : Ledger) (k : Fin 4) (h : w.ctx k = none)
      (hl : w.lastEdge ≠ some w.now) :
      Move due w due { w.setCtx k (some ⟨0, w.now, []⟩) with lastEdge := some w.now }

/-- A chain of moves. -/
inductive Moves : List Nat → Ledger → List Nat → Ledger → Prop
  | refl (due : List Nat) (w : Ledger) : Moves due w due w
  | step {d d' d'' : List Nat} {w w' w'' : Ledger} (h : Moves d w d' w') (m : Move d' w' d'' w'') :
      Moves d w d'' w''

theorem Moves.trans {d d' d'' : List Nat} {w w' w'' : Ledger} (h : Moves d w d' w')
    (h' : Moves d' w' d'' w'') : Moves d w d'' w'' := by
  induction h' with
  | refl => exact h
  | step _ m ih => exact (ih h).step m

theorem Move.moves {d d' : List Nat} {w w' : Ledger} (m : Move d w d' w') : Moves d w d' w' :=
  (Moves.refl d w).step m

/-- Judging every record whose judgement is due leaves none due. -/
theorem moves_judgeAll (ids due : List Nat) (w : Ledger) :
    Moves (ids ++ due) w due (ids.foldl judge w) := by
  induction ids generalizing w with
  | nil => exact .refl _ _
  | cons id ids ih =>
    have judged := (Move.judge (id :: ids ++ due) w id).moves
    refine (judged.step (.relax (due' := ids ++ due) _ fun j hj => ?_)).trans (ih (w.judge id))
    simp only [List.mem_filter, List.cons_append, List.mem_cons, decide_eq_true_eq] at hj
    exact hj.1.resolve_left hj.2

/-- A judgement leaves the running flags. -/
theorem judge_running (w : Ledger) (id : Nat) {c : Core} (hc : c ∈ (w.judge id).queue) :
    ∃ d ∈ w.queue, d.id = c.id ∧ d.running = c.running := by
  unfold judge at hc
  split at hc
  · exact ⟨c, hc, rfl, rfl⟩
  · split at hc
    · obtain ⟨d, hd, rfl⟩ := List.mem_map.1 hc
      exact ⟨d, hd, by split <;> rfl, by split <;> rfl⟩
    · exact ⟨c, hc, rfl, rfl⟩

theorem judge_event (w : Ledger) (id : Nat) : (w.judge id).event = w.event := by
  unfold judge
  split
  · rfl
  · split <;> rfl

/-- The event of record `id` ends: its running flag is cleared, it is judged, and the detector is in
another state. -/
theorem moves_finish (due : List Nat) {w : Ledger} {id : Nat} (h : w.event = some id) (e : Option Nat) :
    Moves due w due { (w.edit id fun c => { c with running := false }).judge id with event := e } := by
  have rested := (Move.rest due w id).moves.trans
    (moves_judgeAll [id] due (w.edit id fun c => { c with running := false }))
  refine rested.step (.event due _ e fun c hc _ hev => ?_)
  obtain ⟨d, hd, hid, hrun⟩ := judge_running _ id hc
  rw [List.foldl_cons, List.foldl_nil, judge_event] at hev
  obtain ⟨d, -, rfl⟩ := List.mem_map.1 hd
  have : id = c.id := by simpa [edit, h] using hev
  rw [← hrun]
  by_cases hd : d.id = id
  · simp [hd]
  · rw [if_neg hd] at hid
    exact absurd (hid.trans this.symm) hd

end Ledger

/-! The ledger of a state after one update. -/

@[simp] theorem State.withLink_ledger (s : State) (x : NoticeLink) : (s.withLink x).ledger = s.ledger := rfl
@[simp] theorem State.withRef_ledger (s : State) (x : RefTracker) : (s.withRef x).ledger = s.ledger := rfl
@[simp] theorem State.withAgg_ledger (s : State) (x : Aggregator) : (s.withAgg x).ledger = s.ledger := rfl
@[simp] theorem State.withPort_ledger (s : State) (x : RecordPort) : (s.withPort x).ledger = s.ledger := rfl
@[simp] theorem State.withRms_ledger (s : State) (x : RmsEngine) : (s.withRms x).ledger = s.ledger := rfl
@[simp] theorem State.withCfe_ledger (s : State) (x : FrontEnd) : (s.withCfe x).ledger = s.ledger := rfl
@[simp] theorem State.withFree_ledger (s : State) (x : Nat) : (s.withFree x).ledger = s.ledger := rfl
@[simp] theorem State.withPending_ledger (s : State) (x : List Instr) :
    (s.withPending x).ledger = s.ledger := rfl
@[simp] theorem State.answer_ledger (s : State) (st : Status) (p : List Byte) :
    (s.answer st p).ledger = s.ledger := rfl
@[simp] theorem State.handToTally_ledger (s : State) (c : RecordClass) (r m d : Nat) :
    (s.handToTally c r m d).ledger = s.ledger := rfl
@[simp] theorem State.storeTakes_ledger (s : State) (view : StationState) :
    (s.storeTakes view).ledger = s.ledger := rfl

theorem State.withDet_ledger (s : State) (x : Detector) :
    (s.withDet x).ledger = { s.ledger with event := x.mode.eventId } := rfl
theorem State.withMark_ledger (s : State) (x : MarkLine) :
    (s.withMark x).ledger = { s.ledger with lastEdge := x.lastEdge } := rfl

/-- A raise of another cause than RECORD_CLOSED is not in the ledger. -/
theorem State.raise_ledger (s : State) {c : Cause} (n : Nat) (h : c.bit ≠ 8) :
    (s.raise c n).ledger = s.ledger := by
  have : (s.raise c n).ctl.causes[(8 : Fin 13)] = s.ctl.causes[(8 : Fin 13)] := by
    rw [State.raise_causes, if_neg h.symm]
  simp only [State.ledger, State.raise_store, State.raise_cap, State.raise_corr, State.raise_det,
    State.raise_mark, State.now, State.raise_time]
  rw [Ledger.mk.injEq]
  exact ⟨rfl, rfl, rfl, rfl, rfl, rfl, this, rfl, rfl⟩

theorem State.raise_recordClosed_ledger (s : State) :
    (s.raise .recordClosed 0).ledger = { s.ledger with closed := ⟨true, 0, false⟩ } := by
  have : (s.raise .recordClosed 0).ctl.causes[(8 : Fin 13)] = ⟨true, 0, false⟩ := by
    rw [State.raise_causes]; rfl
  simp only [State.ledger, State.raise_store, State.raise_cap, State.raise_corr, State.raise_det,
    State.raise_mark, State.now, State.raise_time]
  rw [Ledger.mk.injEq]
  exact ⟨rfl, rfl, rfl, rfl, rfl, rfl, this, rfl, rfl⟩

/-- A write to a record, as the ledger has it. -/
theorem State.editRecord_ledger (s : State) (id : Nat) {f : Record → Record} {g : Core → Core}
    (h : ∀ r : Record, (f r).core = g r.core) : (s.editRecord id f).ledger = s.ledger.edit id g := by
  simp only [State.ledger, Ledger.edit, State.editRecord_queue, List.map_map]
  rw [Ledger.mk.injEq]
  refine ⟨List.map_congr_left fun r _ => ?_, rfl, rfl, rfl, rfl, rfl, rfl, rfl, rfl⟩
  by_cases hr : r.id = id
  · simp [hr, h, show r.core.id = id from hr]
  · simp [hr, show r.core.id ≠ id from hr]

theorem Ledger.edit_self (w : Ledger) (id : Nat) : w.edit id (fun c => c) = w := by
  simp [Ledger.edit]

/-- A write that keeps what ties a record to the other blocks is not in the ledger. -/
theorem State.editRecord_ledger_self (s : State) (id : Nat) {f : Record → Record}
    (h : ∀ r : Record, (f r).core = r.core) : (s.editRecord id f).ledger = s.ledger := by
  rw [s.editRecord_ledger id (g := fun c => c) h, Ledger.edit_self]

theorem State.setSlot_ledger (s : State) (k : Fin 8) (x : Slot) :
    (s.setSlot k x).ledger = s.ledger.setSlot k x.state x.holders := by
  simp only [State.ledger, Ledger.setSlot, State.setSlot, State.withCap_cap]
  rw [Ledger.mk.injEq]
  refine ⟨rfl, rfl, ?_, ?_, rfl, rfl, rfl, rfl, rfl⟩ <;> funext j <;> by_cases hj : j = k
  · simp [hj]
  · simp [hj, Ne.symm (Fin.val_ne_of_ne hj)]
  · simp [hj]
  · simp [hj, Ne.symm (Fin.val_ne_of_ne hj)]

/-- A slot that keeps its state and its holders is as it was in the ledger. -/
theorem State.setSlot_ledger_self (s : State) (k : Fin 8) {x : Slot}
    (hx : x.state = s.cap.slots[k].state) (hn : x.holders = s.cap.slots[k].holders) :
    (s.setSlot k x).ledger = s.ledger := by
  rw [State.setSlot_ledger, hx, hn]
  exact congrArg₂ (fun a b => { s.ledger with slot := a, holders := b })
    (Function.update_eq_self k s.ledger.slot) (Function.update_eq_self k s.ledger.holders)

/-- A capture unit whose slots keep their states and holders is as it was in the ledger. -/
theorem State.withCap_ledger (s : State) {x : CaptureUnit}
    (h : ∀ k : Fin 8, x.slots[k].state = s.cap.slots[k].state ∧
      x.slots[k].holders = s.cap.slots[k].holders) : (s.withCap x).ledger = s.ledger := by
  simp only [State.ledger, State.withCap_cap]
  rw [Ledger.mk.injEq]
  exact ⟨rfl, rfl, funext fun k => (h k).1, funext fun k => (h k).2, rfl, rfl, rfl, rfl, rfl⟩

theorem State.setContext_ledger (s : State) (k : Fin 4) (c : Option Context) :
    (s.setContext k c).ledger = s.ledger.setCtx k (c.map Context.tie) := by
  simp only [State.ledger, Ledger.setCtx, State.setContext, State.withCorr_corr]
  rw [Ledger.mk.injEq]
  refine ⟨rfl, rfl, rfl, rfl, funext fun j => ?_, rfl, rfl, rfl, rfl⟩
  by_cases hj : j = k
  · simp [hj]
  · simp [hj, Ne.symm (Fin.val_ne_of_ne hj)]

/-- Contexts that keep what ties them are as they were in the ledger. -/
theorem State.withCorr_ledger (s : State) {x : Correlation}
    (h : ∀ k : Fin 4, x.slots[k].map Context.tie = s.corr.slots[k].map Context.tie) :
    (s.withCorr x).ledger = s.ledger := by
  simp only [State.ledger, State.withCorr_corr]
  rw [Ledger.mk.injEq]
  exact ⟨rfl, rfl, rfl, rfl, funext h, rfl, rfl, rfl, rfl⟩

theorem State.editContext_ledger (s : State) (k : Fin 4) {f : Context → Context}
    (h : ∀ c : Context, (f c).tie = c.tie) : (s.editContext k f).ledger = s.ledger := by
  refine s.withCorr_ledger fun j => ?_
  by_cases hj : j = k
  · subst hj
    simp only [Fin.getElem_fin, Vector.getElem_set_self]
    cases s.corr.slots[j.val] <;> simp [h]
  · simp [Ne.symm (Fin.val_ne_of_ne hj)]

theorem Ledger.find?_core (q : List Record) (id : Nat) :
    (q.map Record.core).find? (fun c => c.id == id) = (q.find? fun r => r.id == id).map Record.core :=
  List.find?_map

theorem State.ledger_closable (s : State) (r : Record) : s.ledger.closable r.core = s.closable r := by
  unfold Ledger.closable Ledger.filling State.closable State.slotFilling
  simp only [Record.core]
  cases r.wave <;> simp [WavePart.slot, State.ledger]

/-- The store judges a record as the ledger has it. -/
theorem State.judge_ledger (s : State) (id : Nat) : (s.judge id).ledger = s.ledger.judge id := by
  have found : s.ledger.queue.find? (fun c => c.id == id) = (s.recordOf id).map Record.core :=
    Ledger.find?_core s.store.queue id
  simp only [State.judge, Ledger.judge, found]
  cases s.recordOf id with
  | none => rfl
  | some r =>
    simp only [Option.map_some, s.ledger_closable r, show r.core.isOpen = r.isOpen from rfl]
    split
    · rw [State.raise_recordClosed_ledger, s.editRecord_ledger id (g := fun c => { c with isOpen := false }) fun _ => rfl]
    · rfl

theorem State.judgeAll_ledger (s : State) (ids : List Nat) :
    (s.judgeAll ids).ledger = ids.foldl Ledger.judge s.ledger := by
  unfold State.judgeAll
  induction ids generalizing s with
  | nil => rfl
  | cons id ids ih => rw [List.foldl_cons, List.foldl_cons, ih, s.judge_ledger]

theorem State.namers_ledger (s : State) (k : Fin 8) : s.namers k = s.ledger.namers k := by
  simp only [State.namers, Ledger.namers, State.ledger, List.filter_map, List.map_map]
  congr 1
  refine List.filter_congr fun r _ => ?_
  simp only [Function.comp_apply, Record.core]
  cases r.wave <;> simp [WavePart.slot]

/-! Settled operations: a chain of moves that leaves no judgement due but those due before. -/

/-- The ledger goes from that of `s` to that of `s'` by moves, all judgements made. -/
def Settles (s s' : State) : Prop := ∀ due, Ledger.Moves due s.ledger due s'.ledger

theorem Settles.of_eq {s s' : State} (h : s'.ledger = s.ledger) : Settles s s' := fun due => by
  rw [h]; exact .refl due _

theorem Settles.refl (s : State) : Settles s s := .of_eq rfl

theorem Settles.trans {s t u : State} (h : Settles s t) (h' : Settles t u) : Settles s u :=
  fun due => (h due).trans (h' due)

/-- An operation that the ledger does not show, after a settled one. -/
theorem Settles.then_eq {s t u : State} (h : Settles s t) (h' : u.ledger = t.ledger) : Settles s u :=
  h.trans (.of_eq h')

theorem Settles.ite {s t u : State} {c : Prop} [Decidable c] (ht : Settles s t) (hu : Settles s u) :
    Settles s (if c then t else u) := by split <;> assumption

theorem Settles.when {s : State} {f : State → State} (c : Bool) (h : Settles s (f s)) :
    Settles s (s.when c f) := by
  cases c
  · exact .refl s
  · exact h

theorem Settles.foldl {α : Type} {f : State → α → State} (h : ∀ s a, Settles s (f s a)) (l : List α)
    (s : State) : Settles s (l.foldl f s) := by
  induction l generalizing s with
  | nil => exact .refl s
  | cons a l ih => exact (h s a).trans (ih _)

theorem ledger_foldl {α : Type} {f : State → α → State} (h : ∀ s a, (f s a).ledger = s.ledger)
    (l : List α) (s : State) : (l.foldl f s).ledger = s.ledger := by
  induction l generalizing s with
  | nil => rfl
  | cons a l ih => rw [List.foldl_cons, ih, h]

theorem ledger_ite {s t u : State} {c : Prop} [Decidable c] (ht : t.ledger = s.ledger)
    (hu : u.ledger = s.ledger) : (if c then t else u).ledger = s.ledger := by split <;> assumption

theorem ledger_when {s : State} {f : State → State} (c : Bool) (h : (f s).ledger = s.ledger) :
    (s.when c f).ledger = s.ledger := by
  cases c
  · rfl
  · exact h

end Sys2Proof.Machine
end

section
/-! The operations of the blocks as moves of the ledger: the capture unit, the notice link, the
correlation unit, the mark line interface, the detector, and the stops that all of them take. -/

namespace Sys2Proof.Machine

/-! The capture unit (ch. 5). -/

theorem Ledger.setSlot_setSlot (w : Ledger) (k : Fin 8) (x y : SlotState) (m n : Nat) :
    (w.setSlot k x m).setSlot k y n = w.setSlot k y n := by
  simp [Ledger.setSlot]

/-- The records that name slot `k` lose their waveform part. -/
theorem State.loseHolders_ledger (s : State) (k : Fin 8) :
    (s.loseHolders k).ledger = (s.ledger.setSlot k s.cap.slots[k].state 0).lose k := by
  unfold State.loseHolders
  simp only [State.setSlot_ledger, State.withStore_cap]
  simp only [State.ledger, Ledger.setSlot, Ledger.lose, State.withStore_store, State.withStore_cap,
    State.withStore_corr, State.withStore_det, State.withStore_ctl, State.withStore_mark, State.now,
    State.withStore_time, List.map_map]
  rw [Ledger.mk.injEq]
  refine ⟨List.map_congr_left fun r _ => ?_, rfl, rfl, rfl, rfl, rfl, rfl, rfl, rfl⟩
  obtain ⟨_, _, _, _, _, _, _, _, _, _, _, _, _, _, wave, _⟩ := r
  cases wave with
  | absent why => rfl
  | present j o => by_cases hj : j = k <;> simp [hj, Record.core, WavePart.slot]

theorem State.fillingSlot_state {s : State} {k : Fin 8} (h : s.fillingSlot = some k) :
    s.cap.slots[k].state = .filling := by
  simpa using List.find?_some h

theorem State.freeSlot_state {s : State} {k : Fin 8} (h : s.freeSlot = some k) :
    s.cap.slots[k].state = .free := by
  simpa using List.find?_some h

theorem State.stopFill_settles (s : State) : Settles s s.stopFill := by
  intro due
  unfold State.stopFill
  cases h : s.fillingSlot with
  | none => exact .refl _ _
  | some k =>
    have held := Ledger.Move.hold due s.ledger k (s.fillingSlot_state h)
    have set : (s.setSlot k { s.cap.slots[k] with state := .held }).ledger =
        s.ledger.setSlot k .held (s.ledger.holders k) := s.setSlot_ledger k _
    simp only [State.judgeAll_ledger, State.namers_ledger, set]
    exact held.moves.trans (Ledger.moves_judgeAll (s.ledger.namers k) due _)

theorem State.spoilSlot_settles (s : State) (k : Fin 8) (e : Option Ms) :
    Settles s (s.spoilSlot k e) := by
  intro due
  unfold State.spoilSlot
  split
  · next h =>
    have used : s.ledger.slot k = .filling ∨ s.ledger.slot k = .held := by
      rw [Slot.inUse, Bool.or_eq_true, beq_iff_eq, beq_iff_eq] at h
      exact h
    have set : ∀ x : Slot, x.state = .scrubbing → x.holders = 0 →
        ((s.loseHolders k).setSlot k x).ledger = (s.ledger.setSlot k .scrubbing 0).lose k := by
      intro x hx hn
      rw [State.setSlot_ledger, State.loseHolders_ledger, hx, hn]
      exact congrArg (fun w => Ledger.lose w k) (s.ledger.setSlot_setSlot k _ .scrubbing 0 0)
    simp only [State.judgeAll_ledger, State.namers_ledger]
    rw [set _ rfl (by simp [State.loseHolders, State.setSlot])]
    exact (Ledger.Move.spoil due s.ledger k used).moves.trans (Ledger.moves_judgeAll _ due _)
  · exact .refl _ _

theorem State.abandonScrubs_ledger (s : State) : s.abandonScrubs.ledger = s.ledger :=
  s.withCap_ledger fun k => by simp

theorem State.memoryError_settles (s : State) (k : Fin 8) : Settles s (s.memoryError k) := by
  have slotError (s : State) (n : Nat) : (s.raise .slotError n).ledger = s.ledger :=
    s.raise_ledger n (by decide)
  have captureOff (s : State) (n : Nat) : (s.raise .captureOff n).ledger = s.ledger :=
    s.raise_ledger n (by decide)
  have raised : Settles s (s.raise .slotError k.val) := .of_eq (slotError s _)
  unfold State.memoryError
  split
  · exact raised.trans (State.spoilSlot_settles _ k none)
  · split
    · have lost := (raised.then_eq (captureOff _ k.val)).trans (State.spoilSlot_settles _ k none)
      refine (lost.then_eq ?_).trans (State.stopFill_settles _)
      exact (State.abandonScrubs_ledger _).trans rfl
    · exact raised.trans (State.spoilSlot_settles _ k _)

theorem Slot.put_state (sl : Slot) (j : Nat) (hc : HalfCycle) : (sl.put j hc).state = sl.state := by
  unfold Slot.put; split <;> rfl

theorem Slot.put_holders (sl : Slot) (j : Nat) (hc : HalfCycle) :
    (sl.put j hc).holders = sl.holders := by
  unfold Slot.put; split <;> rfl

theorem State.copyPosition_settles (s : State) (k : Fin 8) (j : Nat) (hc : HalfCycle)
    (fails : Bool) : Settles s (s.copyPosition k j hc fails) := by
  have put : Settles s (s.setSlot k (s.cap.slots[k].put j hc)) :=
    .of_eq (s.setSlot_ledger_self k (Slot.put_state _ j hc) (Slot.put_holders _ j hc))
  unfold State.copyPosition
  split
  · exact .ite (put.trans (State.memoryError_settles _ k)) put
  · exact .refl s

theorem State.writeWave_ledger (s : State) (id : Nat) (p : WavePart) :
    (s.writeWave id p).ledger = s.ledger.edit id fun c => { c with slot := p.slot } :=
  s.editRecord_ledger id fun _ => rfl

/-- The request of the record made last: refused, joined to the FILLING slot, or filling a new
one (R71). -/
theorem State.captureRequest_settles (s : State) {id : Nat} (h : s.ledger.Newest id) (a : RefIndex)
    (failed : Option (Fin 9)) : Settles s (s.captureRequest id a failed) := by
  have refused (why : AbsenceReason) : Settles s (s.writeWave id (.absent why)) := fun due => by
    rw [State.writeWave_ledger]
    exact (Ledger.Move.refuse due _ id h).moves
  unfold State.captureRequest
  split
  · exact refused _
  cases s.rms.history with
  | nil => exact refused _
  | cons newest _ =>
    cases hf : s.fillingSlot with
    | some k =>
      have joined := fun due => Ledger.Move.join due s.ledger id k h (s.fillingSlot_state hf)
      refine .ite (fun due => ?_) (refused _)
      rw [State.writeWave_ledger, State.setSlot_ledger, s.fillingSlot_state hf]
      exact (joined due).moves
    | none =>
      have noFill : ∀ j, s.ledger.slot j ≠ .filling := fun j hj => by
        exact List.find?_eq_none.1 hf j (List.mem_finRange j) (beq_iff_eq.2 hj)
      cases hk : s.freeSlot with
      | none => exact refused _
      | some k =>
        have free : s.ledger.slot k = .free := s.freeSlot_state hk
        simp only [State.openSlot]
        refine Settles.trans (fun due => ?_)
          (.foldl (fun st j => st.copyPosition_settles k j _ _) _ _)
        rw [State.writeWave_ledger, State.setSlot_ledger]
        exact (Ledger.Move.fill due s.ledger id k h free noFill).moves

theorem State.fillCopy_settles (s : State) (m : RefIndex) (fails : Bool) :
    Settles s (s.fillCopy m fails) := by
  unfold State.fillCopy
  cases s.fillingSlot with
  | none => exact .refl s
  | some k =>
    have copied := s.copyPosition_settles k
    refine .ite (.ite ((copied _ _ fails).trans (State.stopFill_settles _)) (copied _ _ fails)) (.refl s)

theorem State.capStops_settles (s : State) (k : Stop) : Settles s (s.capStops k) := by
  have stopped (view : StationState) :
      Settles s (s.withCap { s.cap with view := view }).stopFill :=
    Settles.trans (t := s.withCap { s.cap with view := view })
      (.of_eq (s.withCap_ledger fun _ => ⟨rfl, rfl⟩)) (State.stopFill_settles _)
  cases k with
  | halt => exact stopped _
  | restart low tableFirst =>
    refine (stopped .config).then_eq (State.withCap_ledger _ fun k => ?_)
    simp only [Fin.getElem_fin, Vector.getElem_ofFn]
    constructor <;> split <;> rfl

/-! The notice link (ch. 7) changes of the ledger nothing. -/

theorem State.dropReport_ledger (s : State) (edge : Ms) (id : Nat) :
    (s.dropReport edge id).ledger = s.ledger := by
  let mark (c : Option Context) : Option Context :=
    c.map fun c => if c.edge = edge then { c with unsent := true } else c
  have marked : (s.withCorr { s.corr with
      slots := Vector.ofFn fun k => mark s.corr.slots[k] }).ledger = s.ledger := by
    refine s.withCorr_ledger fun k => ?_
    simp only [Fin.getElem_fin, Vector.getElem_ofFn, mark]
    cases s.corr.slots[k.val] with
    | none => rfl
    | some c => simp only [Option.map_some]; split <;> rfl
  exact ledger_ite marked ((State.editRecord_ledger_self _ id fun _ => by rfl).trans marked)

theorem State.reportFrame_ledger (s : State) (f : QueuedFrame) : (s.reportFrame f).ledger = s.ledger := by
  cases f with
  | present => rfl
  | verdict v => exact ledger_ite rfl (s.dropReport_ledger _ _)

theorem State.reportQueue_ledger (s : State) : s.reportQueue.ledger = s.ledger :=
  ledger_foldl State.reportFrame_ledger _ s

theorem State.handVerdict_ledger (s : State) (v : QueuedVerdict) : (s.handVerdict v).ledger = s.ledger := by
  refine ledger_ite (s.dropReport_ledger _ _) (ledger_ite rfl ?_)
  cases s.link.oldestPresent with
  | some _ => rfl
  | none => exact s.dropReport_ledger _ _

theorem State.windowExpiry_ledger (s : State) (edge : Ms) : (s.windowExpiry edge).ledger = s.ledger := by
  unfold State.windowExpiry
  split
  · rfl
  · exact ledger_ite (s.reportFrame_ledger _) (s.reportFrame_ledger _)

theorem State.linkStops_ledger (s : State) (k : Stop) : (s.linkStops k).ledger = s.ledger := by
  cases k with
  | halt => exact s.reportQueue_ledger
  | restart low tableFirst => exact ledger_ite s.reportQueue_ledger s.reportQueue_ledger

/-! The correlation unit (ch. 8). -/

theorem rewriteSympathetic_core (es : List Refresh) (r : Record) :
    (rewriteSympathetic es r).core = r.core := by
  unfold rewriteSympathetic; split <;> rfl

theorem State.judgeContext_ledger (s : State) (e : Refresh) (k : Fin 4) :
    (s.judgeContext e k).ledger = s.ledger := by
  unfold State.judgeContext
  cases s.corr.slots[k] with
  | none => rfl
  | some c =>
    have judged := fun o : OwnVerdict => s.editContext_ledger k (f := fun c => { c with own := some o })
      fun _ => rfl
    have handed := fun o v => (State.handVerdict_ledger _ v).trans (judged o)
    exact ledger_ite (handed _ _) ((State.editRecord_ledger_self _ _ (rewriteSympathetic_core _)).trans
      (handed _ _))

theorem State.correlationTakes_ledger (s : State) : s.correlationTakes.ledger = s.ledger := by
  unfold State.correlationTakes
  cases s.corr.handed with
  | nil => rfl
  | cons e rest => exact ledger_foldl (fun st k => st.judgeContext_ledger e k) _ _

theorem State.takeAnchoring_ledger (s : State) (k : Fin 4) (n : RefIndex) :
    (s.takeAnchoring k n).ledger = s.ledger :=
  ledger_ite rfl (s.editContext_ledger k fun c => by split <;> rfl)

/-- A context that closes: its record, if it has one, has its anchor open no more and is judged. -/
theorem State.freeContext_settles (s : State) {k : Fin 4} {l : Link}
    (h : s.ledger.ctx k = some l) : Settles s (s.freeContext k l.linked) := by
  intro due
  unfold State.freeContext
  split
  · next hl =>
    rw [State.setContext_ledger]
    exact (Ledger.Move.close due _ k l h hl).moves
  · rw [State.judge_ledger, State.editRecord_ledger _ _ (g := fun c => { c with anchorOpen := false })
      fun _ => rfl, State.setContext_ledger]
    exact (Ledger.Move.unlink due _ k l h).moves.trans (Ledger.moves_judgeAll [l.linked] due _)

theorem State.ledger_ctx {s : State} {k : Fin 4} {c : Context} (h : s.corr.slots[k] = some c) :
    s.ledger.ctx k = some c.tie := by
  simp only [State.ledger, h, Option.map_some]

theorem State.copyResults_core (s : State) (c : Context) (blocks : Bool) (r : Record) :
    (s.copyResults c blocks r).core = { r.core with peers := c.peers } := by
  unfold State.copyResults
  cases blocks
  · rfl
  · cases c.own <;> rfl

theorem State.earlyCopy_core (s : State) (c : Context) (r : Record) :
    (s.earlyCopy c r).core = { r.core with peers := c.peers } := by
  unfold State.earlyCopy
  split
  · exact s.copyResults_core c _ r
  · exact s.copyResults_core c false r

/-- A context closes after its peer verdicts have been copied into its record. -/
theorem State.close_settles (s : State) {k : Fin 4} {c : Context} (h : s.corr.slots[k] = some c)
    {f : Record → Record} (hf : ∀ r, (f r).core = { r.core with peers := c.peers }) :
    Settles s ((if c.linked = 0 then s else s.editRecord c.linked f).freeContext k c.linked) := by
  have tied := s.ledger_ctx h
  have copied := s.editRecord_ledger c.linked (g := fun d => { d with peers := c.peers }) hf
  split
  · exact s.freeContext_settles tied
  · refine Settles.trans (t := s.editRecord c.linked f) (fun due => ?_) ?_
    · rw [copied]
      exact (Ledger.Move.peers due _ k _ _ tied).moves
    · refine State.freeContext_settles (l := c.tie) _ ?_
      rw [copied]
      exact tied

theorem State.closeContext_settles (s : State) {k : Fin 4} {c : Context}
    (h : s.corr.slots[k] = some c) : Settles s (s.closeContext k c) :=
  s.close_settles h (s.copyResults_core c true)

theorem State.earlyClose_settles (s : State) (k : Fin 4) : Settles s (s.earlyClose k) := by
  unfold State.earlyClose
  cases h : s.corr.slots[k] with
  | none => exact .refl s
  | some c => exact s.close_settles h (s.earlyCopy_core c)

theorem State.corrTakesStop_settles (s : State) (view : StationState) :
    Settles s (s.corrTakesStop view) := by
  have told : Settles s (s.withCorr { s.corr with view := view }) :=
    .of_eq (s.withCorr_ledger fun _ => rfl)
  unfold State.corrTakesStop
  exact told.trans (.foldl State.earlyClose_settles _ _)

theorem State.corrStops_settles (s : State) (k : Stop) : Settles s (s.corrStops k) := by
  have closed := s.corrTakesStop_settles k.view
  match k with
  | .halt => exact closed
  | .restart _ true => exact closed.then_eq (State.withLink_ledger _ _)
  | .restart _ false => exact closed

/-! A new record (R145). -/

/-- The record that the store creates from `r`. -/
def State.made (s : State) (r : Record) (t : Ms) : Record :=
  { r with id := s.store.nextId, isOpen := true, anchorOpen := false, time := s.recordTime t }

theorem State.recordTime_not_earlier (s : State) (t : Ms) (tail : Record)
    (h : s.store.queue.getLast? = some tail) : (s.recordTime t).earlier tail.time = false := by
  unfold State.recordTime
  simp only [h]
  split
  · simp [StationTime.earlier]
  · next hn => simpa using hn

theorem State.addRecord_ledger (s : State) (r : Record) (t : Ms) :
    (s.addRecord r t).ledger = { s.ledger with
      queue := s.ledger.queue ++ [(s.made r t).core], nextId := nextRecordId s.ledger.nextId } := by
  unfold State.addRecord
  have added : ∀ new : Record, (s.withStore { s.store with
      queue := s.store.queue ++ [new], nextId := nextRecordId s.store.nextId }).ledger =
        { s.ledger with
          queue := s.ledger.queue ++ [new.core], nextId := nextRecordId s.ledger.nextId } := by
    intro new
    simp [State.ledger, State.now]
  dsimp only
  split
  · rw [State.raise_ledger _ 0 (by decide), added]
    rfl
  · exact added _

theorem State.room_of_hasRoom {s : State} (h : s.hasRoom = true) : s.ledger.queue.length < 48 := by
  rw [State.hasRoom, decide_eq_true_eq] at h
  simpa only [State.ledger, List.length_map, Config.storeSize] using h

/-- What a record must be for the store to add it, but for what keeps it OPEN. -/
theorem State.made_addable {s : State} (hroom : s.hasRoom = true) {r : Record} (t : Ms)
    (hw : r.wave.slot = none) (hp : r.peers = []) (hrun : r.running = true → s.ledger.event = some 0)
    {anchor : Option (Fin 4)} {due : List Nat}
    (hlink : ∀ k ∈ anchor, ∃ l, s.ledger.ctx k = some l ∧ l.linked = 0)
    (hwaits : r.running = false → anchor = none → s.store.nextId ∈ due) :
    s.ledger.Addable { (s.made r t).core with anchorOpen := anchor.isSome } anchor due where
  id := rfl
  isOpen := rfl
  slot := hw
  peers := hp
  room := State.room_of_hasRoom hroom
  time := fun d hd => by
    simp only [State.ledger, List.getLast?_map, Option.mem_def, Option.map_eq_some_iff] at hd
    obtain ⟨tail, htail, rfl⟩ := hd
    exact s.recordTime_not_earlier t tail htail
  anchored := rfl
  unlinked := hlink
  event := hrun
  waits := fun hr ha => hwaits hr (by simpa using ha)

/-- An unlinked, unrun record: a judgement stays due. -/
theorem State.addRecord_moves {s : State} (hroom : s.hasRoom = true) {r : Record} (t : Ms)
    (hw : r.wave.slot = none) (hp : r.peers = []) (hrun : r.running = false) (due : List Nat) :
    Ledger.Moves due s.ledger (s.store.nextId :: due) (s.addRecord r t).ledger := by
  have can : s.ledger.Addable _ none (s.store.nextId :: due) :=
    State.made_addable hroom t hw hp (by simp [hrun]) (by simp) (by simp)
  have moved := (Ledger.Move.add due _ _ none (fun id h => List.mem_cons_of_mem _ h) can).moves
  rw [State.addRecord_ledger]
  simpa [Ledger.add, State.made, Record.core, hrun] using moved

/-- The record just added is the newest. -/
theorem State.addRecord_newest (s : State) {r : Record} (t : Ms) (hw : r.wave.slot = none) :
    (s.addRecord r t).ledger.Newest s.store.nextId := by
  rw [State.addRecord_ledger]
  exact ⟨_, _, rfl, rfl, rfl, hw⟩

theorem State.linkRecord_ledger (s : State) (k : Fin 4) (id : Nat) :
    (s.linkRecord k id).ledger =
      Ledger.edit
        { s.ledger with
          ctx := fun j =>
            if some k = some j then (s.ledger.ctx j).map fun l => { l with linked := id }
            else s.ledger.ctx j }
        id fun c => { c with anchorOpen := true } := by
  unfold State.linkRecord
  rw [State.editRecord_ledger _ id (g := fun c => { c with anchorOpen := true }) fun _ => rfl]
  congr 1
  simp only [State.ledger, State.editContext, State.setContext, State.withCorr_corr]
  rw [Ledger.mk.injEq]
  refine ⟨rfl, rfl, rfl, rfl, funext fun j => ?_, rfl, rfl, rfl, rfl⟩
  by_cases hj : k = j
  · subst hj
    simp only [Fin.getElem_fin, Vector.getElem_set_self, if_true, Option.map_map]
    rfl
  · simp [hj, Fin.val_ne_of_ne hj]

end Sys2Proof.Machine
end

section
/-! The operations of the mark line interface and of the detector as moves of the ledger, with the
stops that all blocks take. -/

namespace Sys2Proof.Machine

/-- The record just added and linked is the newest still. -/
theorem State.linkRecord_newest (s : State) (k : Fin 4) {id : Nat} (h : s.ledger.Newest id) :
    (s.linkRecord k id).ledger.Newest id := by
  obtain ⟨q, c, hq, hid, hopen, hslot⟩ := h
  rw [State.linkRecord_ledger]
  refine ⟨q.map fun c => if c.id = id then { c with anchorOpen := true } else c,
    { c with anchorOpen := true }, ?_, hid, hopen, hslot⟩
  simp [Ledger.edit, hq, hid]

/-- A record added and linked to context `k` (R124, R145). -/
theorem State.addLinked_ledger (s : State) (r : Record) (t : Ms) (k : Fin 4) :
    ((s.addRecord r t).linkRecord k s.store.nextId).ledger =
      { s.ledger.add { (s.made r t).core with anchorOpen := true } (some k) with
        event := s.ledger.event } := by
  rw [State.linkRecord_ledger, State.addRecord_ledger]
  simp only [Ledger.edit, Ledger.add, List.map_append, List.map_cons, List.map_nil,
    Option.isSome_some, if_true, show (s.made r t).core.id = s.store.nextId from rfl]

/-- The context in slot `k` is linked to nothing. -/
def State.Unlinked (s : State) (k : Fin 4) : Prop := ∃ l, s.ledger.ctx k = some l ∧ l.linked = 0

theorem State.makeSympathetic_settles (s : State) {k : Fin 4} (h : s.Unlinked k) (edge : Ms)
    (failed : Option (Fin 9)) : Settles s (s.makeSympathetic k edge failed) := by
  unfold State.makeSympathetic
  split
  · next hroom =>
    refine Settles.trans (t := (s.addRecord s.sympatheticRecord edge).linkRecord k s.store.nextId)
      (fun due => ?_) (State.captureRequest_settles _
        (State.linkRecord_newest _ k (s.addRecord_newest edge rfl)) _ failed)
    rw [State.addLinked_ledger]
    exact (Ledger.Move.add due s.ledger _ (some k) (fun _ h => h) (State.made_addable hroom edge rfl rfl
      (fun run => Bool.noConfusion run) (fun j hj => by
        obtain rfl : k = j := by simpa using hj
        exact h)
      (fun _ h => absurd h (by simp)))).moves
  · exact .of_eq rfl

/-- What a falling edge opens is a CLOSED slot, and the edge is not in the millisecond of the last. -/
theorem State.edgeOpens_spec {s : State} {k : Fin 4} (h : s.edgeOpens = some k) :
    s.ledger.ctx k = none ∧ s.ledger.lastEdge ≠ some s.ledger.now := by
  unfold State.edgeOpens at h
  split at h
  · next hr =>
    simp only [Bool.and_eq_true, State.edgeReported, bne_iff_ne] at hr
    have closed : s.corr.slots[k].isNone = true := by simpa using List.find?_some h
    refine ⟨?_, hr.1.2⟩
    simp only [State.ledger, Option.isNone_iff_eq_none.1 closed, Option.map_none]
  · exact absurd h (by simp)

/-- The falling edge stamped, with the context that it opens. -/
theorem State.openedEdge_ledger (s : State) (k : Fin 4) :
    ((s.withMark (s.mark.falling s.now)).setContext k
      (some ((s.withMark (s.mark.falling s.now)).newContext s.now))).ledger =
      { s.ledger.setCtx k (some ⟨0, s.ledger.now, []⟩) with lastEdge := some s.ledger.now } := by
  rw [State.setContext_ledger, State.withMark_ledger]
  rfl

theorem State.openedEdge_settles {s : State} {k : Fin 4} (h : s.edgeOpens = some k) :
    Settles s ((s.withMark (s.mark.falling s.now)).setContext k
      (some ((s.withMark (s.mark.falling s.now)).newContext s.now))) := fun due => by
  obtain ⟨closed, new⟩ := s.edgeOpens_spec h
  rw [State.openedEdge_ledger]
  exact (Ledger.Move.mark due _ k closed new).moves

theorem State.takeFallingEdge_settles (s : State) (failed : Option (Fin 9)) :
    Settles s (s.takeFallingEdge failed) := by
  unfold State.takeFallingEdge
  cases h : s.edgeOpens with
  | none => exact fun due => (Ledger.Move.edge due s.ledger).moves
  | some k =>
    refine (s.openedEdge_settles h).trans ?_
    refine .ite (State.makeSympathetic_settles _ ⟨⟨0, s.now, []⟩, ?_, rfl⟩ _ failed) (.refl _)
    rw [State.openedEdge_ledger]
    exact Function.update_self k _ _

theorem State.afterAnchor_settles (s : State) (tn : Ms) : Settles s (s.afterAnchor tn) := by
  unfold State.afterAnchor
  cases s.anchorAnswer tn with
  | none => exact .refl s
  | context k => exact .refl s
  | pulse => exact Settles.trans (.of_eq rfl) (s.drivePulse.takeFallingEdge_settles none)

theorem State.markStops_ledger (s : State) (k : Stop) : (s.markStops k).ledger = s.ledger := by
  cases k <;> rfl

/-! The anchor of an event (R90, R125). -/

theorem State.latestOf_mem (s : State) {l : List (Fin 4)} {k : Fin 4} (h : s.latestOf l = some k) :
    k ∈ l := by
  induction l with
  | nil => exact absurd h (by simp [State.latestOf])
  | cons j l ih =>
    rw [State.latestOf] at h
    cases hl : s.latestOf l with
    | none =>
      rw [hl] at h
      obtain rfl : j = k := by simpa using h
      exact List.mem_cons_self
    | some i =>
      simp only [hl] at h ih
      split at h
      · exact List.mem_cons_of_mem _ (ih (by simpa using h))
      · obtain rfl : j = k := by simpa using h
        exact List.mem_cons_self

/-- The context of slot `k`, if it is OPEN, is linked to nothing or to an upgradable record. -/
def State.Anchorable (s : State) (k : Fin 4) : Prop :=
  ∀ c, s.corr.slots[k] = some c → c.linked = 0 ∨ s.upgradable c = true

theorem State.anchorable_of_candidate {s : State} {tn : Ms} {k : Fin 4} (h : k ∈ s.candidates tn) :
    s.Anchorable k := by
  intro c hc
  have cand := (List.mem_filter.1 h).2
  simp only [hc, Option.any_some, State.isCandidate, Bool.and_eq_true, Bool.or_eq_true,
    beq_iff_eq] at cand
  exact cand.1.2

/-- The context that an event in EVENT is anchored to is linked to nothing, or to an unupgraded
SYMPATHETIC record (R90, R91). -/
theorem State.afterAnchor_anchorable {s : State} {tn : Ms} {k : Fin 4} (hm : s.det.mode ≠ .watch)
    (h : s.anchorOf tn = some k) : (s.afterAnchor tn).Anchorable k := by
  unfold State.anchorOf at h
  unfold State.afterAnchor
  cases ha : s.anchorAnswer tn with
  | none => rw [ha] at h; exact absurd h (by simp)
  | context j =>
    rw [ha] at h
    obtain rfl : j = k := by simpa using h
    unfold State.anchorAnswer at ha
    split at ha
    · exact absurd ha (by simp)
    split at ha
    · exact absurd ha (by simp)
    cases hl : s.latestOf (s.candidates tn) with
    | none => rw [hl] at ha; revert ha; simp only; split <;> simp
    | some i =>
      rw [hl] at ha
      obtain rfl : i = j := by simpa using ha
      exact s.anchorable_of_candidate (s.latestOf_mem hl)
  | pulse =>
    rw [ha] at h
    have opens : s.drivePulse.edgeOpens = some k := h
    simp only [State.takeFallingEdge, opens, State.openContext]
    rw [if_neg (by exact hm)]
    intro c hc
    left
    simp only [State.setContext, State.withCorr_corr, Fin.getElem_fin, Vector.getElem_set_self,
      Option.some.injEq] at hc
    rw [← hc]
    rfl

/-! The event record (R48, R49). -/

theorem State.obtainRecord_settles {s : State} (hev : s.ledger.event = some 0) (m : Measurement)
    (expiry : Ms) {anchor : Option (Fin 4)} (hlink : ∀ k ∈ anchor, s.Unlinked k) (unanchored : Bool)
    (failed : Option (Fin 9)) : Settles s (s.obtainRecord m expiry anchor unanchored failed) := by
  unfold State.obtainRecord
  split
  · next hroom =>
    have can : ∀ due, s.ledger.Addable
        { (s.made (eventRecord m unanchored) m.time).core with anchorOpen := anchor.isSome } anchor due :=
      fun due => State.made_addable hroom m.time rfl rfl (fun _ => hev) hlink (fun h => nomatch h)
    have newest := s.addRecord_newest (r := eventRecord m unanchored) m.time rfl
    have inEvent {u : State} (hu : u.ledger.Newest s.store.nextId) (x : Detector) :
        (u.withDet x).ledger.Newest s.store.nextId := hu
    cases anchor with
    | none =>
      refine Settles.trans (fun due => ?_)
        (State.captureRequest_settles _ (inEvent newest _) _ failed)
      rw [State.withDet_ledger, State.addRecord_ledger]
      exact (Ledger.Move.add due _ _ none (fun _ h => h) (can due)).moves
    | some k =>
      refine Settles.trans (fun due => ?_)
        (State.captureRequest_settles _ (inEvent (State.linkRecord_newest _ k newest) _) _ failed)
      rw [State.withDet_ledger, State.addLinked_ledger]
      exact (Ledger.Move.add due _ _ (some k) (fun _ h => h) (can due)).moves
  · exact .refl s

theorem State.upgradeRecord_settles {s : State} (hev : s.ledger.event = some 0) (m : Measurement)
    (expiry : Ms) (id : Nat) : Settles s (s.upgradeRecord m expiry id) := fun due => by
  unfold State.upgradeRecord
  rw [State.withDet_ledger, State.editRecord_ledger _ _ (g := fun c => { c with running := true })
    fun _ => rfl]
  exact (Ledger.Move.upgrade due _ id hev).moves

/-- What may come between the answer to an anchor request and the anchoring: it settles, keeps the
detector, and where the correlation unit is in RUN after it, it has done nothing (R125). -/
structure Between (f : State → State) : Prop where
  settles : ∀ s, Settles s (f s)
  det : ∀ s, (f s).det = s.det
  idle : ∀ s, (f s).corr.view = .run → f s = s

theorem Between.id : Between id := ⟨Settles.refl, fun _ => rfl, fun _ _ => rfl⟩

theorem State.afterAnchor_det (s : State) (tn : Ms) : (s.afterAnchor tn).det = s.det :=
  (s.afterAnchor_frame tn).only.1 .det (by decide)

theorem State.takeAnchoring_upgradable (s : State) (k : Fin 4) (n : RefIndex) (c : Context) :
    (s.takeAnchoring k n).upgradable c = s.upgradable c := by
  unfold State.takeAnchoring; split <;> rfl

/-- The anchoring keeps what the context is linked to. -/
theorem State.takeAnchoring_slot {s : State} {k : Fin 4} {n : RefIndex} {c : Context}
    (h : (s.takeAnchoring k n).corr.slots[k] = some c) :
    ∃ d, s.corr.slots[k] = some d ∧ d.linked = c.linked := by
  unfold State.takeAnchoring at h
  split at h
  · exact ⟨c, h, rfl⟩
  · simp only [State.editContext, State.setContext, State.withCorr_corr, Fin.getElem_fin,
      Vector.getElem_set_self, Option.map_eq_some_iff] at h
    obtain ⟨d, hd, rfl⟩ := h
    exact ⟨d, hd, by split <;> rfl⟩

/-- The anchoring leaves the context linked to nothing, or to an unupgraded SYMPATHETIC record. -/
theorem State.takeAnchoring_anchorable {s : State} {k : Fin 4} (h : s.Anchorable k) (n : RefIndex) :
    (s.takeAnchoring k n).Anchorable k := by
  intro c hc
  obtain ⟨d, hd, hl⟩ := State.takeAnchoring_slot hc
  have same : s.upgradable c = s.upgradable d := by simp only [State.upgradable, hl]
  rw [State.takeAnchoring_upgradable, same, ← hl]
  exact h d hd

theorem State.anchorEvent_settles {s : State} {m : Measurement} {expiry : Ms}
    (hev : s.det.mode = .event m 0 expiry) (failed : Option (Fin 9)) {between : State → State}
    (hb : Between between) : Settles s (s.anchorEvent m expiry failed between) := by
  have answered := (s.afterAnchor_settles m.time).trans (hb.settles _)
  have event : (between (s.afterAnchor m.time)).ledger.event = some 0 := by
    show DetMode.eventId (between (s.afterAnchor m.time)).det.mode = some 0
    rw [hb.det, State.afterAnchor_det, hev]
    rfl
  have unlinked := State.obtainRecord_settles event m expiry (anchor := none) (by simp)
  simp only [State.anchorEvent]
  cases ha : s.anchorOf m.time with
  | none => exact answered.trans (unlinked _ failed)
  | some k =>
    simp only
    split
    · exact answered.trans (unlinked _ failed)
    next hview =>
    have idle := hb.idle _ (by simpa using hview)
    rw [idle] at answered event unlinked ⊢
    have anchored := answered.then_eq (State.takeAnchoring_ledger _ k m.crossing)
    have stays := State.takeAnchoring_anchorable
      (s.afterAnchor_anchorable (by simp [hev]) ha) m.crossing
    rw [← State.takeAnchoring_ledger _ k m.crossing] at event
    cases hc : ((s.afterAnchor m.time).takeAnchoring k m.crossing).corr.slots[k] with
    | none => exact anchored.trans (State.obtainRecord_settles event m expiry (by simp) _ failed)
    | some c =>
      simp only
      split
      · exact anchored.trans (State.upgradeRecord_settles event m expiry _)
      · next hu =>
        refine anchored.trans (State.obtainRecord_settles event m expiry (fun j hj => ?_) _ failed)
        obtain rfl : k = j := by simpa using hj
        exact ⟨c.tie, State.ledger_ctx hc, (stays c hc).resolve_right hu⟩

/-! The end of an event (R54, R58, R63). -/

theorem State.finishEvent_ledger (s : State) (m : Measurement) (id halves durationMs : Nat)
    (ongoing aborted : Bool) : (s.finishEvent m id halves durationMs ongoing aborted).ledger =
      if id = 0 then s.ledger
      else (s.ledger.edit id fun c => { c with running := false }).judge id := by
  unfold State.finishEvent
  split
  · rfl
  · rw [State.judge_ledger, State.editRecord_ledger _ _ (g := fun c => { c with running := false })
      fun _ => rfl]

/-- The event is finished and the detector is in another state, whatever else it does then. -/
theorem State.finished_settles {s u : State} {m : Measurement} {id : Nat} {expiry : Ms}
    (hev : s.det.mode = .event m id expiry) {halves durationMs : Nat} {ongoing aborted : Bool}
    {e : Option Nat} (hu : u.ledger =
      { (s.finishEvent m id halves durationMs ongoing aborted).ledger with event := e }) :
    Settles s u := fun due => by
  have event : s.ledger.event = some id := congrArg DetMode.eventId hev
  rw [hu, State.finishEvent_ledger]
  split
  · next h =>
    refine (Ledger.Move.event due s.ledger e fun c _ hne hc => ?_).moves
    rw [event, Option.some.injEq] at hc
    exact absurd (hc.symm.trans h) hne
  · exact Ledger.moves_finish due event e

theorem State.endEvent_settles {s : State} {m : Measurement} {id : Nat} {expiry : Ms}
    (hev : s.det.mode = .event m id expiry) (e : Refresh) : Settles s (s.endEvent m id e) :=
  State.finished_settles hev (e := none) rfl

/-- The detector is in a state of the same event, or of none. -/
theorem State.withDet_settles {s : State} {x : Detector} (h : x.mode.eventId = s.det.mode.eventId) :
    Settles s (s.withDet x) := .of_eq (by rw [State.withDet_ledger, h]; rfl)

theorem State.measureEvent_settles {s : State} {m : Measurement} {id : Nat} {expiry : Ms}
    (hev : s.det.mode = .event m id expiry) (e : Refresh) (conds : Vector Cond 3) :
    Settles s (s.measureEvent m id expiry e conds) := by
  have kept := State.withDet_settles (s := s)
    (x := { s.det with mode := .event (s.updateMeasure m e conds) id expiry, cond := conds })
    (by rw [hev]; rfl)
  exact .ite kept (kept.then_eq (State.editRecord_ledger_self _ _ fun _ => rfl))

/-- A record made of a held period, which nothing holds OPEN but its fill, is judged (R61, R150). -/
theorem State.continuation_settles {s u : State} (hroom : s.hasRoom = true) (m : Measurement)
    (link halves durationMs : Nat) (aborted : Bool) (t : Ms)
    (h : Settles (s.addRecord (continuationRecord m link halves durationMs aborted) t) u) :
    Settles s (u.judge s.store.nextId) := fun due => by
  rw [State.judge_ledger]
  exact ((State.addRecord_moves hroom t rfl rfl rfl due).trans (h _)).trans
    (Ledger.moves_judgeAll [s.store.nextId] due _)

theorem State.takeReturn_settles {s : State} {m : Measurement} {ongoingId : Nat}
    (hm : s.det.mode = .held m ongoingId) (e : Refresh) (failed : Option (Fin 9)) :
    Settles s (s.takeReturn m ongoingId e failed) := by
  have watch {u : State} (h : Settles s u) (hd : u.det = s.det) : Settles s u.reportEnd.toWatch :=
    h.trans (State.withDet_settles (s := u) (by rw [hd, hm]; rfl))
  unfold State.takeReturn
  dsimp only
  split
  · next hroom =>
    refine watch (State.continuation_settles hroom _ _ _ _ _ _
      (State.captureRequest_settles _ (s.addRecord_newest _ rfl) _ failed)) ?_
    exact ((((s.addRecord_frame _ _).comp (State.captureRequest_frame _ _ _ _)).comp
      (State.judge_frame _ _)).only.1 .det (by decide))
  · exact watch (.of_eq rfl) rfl

theorem State.judgeRefresh_settles (s : State) (e : Refresh) (failed : Option (Fin 9))
    {between : State → State} (hb : Between between) :
    Settles s (s.judgeRefresh e failed between) := by
  simp only [State.judgeRefresh]
  cases hm : s.det.mode with
  | watch =>
    refine .ite (State.withDet_settles (by rw [hm])) (Settles.trans (fun due => ?_)
      (State.anchorEvent_settles (s := s.withDet _) rfl failed hb))
    refine (Ledger.Move.event due s.ledger (some 0) fun c _ _ h => ?_).moves
    exact absurd ((congrArg DetMode.eventId hm).symm.trans h) (by simp [DetMode.eventId])
  | event m id expiry =>
    exact .ite (State.endEvent_settles hm e) (State.measureEvent_settles hm e _)
  | held m ongoingId =>
    exact .ite (State.takeReturn_settles hm e failed) (State.withDet_settles (by rw [hm]; rfl))

theorem State.detectorTakes_settles (s : State) (failed : Option (Fin 9)) {between : State → State}
    (hb : Between between) : Settles s (s.detectorTakes failed between) := by
  unfold State.detectorTakes
  cases s.det.handed with
  | nil => exact .refl s
  | cons e rest =>
    have taken : Settles s (s.withDet { s.det with handed := rest }) := State.withDet_settles rfl
    exact .ite (taken.trans (State.judgeRefresh_settles _ e failed hb)) taken

theorem State.detTakesStop_settles (s : State) : Settles s s.detTakesStop := by
  unfold State.detTakesStop
  cases hm : s.det.mode with
  | watch => exact State.withDet_settles (by rw [hm])
  | event m id expiry => exact State.finished_settles hm (e := none) rfl
  | held m ongoingId =>
    have watch {u : State} (h : Settles s u) (hd : u.det = s.det) : Settles s u.toWatch :=
      h.trans (State.withDet_settles (s := u) (by rw [hd, hm]; rfl))
    simp only
    split
    · next hroom =>
      refine watch (State.continuation_settles hroom _ _ _ _ _ _ (.refl _)) ?_
      exact (((s.addRecord_frame _ _).comp (State.judge_frame _ _)).only.1 .det (by decide))
    · exact watch (.of_eq rfl) rfl

/-! The stops (R184). -/

theorem State.aggTakesStop_ledger (s : State) : s.aggTakesStop.ledger = s.ledger := by
  unfold State.aggTakesStop
  split
  · rfl
  · exact (State.withAgg_ledger _ _).trans (State.raise_ledger _ _ (by decide))

theorem State.stopBlocks_settles (s : State) (k : Stop) (p : StopPhase) (detectorFirst : Bool) :
    Settles s (s.stopBlocks k p detectorFirst) := by
  have det (u : State) : Settles u (u.when p.det State.detTakesStop) :=
    .when _ u.detTakesStop_settles
  have corr (u : State) : Settles u (u.when p.corr fun st => st.corrStops k) :=
    .when _ (u.corrStops_settles k)
  have start : Settles s (((s.when p.store fun st => st.storeTakes k.view).when p.link
      fun st => st.linkStops k).when p.mark fun st => st.markStops k) :=
    ((Settles.of_eq (ledger_when _ (s.storeTakes_ledger _))).then_eq
      (ledger_when _ (State.linkStops_ledger _ k))).then_eq (ledger_when _ (State.markStops_ledger _ k))
  have rest (u : State) : Settles u ((u.when p.cap fun st => st.capStops k).when p.agg
      State.aggTakesStop) :=
    (Settles.when _ (u.capStops_settles k)).then_eq (ledger_when _ (State.aggTakesStop_ledger _))
  unfold State.stopBlocks
  refine (start.trans ?_).trans (rest _)
  exact .ite ((det _).trans (corr _)) ((corr _).trans (det _))

theorem State.corrStops_view (s : State) (k : Stop) : (s.corrStops k).corr.view = k.view := by
  have freed (u : State) (j : Fin 4) (n : Nat) : (u.freeContext j n).corr.view = u.corr.view := by
    unfold State.freeContext
    split
    · rfl
    · have kept : Correlation.view _ = _ := congrArg Correlation.view ((State.judge_frame ((u.setContext j none).editRecord n fun r =>
        { r with anchorOpen := false }) n).only.1 .corr (by decide))
      exact kept
  have early (u : State) (j : Fin 4) : (u.earlyClose j).corr.view = u.corr.view := by
    unfold State.earlyClose
    split
    · rfl
    · rw [freed]; split <;> rfl
  have closed : (s.corrTakesStop k.view).corr.view = k.view := by
    unfold State.corrTakesStop
    generalize hu : s.withCorr { s.corr with view := k.view } = u
    have told : u.corr.view = k.view := by rw [← hu]; rfl
    clear hu
    induction List.finRange 4 generalizing u with
    | nil => exact told
    | cons j l ih => exact ih _ ((early u j).trans told)
  match k, closed with
  | .halt, closed => exact closed
  | .restart _ true, closed => exact closed
  | .restart _ false, closed => exact closed

/-- The correlation unit may take the stop between the answer and the anchoring (R125). -/
theorem State.between_corrStops (c : Bool) (k : Stop) :
    Between fun st => st.when c fun x => x.corrStops k where
  settles := fun s => .when c (s.corrStops_settles k)
  det := fun s => (s.when_frame c fun u => u.corrStops_frame k).only.1 .det (by decide)
  idle := fun s h => by
    cases c
    · rfl
    · rw [State.when_true, State.corrStops_view] at h
      cases k <;> simp [Stop.view] at h

theorem State.trackerTakes_ledger (s : State) : s.trackerTakes.ledger = s.ledger := by
  unfold State.trackerTakes
  split <;> rfl

theorem State.trackerTakesReport_ledger (s : State) : s.trackerTakesReport.ledger = s.ledger :=
  ledger_ite rfl rfl

theorem State.aggregatorTakes_ledger (s : State) : s.aggregatorTakes.ledger = s.ledger := by
  unfold State.aggregatorTakes
  split <;> rfl

theorem State.readersTake_settles (s : State) (k : Stop) (o : StopOrder) (failed : Option (Fin 9)) :
    Settles s (s.readersTake k o failed) := by
  have det (u : State) : Settles u (u.when (o.detTakes && !o.detEarly) fun x =>
      x.detectorTakes failed fun st => st.when (o.corrWithin && !o.corrEarly) fun x => x.corrStops k) :=
    .when _ (u.detectorTakes_settles failed (State.between_corrStops _ k))
  have corr (u : State) : Settles u (u.when (o.corrTakes && !o.corrEarly && u.corr.view == .run)
      State.correlationTakes) := .of_eq (ledger_when _ u.correlationTakes_ledger)
  have tracked : Settles s (s.when o.trackerTakes State.trackerTakes) :=
    .of_eq (ledger_when _ s.trackerTakes_ledger)
  unfold State.readersTake
  refine Settles.then_eq (Settles.then_eq (tracked.trans ?_) (ledger_when _ (State.trackerTakesReport_ledger _)))
    (ledger_when _ (State.aggregatorTakes_ledger _))
  exact .ite ((corr _).trans (det _)) ((det _).trans (corr _))

theorem State.takeStop_settles (s : State) (k : Stop) (o : StopOrder) (failed : Option (Fin 9))
    {act : State → State} (hact : ∀ u, Settles u (act u)) : Settles s (s.takeStop k o failed act) :=
  ((((s.stopBlocks_settles k _ _).trans (hact _)).trans
    (.when _ (State.readersTake_settles _ k o failed))).trans
    (State.stopBlocks_settles _ k _ _)).then_eq rfl

end Sys2Proof.Machine
end

section
/-! Every command as the ledger has it: a chain of moves, or one of the five commands that the
ledger shows otherwise. -/

namespace Sys2Proof.Machine

theorem State.writeInterval_ledger (s : State) (i : Interval) (length : Nat) (isPartial : Bool)
    (next : Option Interval) : (s.writeInterval i length isPartial next).ledger = s.ledger :=
  (State.raise_ledger _ (c := .intervalDone) 0 (by decide)).trans rfl

theorem State.raiseFreeRun_ledger (s : State) (before after : TrackState) :
    (s.raiseFreeRun before after).ledger = s.ledger :=
  ledger_ite (s.raise_ledger 0 (by decide)) rfl

theorem State.handLockedCycle_ledger (s : State) (inRun : Bool) (freq : Option Nat) :
    (s.handLockedCycle inRun freq).ledger = s.ledger := by
  unfold State.handLockedCycle State.takeLockedCycle
  split
  · rfl
  · split <;> rfl

theorem State.halfCycleEnd_ledger (s : State) : s.halfCycleEnd.ledger = s.ledger :=
  ledger_ite rfl rfl

theorem State.measured_ledger (s : State) : s.measured.ledger = (s.elapse s.closeMoment).ledger := by
  have overruns (u : State) : u.raiseOverruns.ledger = u.ledger := by
    unfold State.raiseOverruns
    split
    · rfl
    · refine ledger_ite ?_ (u.raise_ledger _ (by decide))
      exact (State.raise_ledger _ _ (by decide)).trans (u.raise_ledger _ (by decide))
  exact (State.raiseFreeRun_ledger _ _ _).trans (overruns _)

theorem State.eventsOf_settles (s : State) (checks : CloseChecks) (u : State) :
    Settles u (s.eventsOf checks u) := by
  have locked : Settles u (u.handLockedCycle (u.ctl.state == .run) s.closedCycle) :=
    .of_eq (u.handLockedCycle_ledger _ _)
  have ended := locked.then_eq (State.halfCycleEnd_ledger _)
  exact .ite (.ite (ended.trans (State.fillCopy_settles _ _ _)) ended) locked

/-- How a command shows in the ledger. -/
inductive Booked (s s' : State) : Prop
  /-- As a chain of moves. -/
  | moves (t : Nat) (h : Settles (s.elapse t) s')
  /-- PIN_RESET. -/
  | reset (straps : Straps) (low psel : Bool)
      (h : s' = State.afterPinReset straps low psel s.free s.pending)
  /-- RELEASE of the CLOSED head. -/
  | release (t : Nat) (r : Record) (rest : List Record) (hq : s.store.queue = r :: rest)
      (hr : r.isOpen = false) (h : s'.ledger = ((s.elapse t).removeHead r).ledger)
  /-- FRAME_COMPLETE with a VERDICT that matches a context. -/
  | peer (t : Nat) (k : Fin 4) (v : PeerVerdict) (hv : v.addr ≠ s.ctl.straps.addr)
      (h : s'.ledger = ((s.elapse t).editContext k fun c => c.addPeer v).ledger)
  /-- CAUSES. -/
  | causes (t : Nat) (h : s'.ledger = { (s.elapse t).ledger with closed := ⟨false, 0, false⟩ })
  /-- LINK_RESET. -/
  | linkReset (t : Nat) (h : s'.ledger = { (s.elapse t).ledger with lastEdge := none })

/-- A command that the ledger does not show. -/
theorem Booked.quiet {s s' : State} (t : Nat) (h : s'.ledger = (s.elapse t).ledger) : Booked s s' :=
  .moves t (.of_eq h)

/-- A command that changes none of the blocks of the ledger but the controller, without RECORD_CLOSED. -/
theorem ledger_of_same {s u : State} (store : u.store = s.store) (cap : u.cap = s.cap)
    (corr : u.corr = s.corr) (det : u.det = s.det) (mark : u.mark = s.mark) (time : u.time = s.time)
    (closed : u.ctl.causes[(8 : Fin 13)] = s.ctl.causes[(8 : Fin 13)]) : u.ledger = s.ledger := by
  simp only [State.ledger, store, cap, corr, det, mark, State.now, time]
  rw [Ledger.mk.injEq]
  exact ⟨rfl, rfl, rfl, rfl, rfl, rfl, closed, rfl, rfl⟩

/-- The blocks that the ledger does not show. -/
def unbooked : List Block := [.cfe, .rms, .ref, .link, .agg, .port]

/-- A steady command that changes none of the blocks of the ledger. -/
theorem Booked.of_unbooked {i : Instr} {s s' : State} (hi : steadyCommand i = true)
    (hb : ∀ b ∈ touches i, b ∈ unbooked) (h : exec i s = .next s') : Booked s s' := by
  obtain ⟨t, u, hu, frame⟩ := exec_steady i s hi
  have kept := (frame.mono hb).only.1
  obtain rfl : u = s' := by
    rw [hu] at h
    injection h
  exact .quiet t (ledger_of_same (kept .store (by decide)) (kept .cap (by decide))
    (kept .corr (by decide)) (kept .det (by decide)) (kept .mark (by decide)) frame.steady.time
    (congrArg (fun c : Controller => c.causes[(8 : Fin 13)]) (kept .ctl (by decide) : u.ctl = _)))

theorem execContextClose_settles (t : Nat) (k : Fin 4) (s : State) :
    ∃ u, execContextClose t k s = .next u ∧ Settles (s.elapse t) u := by
  refine ⟨_, rfl, ?_⟩
  cases (s.elapse t).corr.slots[k] with
  | none => exact .refl _
  | some c =>
    have expired : Settles (s.elapse t) ((s.elapse t).windowExpiry c.edge) :=
      .of_eq (State.windowExpiry_ledger _ _)
    refine .ite ?_ (.refl _)
    cases hc : ((s.elapse t).windowExpiry c.edge).corr.slots[k] with
    | none => simp only [hc]; exact expired
    | some c' => simp only [hc]; exact expired.trans (State.closeContext_settles _ hc)

theorem execMaxOpenExpiry_settles (t : Nat) (s : State) :
    ∃ u, execMaxOpenExpiry t s = .next u ∧ Settles (s.elapse t) u := by
  refine ⟨_, rfl, ?_⟩
  cases hm : (s.elapse t).det.mode with
  | watch => exact .refl _
  | held m id => exact .refl _
  | event m id expiry => exact .ite (State.finished_settles hm (e := none) rfl) (.refl _)

theorem execScrubComplete_settles (t : Nat) (k : Fin 8) (s : State) :
    ∃ u, execScrubComplete t k s = .next u ∧ Settles (s.elapse t) u := by
  refine ⟨_, rfl, ?_⟩
  split
  · next h =>
    have scrubbing : (s.elapse t).cap.slots[k].state = .scrubbing := by
      rw [Bool.and_eq_true, beq_iff_eq] at h
      exact h.1
    intro due
    rw [State.setSlot_ledger]
    exact (Ledger.Move.scrubbed due _ k scrubbing).moves
  · exact .refl _

theorem execWave_settles (t : Nat) (fails : Bool) (s : State) :
    ∃ u, execWave t fails s = .next u ∧ Settles (s.elapse t) u := by
  refine ⟨_, rfl, ?_⟩
  split
  · split
    · exact .of_eq rfl
    · exact .ite ((State.memoryError_settles _ _).then_eq rfl) (.of_eq rfl)
  · exact .refl _

theorem State.takeRestart_settles (s : State) (low : Bool) : Settles s (s.takeRestart low) := by
  have stopped := s.takeStop_settles (.restart low s.order.tableFirst) s.order s.order.checkFails
    (act := id) Settles.refl
  exact stopped.then_eq (ledger_of_same rfl rfl rfl rfl rfl rfl rfl)

theorem exec_positionClose_settles (checks : CloseChecks) (s : State) :
    ∃ u, exec (.positionClose checks) s = .next u ∧ Settles (s.elapse s.closeMoment) u := by
  have measured : Settles (s.elapse s.closeMoment) s.measured := .of_eq s.measured_ledger
  refine ⟨_, exec_positionClose checks s, .ite ?_ (measured.trans (s.eventsOf_settles checks _))⟩
  have stopped := measured.trans
    (s.measured.takeStop_settles .halt s.order checks.failed (s.eventsOf_settles checks))
  refine (stopped.then_eq (State.raise_ledger _ (c := .halt) 0 (by decide))).then_eq ?_
  exact ledger_of_same rfl rfl rfl rfl rfl rfl rfl

theorem execReadbackMismatch_ledger (t : Nat) (s : State) :
    ∃ u, execReadbackMismatch t s = .next u ∧ u.ledger = (s.elapse t).ledger := by
  refine ⟨_, rfl, ?_⟩
  split
  · rfl
  · exact ledger_ite (ledger_ite rfl (ledger_ite (State.reportFrame_ledger _ _) rfl)) rfl

/-- FRAME_COMPLETE: the peer verdict list of the context matched, if one is, may have a new entry. -/
theorem State.judgeFrame_booked (s : State) :
    s.judgeFrame.ledger = s.ledger ∨ ∃ (k : Fin 4) (v : PeerVerdict), v.addr ≠ s.ctl.straps.addr ∧
      s.judgeFrame.ledger = (s.editContext k fun c => c.addPeer v).ledger := by
  unfold State.judgeFrame
  cases decodeNotice s.link.rxBytes with
  | none => exact .inl (State.raise_ledger _ _ (by decide))
  | some n =>
    dsimp only
    split
    · exact .inl rfl
    split
    · exact .inl (State.raise_ledger _ _ (by decide))
    next hn =>
    have heard (u : State) : (u.updatePeer n s.link.rxLeader).ledger = u.ledger :=
      ledger_ite rfl (State.raise_ledger _ _ (by decide))
    have kept (u : State) : (u.updatePeer n s.link.rxLeader).corr = u.corr :=
      (u.updatePeer_frame n _).only.1 .corr (by decide)
    unfold State.takeNotice
    cases n with
    | present => exact .inl (heard _)
    | verdict addr level v k origin age dU dI =>
      dsimp only
      split
      · unfold State.matchVerdict
        split
        · next j _ =>
          refine .inr ⟨j, ⟨addr, level, v, k, dU.toInt, dI.toInt, origin⟩, hn, ?_⟩
          have taken (u w : State) (hu : u.ledger = w.ledger) (hc : u.corr = w.corr)
              (f : Context → Context) : (u.editContext j f).ledger = (w.editContext j f).ledger := by
            unfold State.editContext
            rw [State.setContext_ledger, State.setContext_ledger, hu, hc]
          exact taken _ _ (heard (s.withLink s.link.endFrame)) (kept (s.withLink s.link.endFrame)) _
        · exact .inl (heard _)
      · exact .inl (heard _)

/-- What every command is in the ledger. -/
theorem exec_booked {i : Instr} {s s' : State} (h : exec i s = .next s') : Booked s s' := by
  have next {u : State} {o : Host.Outcome State Fault Refusal} (ho : exec i s = o) (hu : o = .next u) :
      u = s' := by
    rw [← ho, h] at hu
    injection hu with e
    exact e.symm
  have told {t : Nat} {u : State} (hu : exec i s = .next u) (hl : u.ledger = (s.elapse t).ledger) :
      Booked s s' := by
    obtain rfl := next rfl hu
    exact .quiet t hl
  have moved {t : Nat} (hu : ∃ u, exec i s = .next u ∧ Settles (s.elapse t) u) : Booked s s' := by
    obtain ⟨u, hu, moved⟩ := hu
    obtain rfl := next rfl hu
    exact .moves t moved
  cases i with
  | pinReset straps low psel =>
    injection h with h
    exact .reset straps low psel h.symm
  | positionClose checks => exact moved (exec_positionClose_settles checks s)
  | cycleTimeout t =>
    refine told (t := t) rfl ?_
    split
    · rfl
    · exact ledger_ite (State.raiseFreeRun_ledger _ _ _) rfl
  | detectorTakesRefresh t failed =>
    exact moved ⟨_, rfl, State.detectorTakes_settles _ failed Between.id⟩
  | maxOpenExpiry t => exact moved (execMaxOpenExpiry_settles t s)
  | correlationTakesRefresh t => exact told (t := t) rfl (State.correlationTakes_ledger _)
  | markFallingEdge t failed =>
    exact moved ⟨_, rfl, .ite (.refl (s.elapse t)) (State.takeFallingEdge_settles _ failed)⟩
  | markRelease t => exact told (t := t) rfl (ledger_ite rfl rfl)
  | pulseEnd t => exact told (t := t) rfl (ledger_ite rfl rfl)
  | stuckExpiry t => exact told (t := t) rfl (ledger_ite (State.raise_ledger _ _ (by decide)) rfl)
  | recoveryExpiry t => exact told (t := t) rfl (ledger_ite rfl rfl)
  | presentPeriodExpiry t =>
    refine told (t := t) rfl ?_
    split
    · rfl
    · exact ledger_ite rfl rfl
  | readbackMismatch t =>
    obtain ⟨u, hu, hl⟩ := execReadbackMismatch_ledger t s
    exact told hu hl
  | frameMalformed t fault =>
    exact told (t := t) rfl (ledger_ite (State.raise_ledger _ _ (by decide)) rfl)
  | frameComplete t =>
    injection h with h
    subst h
    split
    · rcases (s.elapse t).judgeFrame_booked with same | ⟨k, v, hv, taken⟩
      · exact .quiet t same
      · exact .peer t k v hv taken
    · exact .quiet t rfl
  | peerAgingExpiry t a =>
    exact told (t := t) rfl (ledger_ite (State.raise_ledger _ _ (by decide)) rfl)
  | contextClose t k => exact moved (execContextClose_settles t k s)
  | scrubComplete t k => exact moved (execScrubComplete_settles t k s)
  | scrubLocationError t k =>
    exact moved ⟨_, rfl, .ite ((s.elapse t).memoryError_settles k) (.refl _)⟩
  | intervalBoundary t =>
    refine told (t := t) rfl ?_
    split
    · rfl
    · exact ledger_ite (State.writeInterval_ledger _ _ _ _ _) rfl
  | release t =>
    injection h with h
    subst h
    split
    · split
      · exact .quiet t rfl
      · next r rest hq =>
        split
        · split
          · exact .quiet t rfl
          · next hr => exact .release t r rest hq (by simpa using hr) rfl
        · exact .quiet t (ledger_ite rfl rfl)
    · exact .quiet t rfl
  | wave t fails => exact moved (execWave_settles t fails s)
  | tally t => exact told (t := t) rfl (ledger_ite rfl rfl)
  | causes t =>
    injection h with h
    subst h
    split
    · exact .causes t rfl
    · exact .quiet t rfl
  | set t =>
    refine told (t := t) rfl ?_
    split
    · split
      · refine ledger_ite rfl ?_
        obtain ⟨ref, attn, stored, -⟩ := State.storeItem_eq (s.elapse t) _ (storedValue _ _)
        rw [State.answer_ledger, stored]
        rfl
      · rfl
    · rfl
  | start t =>
    refine told (t := t) rfl (ledger_ite ?_ rfl)
    split
    · exact ledger_ite rfl rfl
    · rfl
    · rfl
  | restart t low =>
    exact moved ⟨_, rfl, .ite (((s.elapse t).takeRestart_settles low).then_eq rfl) (.refl _)⟩
  | linkReset t low =>
    injection h with h
    subst h
    split
    · refine .linkReset t ?_
      have dropped : (((s.elapse t).linkTakesReset (s.elapse t).link.view)).ledger = (s.elapse t).ledger :=
        State.reportQueue_ledger _
      rw [State.answer_ledger, State.takeLinkReset, State.markTakesReset, State.withMark_ledger, dropped]
      rfl
    · exact .quiet t rfl
  | takeResult t ch code => exact .of_unbooked rfl (by simp [touches, unbooked]) h
  | trackerTakesRefresh t => exact .of_unbooked rfl (by simp [touches, unbooked]) h
  | trackerTakesEndReport t => exact .of_unbooked rfl (by simp [touches, unbooked]) h
  | aggregatorTakesRefresh t => exact .of_unbooked rfl (by simp [touches, unbooked]) h
  | attemptStart t => exact .of_unbooked rfl (by simp [touches, unbooked]) h
  | attemptSuccess t => exact .of_unbooked rfl (by simp [touches, unbooked]) h
  | receiverRecovered t => exact .of_unbooked rfl (by simp [touches, unbooked]) h
  | requestBegin t code => exact .of_unbooked rfl (by simp [touches, unbooked]) h
  | requestTaken t bytes => exact .of_unbooked rfl (by simp [touches, unbooked]) h
  | readFrame t count => exact .of_unbooked rfl (by simp [touches, unbooked]) h
  | malformedRequest t => exact .of_unbooked rfl (by simp [touches, unbooked]) h
  | status t => exact .of_unbooked rfl (by simp [touches, unbooked]) h
  | live t => exact .of_unbooked rfl (by simp [touches, unbooked]) h
  | reference t => exact .of_unbooked rfl (by simp [touches, unbooked]) h
  | head t => exact .of_unbooked rfl (by simp [touches, unbooked]) h
  | interval t => exact .of_unbooked rfl (by simp [touches, unbooked]) h
  | peers t => exact .of_unbooked rfl (by simp [touches, unbooked]) h
  | get t => exact .of_unbooked rfl (by simp [touches, unbooked]) h
  | noticeFallingEdge t e => exact .of_unbooked rfl (by simp [touches, unbooked]) h
  | ignoredPeriodEnd t => exact .of_unbooked rfl (by simp [touches, unbooked]) h

end Sys2Proof.Machine
end

section
/-! The moves of the ledger keep the record ids in order, the holder counts, and what keeps a record
OPEN (R77, R144, R149). -/

namespace Sys2Proof.Machine

namespace Ledger

/-- The ids are those that precede `next`, in order, and at most 48 (R144, R145). -/
structure IdsFollow (ids : List Nat) (next : Nat) : Prop where
  room : ids.length ≤ 48
  one : 1 ≤ next
  top : next ≤ 65535
  order : ∀ (i : Nat) (h : i < ids.length), (ids[i] + (ids.length - i)) % 65535 = next % 65535
  range : ∀ id ∈ ids, 1 ≤ id ∧ id ≤ 65535

theorem IdsFollow.nodup {ids : List Nat} {next : Nat} (h : IdsFollow ids next) : ids.Nodup := by
  rw [List.nodup_iff_injective_get]
  intro i j hij
  have hi := h.order i i.isLt
  have hj := h.order j j.isLt
  have := h.room
  simp only [List.get_eq_getElem] at hij
  rw [hij] at hi
  exact Fin.ext (by omega)

theorem IdsFollow.next_notMem {ids : List Nat} {next : Nat} (h : IdsFollow ids next) : next ∉ ids := by
  intro hm
  obtain ⟨i, hi, rfl⟩ := List.mem_iff_getElem.1 hm
  have := h.order i hi
  have := h.room
  omega

theorem IdsFollow.append {ids : List Nat} {next : Nat} (h : IdsFollow ids next)
    (room : ids.length < 48) : IdsFollow (ids ++ [next]) (nextRecordId next) where
  room := by simpa using room
  one := (nextRecordId_range next).1
  top := (nextRecordId_range next).2
  order := fun i hi => by
    have after : nextRecordId next % 65535 = (next + 1) % 65535 := by
      have := h.top
      unfold nextRecordId
      split
      · obtain rfl : next = 65535 := by omega
        rfl
      · rfl
    simp only [List.length_append, List.length_cons, List.length_nil] at hi ⊢
    rw [List.getElem_append, after]
    split
    · next hlt => have := h.order i hlt; omega
    · next hge => simp; omega
  range := fun id hid => by
    rcases List.mem_append.1 hid with old | new
    · exact h.range id old
    · rw [List.mem_singleton.1 new]
      exact ⟨h.one, h.top⟩

theorem IdsFollow.tail {id : Nat} {ids : List Nat} {next : Nat} (h : IdsFollow (id :: ids) next) :
    IdsFollow ids next where
  room := by have := h.room; simp at this; omega
  one := h.one
  top := h.top
  order := fun i hi => by
    have := h.order (i + 1) (by simpa using hi)
    simpa using this
  range := fun j hj => h.range j (List.mem_cons_of_mem _ hj)

/-- The record ids of a ledger. -/
def ids (w : Ledger) : List Nat := w.queue.map Core.id

/-- The ids of a ledger are in order. -/
def IdsSound (w : Ledger) : Prop := IdsFollow w.ids w.nextId

theorem IdsSound.unique {w : Ledger} (h : w.IdsSound) {c d : Core} (hc : c ∈ w.queue)
    (hd : d ∈ w.queue) (e : c.id = d.id) : c = d :=
  List.inj_on_of_nodup_map h.nodup hc hd e

theorem IdsSound.pos {w : Ledger} (h : w.IdsSound) {c : Core} (hc : c ∈ w.queue) : c.id ≠ 0 := by
  have := h.range c.id (List.mem_map_of_mem hc)
  omega

theorem IdsSound.fresh {w : Ledger} (h : w.IdsSound) {c : Core} (hc : c ∈ w.queue) :
    c.id ≠ w.nextId := fun e => h.next_notMem (e ▸ List.mem_map_of_mem hc)

/-! Writes. -/

theorem mem_edit {w : Ledger} {id : Nat} {f : Core → Core} {d : Core} :
    d ∈ (w.edit id f).queue ↔ ∃ c ∈ w.queue, (if c.id = id then f c else c) = d := by
  simp [edit]

theorem ids_edit (w : Ledger) (id : Nat) {f : Core → Core} (h : ∀ c : Core, (f c).id = c.id) :
    (w.edit id f).ids = w.ids := by
  simp only [ids, edit, List.map_map]
  refine List.map_congr_left fun c _ => ?_
  by_cases hc : c.id = id <;> simp [hc, h]

/-- The newest record alone is written where ids are in order. -/
theorem edit_newest {w : Ledger} (hw : w.IdsSound) {id : Nat} {q : List Core} {c : Core}
    (hq : w.queue = q ++ [c]) (hc : c.id = id) (f : Core → Core) :
    (w.edit id f).queue = q ++ [f c] := by
  have nodup := hw.nodup
  simp only [ids, hq, List.map_append, List.map_cons, List.map_nil, List.nodup_append] at nodup
  simp only [edit, hq, List.map_append, List.map_cons, List.map_nil, hc, if_true,
    List.append_cancel_right_eq]
  refine (List.map_congr_left fun d hd => ?_).trans (List.map_id q)
  have other : d.id ≠ c.id := nodup.2.2 d.id (List.mem_map_of_mem hd) c.id List.mem_cons_self
  rw [if_neg (hc ▸ other)]
  rfl

theorem judge_cases (w : Ledger) (id : Nat) :
    w.judge id = w ∧ (∀ c, w.queue.find? (fun c => c.id == id) = some c →
      c.isOpen = true → w.closable c = false) ∨
    ∃ c ∈ w.queue, c.id = id ∧ c.isOpen = true ∧ w.closable c = true ∧
      w.judge id = { w.edit id fun c => { c with isOpen := false } with closed := ⟨true, 0, false⟩ } := by
  unfold judge
  split
  · next h => exact .inl ⟨rfl, fun c hc => by simp [h] at hc⟩
  · next c h =>
    have hid : c.id = id := by simpa using List.find?_some h
    split
    · next hc =>
      rw [Bool.and_eq_true] at hc
      exact .inr ⟨c, List.mem_of_find?_eq_some h, hid, hc.1, hc.2, rfl⟩
    · next hc =>
      refine .inl ⟨rfl, fun d hd ho => ?_⟩
      rw [h, Option.some.injEq] at hd
      subst hd
      simpa [ho] using hc

/-- A created record: the queue with the ids in order. -/
theorem add_queue {w : Ledger} (hw : w.IdsSound) {c : Core} (hid : c.id = w.nextId)
    (anchor : Option (Fin 4)) : (w.add c anchor).queue = w.queue ++ [c] := by
  unfold add
  split
  · refine congrArg (· ++ [c]) ((List.map_congr_left fun d hd => ?_).trans (List.map_id w.queue))
    rw [if_neg (hid ▸ hw.fresh hd)]
    rfl
  · rfl

/-- Every move keeps the ids in order (R144, R145). -/
theorem Move.ids {d d' : List Nat} {w w' : Ledger} (m : Move d w d' w') (hw : w.IdsSound) :
    w'.IdsSound := by
  have same {u : Ledger} (hi : u.ids = w.ids) (hn : u.nextId = w.nextId) : u.IdsSound := by
    unfold IdsSound
    rw [hi, hn]
    exact hw
  cases m with
  | relax _ => exact hw
  | peers _ k l id h => exact same (ids_edit w id fun _ => rfl) rfl
  | rest _ id => exact same (ids_edit w id fun _ => rfl) rfl
  | event _ e h => exact hw
  | upgrade _ id h => exact same (ids_edit w id fun _ => rfl) rfl
  | unlink _ k l h => exact same (ids_edit (w.setCtx k none) l.linked fun _ => rfl) rfl
  | close _ k l h hl => exact hw
  | add _ c anchor hsub h =>
    have := hw.append (by simpa [Ledger.ids] using h.room)
    unfold IdsSound Ledger.ids
    rw [add_queue hw h.id, List.map_append, List.map_cons, List.map_nil, h.id]
    exact this
  | refuse _ id h => exact same (ids_edit w id fun _ => rfl) rfl
  | join _ id k h hk => exact same (ids_edit (w.setSlot k _ _) id fun _ => rfl) rfl
  | fill _ id k h hk hf => exact same (ids_edit (w.setSlot k _ _) id fun _ => rfl) rfl
  | judge _ id =>
    rcases w.judge_cases id with ⟨e, -⟩ | ⟨c, -, -, -, -, e⟩
    · rw [e]; exact hw
    · rw [e]; exact same (ids_edit w id fun _ => rfl) rfl
  | hold _ k hk => exact hw
  | spoil _ k hk =>
    refine same ?_ rfl
    simp only [Ledger.ids, lose, setSlot, List.map_map]
    exact List.map_congr_left fun c _ => by simp only [Function.comp_apply]; split <;> rfl
  | scrubbed _ k hk => exact hw
  | edge => exact hw
  | mark _ k h hl => exact hw

/-- A property that every move keeps, with the ids in order, is kept by a chain of moves. -/
theorem Moves.keep {P : List Nat → Ledger → Prop}
    (hP : ∀ {d w d' w'}, Move d w d' w' → w.IdsSound → P d w → P d' w')
    {d d' : List Nat} {w w' : Ledger} (m : Moves d w d' w') (hw : w.IdsSound) (h : P d w) :
    w'.IdsSound ∧ P d' w' := by
  induction m with
  | refl => exact ⟨hw, h⟩
  | step _ m ih =>
    obtain ⟨ids, kept⟩ := ih hw h
    exact ⟨m.ids ids, hP m ids kept⟩

/-! The holder counts (R77, R79, R80). -/

/-- The holder counts are those of the records that name the slots, a slot has holders where it is in
use, and no CLOSED record names a FILLING slot. -/
structure Counted (w : Ledger) : Prop where
  count : ∀ k, w.holders k = w.queue.countP fun c => c.slot == some k
  used : ∀ k, w.holders k = 0 ↔ ¬ (w.slot k = .filling ∨ w.slot k = .held)
  closed : ∀ c ∈ w.queue, c.isOpen = false → w.filling c = false

/-- A write to slots and ids of no record keeps the counts. -/
theorem Counted.edit {w : Ledger} (h : w.Counted) (id : Nat) {f : Core → Core}
    (hf : ∀ c : Core, (f c).slot = c.slot ∧ (f c).isOpen = c.isOpen) : (w.edit id f).Counted where
  count := fun k => by
    rw [show (w.edit id f).holders k = w.holders k from rfl, h.count k]
    simp only [Ledger.edit, List.countP_map]
    refine List.countP_congr fun c _ => ?_
    by_cases hc : c.id = id <;> simp [hc, (hf c).1]
  used := h.used
  closed := fun d hd ho => by
    obtain ⟨c, hc, rfl⟩ := mem_edit.1 hd
    have same : ∀ x : Core, x.slot = c.slot → w.filling x = w.filling c := fun x hx => by
      simp only [filling, hx]
    split at ho
    · next hid => exact (same _ (by simp [hid, (hf c).1])).trans (h.closed c hc ((hf c).2 ▸ ho))
    · next hid => exact (same _ (by simp [hid])).trans (h.closed c hc ho)

/-- Whether a record's slot is FILLING after one slot has changed. -/
theorem filling_setSlot (w : Ledger) (k : Fin 8) (x : SlotState) (n : Nat) (c : Core) :
    (w.setSlot k x n).filling c = if c.slot = some k then x == .filling else w.filling c := by
  unfold filling
  cases hs : c.slot with
  | none => simp
  | some j => by_cases hj : j = k <;> simp [setSlot, hj]

/-- The counts after the newest record has been given slot `k`. -/
theorem Counted.give {w : Ledger} (hw : w.IdsSound) (h : w.Counted) {id : Nat} (hn : w.Newest id)
    (k : Fin 8) {n : Nat} (hk : n = w.holders k + 1) (hs : w.slot k = .filling ∨ w.slot k = .free) :
    ((w.setSlot k .filling n).edit id fun c => { c with slot := some k }).Counted := by
  obtain ⟨q, c, hq, hid, hopen, hslot⟩ := hn
  have queue : ((w.setSlot k .filling n).edit id fun c => { c with slot := some k }).queue =
      q ++ [{ c with slot := some k }] := edit_newest (w := w.setSlot k .filling n) hw hq hid _
  refine ⟨fun j => ?_, fun j => ?_, fun d hd ho => ?_⟩
  · have old := h.count j
    rw [hq, List.countP_append] at old
    rw [queue, List.countP_append]
    by_cases hj : j = k
    · subst hj
      simpa [Ledger.edit, setSlot, hk, hslot] using old
    · simpa [Ledger.edit, setSlot, hj, hslot, Ne.symm hj] using old
  · by_cases hj : j = k
    · simp [Ledger.edit, setSlot, hj, hk]
    · simpa [Ledger.edit, setSlot, hj] using h.used j
  · rw [queue, List.mem_append, List.mem_singleton] at hd
    rcases hd with hd | rfl
    · have hmem : d ∈ w.queue := hq ▸ List.mem_append_left _ hd
      have old := h.closed d hmem ho
      show (w.setSlot k .filling n).filling d = false
      rw [filling_setSlot]
      split
      · next hd =>
        exfalso
        rcases hs with filling | free
        · simp [Ledger.filling, hd, filling] at old
        · have none : w.holders k = 0 := (h.used k).2 (by simp [free])
          rw [h.count k, List.countP_eq_zero] at none
          exact none d hmem (by simp [hd])
      · exact old
    · exact absurd (hopen.symm.trans ho) (by simp)

/-- The counts after a slot has changed to another state, its holders being the records that name
it still, none of them CLOSED if it is FILLING. -/
theorem Counted.setSlot {w : Ledger} (h : w.Counted) (k : Fin 8) {x : SlotState}
    (hx : w.holders k = 0 ↔ ¬ (x = .filling ∨ x = .held)) (hf : x ≠ .filling) :
    (w.setSlot k x (w.holders k)).Counted where
  count := fun j => by
    show (w.setSlot k x (w.holders k)).holders j = w.queue.countP _
    rw [← h.count j]
    by_cases hj : j = k <;> simp [Ledger.setSlot, hj]
  used := fun j => by
    by_cases hj : j = k
    · subst hj; simpa [Ledger.setSlot] using hx
    · simpa [Ledger.setSlot, hj] using h.used j
  closed := fun c hc ho => by
    rw [filling_setSlot]
    split
    · simpa using hf
    · exact h.closed c hc ho

/-- The counts after a slot in use has been lost. -/
theorem Counted.spoil {w : Ledger} (h : w.Counted) (k : Fin 8) :
    ((w.setSlot k .scrubbing 0).lose k).Counted where
  count := fun j => by
    simp only [Ledger.setSlot, lose, List.countP_map]
    by_cases hj : j = k
    · subst hj
      simp only [Function.update_self]
      refine (List.countP_eq_zero.2 fun c _ => ?_).symm
      by_cases hc : c.slot = some j <;> simp [hc]
    · simp only [Function.update_of_ne hj, h.count j]
      refine List.countP_congr fun c _ => ?_
      by_cases hc : c.slot = some k <;> simp [hc, Ne.symm hj]
  used := fun j => by
    by_cases hj : j = k
    · simp [Ledger.setSlot, lose, hj]
    · simpa [Ledger.setSlot, lose, hj] using h.used j
  closed := fun c hc ho => by
    obtain ⟨d, hd, rfl⟩ := List.mem_map.1 hc
    show (w.setSlot k .scrubbing 0).filling _ = false
    split
    · rfl
    · next hs =>
      rw [if_neg hs] at ho
      rw [filling_setSlot, if_neg hs]
      exact h.closed d hd ho

/-- Every move keeps the holder counts. -/
theorem Move.counted {d d' : List Nat} {w w' : Ledger} (m : Move d w d' w') (hw : w.IdsSound)
    (h : w.Counted) : w'.Counted := by
  cases m with
  | relax _ => exact h
  | peers _ k l id _ => exact h.edit id fun _ => ⟨rfl, rfl⟩
  | rest _ id => exact h.edit id fun _ => ⟨rfl, rfl⟩
  | event _ e _ => exact ⟨h.count, h.used, h.closed⟩
  | upgrade _ id _ =>
    have := h.edit id (f := fun c => { c with running := true }) fun _ => ⟨rfl, rfl⟩
    exact ⟨this.count, this.used, this.closed⟩
  | unlink _ k l _ =>
    have closed : (w.setCtx k none).Counted := ⟨h.count, h.used, h.closed⟩
    exact closed.edit l.linked fun _ => ⟨rfl, rfl⟩
  | close _ k l _ _ => exact ⟨h.count, h.used, h.closed⟩
  | add _ c anchor _ can =>
    have queue := add_queue hw can.id anchor
    refine ⟨fun k => ?_, h.used, fun d hd ho => ?_⟩
    · rw [queue, List.countP_append, ← h.count k]
      simp only [can.slot, List.countP_singleton, reduceCtorEq, beq_iff_eq, if_false, Nat.add_zero]
      rfl
    · rw [queue, List.mem_append, List.mem_singleton] at hd
      rcases hd with hd | rfl
      · exact h.closed d hd ho
      · simp [filling, can.slot]
  | refuse _ id hn =>
    obtain ⟨q, c, hq, hid, _, hslot⟩ := hn
    have same : (w.edit id fun c => { c with slot := none }) = w := by
      have queue := edit_newest hw hq hid fun c => { c with slot := none }
      have : { c with slot := none } = c := by rw [← hslot]
      rw [this, ← hq] at queue
      exact congrArg (fun q => { w with queue := q }) queue
    rw [same]
    exact h
  | join _ id k hn hk => exact h.give hw hn k rfl (.inl hk)
  | fill _ id k hn hk _ =>
    have none : w.holders k = 0 := (h.used k).2 (by simp [hk])
    exact h.give hw hn k (by rw [none]) (.inr hk)
  | judge _ id =>
    rcases w.judge_cases id with ⟨e, -⟩ | ⟨c, hc, hid, -, closable, e⟩
    · rw [e]; exact h
    · rw [e]
      refine ⟨fun k => ?_, h.used, fun x hx ho => ?_⟩
      · refine (h.count k).trans ?_
        simp only [edit, List.countP_map]
        refine List.countP_congr fun x _ => ?_
        by_cases hx : x.id = id <;> simp [hx]
      · obtain ⟨x, hxw, rfl⟩ := mem_edit.1 hx
        split
        · next hxid =>
          obtain rfl := hw.unique hxw hc (hxid.trans hid.symm)
          simp only [Ledger.closable, Bool.and_eq_true, Bool.not_eq_true'] at closable
          exact closable.2
        · next hxid =>
          rw [if_neg hxid] at ho
          exact h.closed x hxw ho
  | hold _ k hk =>
    refine h.setSlot k ?_ (by simp)
    rw [h.used k]
    simp [hk]
  | spoil _ k hk => exact h.spoil k
  | scrubbed _ k hk =>
    have none : w.holders k = 0 := (h.used k).2 (by simp [hk])
    have := h.setSlot k (x := .free) (by simp [none]) (by simp)
    rwa [none] at this
  | edge => exact ⟨h.count, h.used, h.closed⟩
  | mark _ k _ _ => exact ⟨h.count, h.used, h.closed⟩

/-! What keeps a record OPEN (R149). -/

/-- No OPEN record meets the conditions of CLOSED, but those whose judgement is due. -/
def Waits (due : List Nat) (w : Ledger) : Prop :=
  ∀ c ∈ w.queue, c.isOpen = true → c.id ∉ due → w.closable c = false

/-- A write that leaves what keeps a record OPEN. -/
theorem Waits.edit {due due' : List Nat} {w : Ledger} (h : Waits due w) {id : Nat} {f : Core → Core}
    (hid : ∀ c : Core, (f c).id = c.id) (hopen : ∀ c : Core, (f c).isOpen = c.isOpen)
    (hsub : ∀ i, i ≠ id → i ∈ due → i ∈ due')
    (hw : ∀ c ∈ w.queue, c.id = id → c.isOpen = true → id ∉ due' → w.closable (f c) = false) :
    Waits due' (w.edit id f) := by
  intro x hx ho hdue
  obtain ⟨c, hc, rfl⟩ := mem_edit.1 hx
  show w.closable _ = false
  split at ho
  · next hcid =>
    rw [if_pos hcid] at hdue ⊢
    exact hw c hc hcid (hopen c ▸ ho) (by rwa [hid, hcid] at hdue)
  · next hcid =>
    rw [if_neg hcid] at hdue ⊢
    exact h c hc ho fun hd => hdue (hsub _ hcid hd)

/-- More slots FILLING keep more records OPEN. -/
theorem closable_mono {w u : Ledger} {c : Core} (h : w.filling c = true → u.filling c = true)
    (hc : w.closable c = false) : u.closable c = false := by
  simp only [closable, Bool.and_eq_false_iff, Bool.not_eq_false'] at hc ⊢
  exact hc.imp_right h

/-- Every move keeps every OPEN record waiting for something, or its judgement due. -/
theorem Move.waits {d d' : List Nat} {w w' : Ledger} (m : Move d w d' w') (hw : w.IdsSound)
    (h : Waits d w) : Waits d' w' := by
  cases m with
  | relax _ hsub => exact fun c hc ho hd => h c hc ho fun hd' => hd (hsub _ hd')
  | peers _ k l id _ =>
    refine h.edit (fun _ => rfl) (fun _ => rfl) (fun _ _ h => h) fun c hc hid ho hd => ?_
    exact h c hc ho (hid ▸ hd)
  | rest _ id =>
    exact h.edit (fun _ => rfl) (fun _ => rfl) (fun _ _ h => List.mem_cons_of_mem _ h)
      fun c _ _ _ hd => absurd List.mem_cons_self hd
  | event _ e _ => exact h
  | upgrade _ id _ =>
    have := h.edit (id := id) (f := fun c => { c with running := true }) (fun _ => rfl) (fun _ => rfl)
      (fun _ _ h => h) fun c _ _ _ _ => by simp [closable]
    exact this
  | unlink _ k l _ =>
    have closed : Waits d (w.setCtx k none) := h
    exact closed.edit (fun _ => rfl) (fun _ => rfl) (fun _ _ h => List.mem_cons_of_mem _ h)
      fun c _ _ _ hd => absurd List.mem_cons_self hd
  | close _ k l _ _ => exact h
  | add _ c anchor hsub can =>
    intro x hx ho hd
    rw [add_queue hw can.id anchor, List.mem_append, List.mem_singleton] at hx
    rcases hx with hx | rfl
    · exact h x hx ho fun hd' => hd (hsub _ hd')
    · show w.closable x = false
      cases hr : x.running with
      | true => simp [closable, hr]
      | false =>
        cases ha : x.anchorOpen with
        | true => simp [closable, ha]
        | false => exact absurd (can.waits hr ha) hd
  | refuse _ id hn =>
    refine h.edit (fun _ => rfl) (fun _ => rfl) (fun _ _ h => h) fun c hc hid ho hd => ?_
    obtain ⟨q, n, hq, hnid, _, hslot⟩ := hn
    obtain rfl := hw.unique hc (hq ▸ List.mem_append_right q List.mem_cons_self) (hid.trans hnid.symm)
    have : { c with slot := none } = c := by rw [← hslot]
    rw [this]
    exact h c hc ho (hid ▸ hd)
  | join _ id k hn hk =>
    have filled : Waits d (w.setSlot k .filling (w.holders k + 1)) := fun c hc ho hd =>
      closable_mono (fun hf => by rw [filling_setSlot]; split <;> simp_all) (h c hc ho hd)
    exact filled.edit (fun _ => rfl) (fun _ => rfl) (fun _ _ h => h) fun c _ _ _ _ => by
      simp [closable, filling_setSlot]
  | fill _ id k hn hk _ =>
    have filled : Waits d (w.setSlot k .filling 1) := fun c hc ho hd =>
      closable_mono (fun hf => by rw [filling_setSlot]; split <;> simp_all) (h c hc ho hd)
    exact filled.edit (fun _ => rfl) (fun _ => rfl) (fun _ _ h => h) fun c _ _ _ _ => by
      simp [closable, filling_setSlot]
  | judge _ id =>
    rcases w.judge_cases id with ⟨e, stays⟩ | ⟨c, hc, hid, -, -, e⟩
    · rw [e]
      intro c hc ho hd
      by_cases hcid : c.id = id
      · cases hf : w.queue.find? fun c => c.id == id with
        | none => exact absurd hcid (by simpa using List.find?_eq_none.1 hf c hc)
        | some x =>
          have hx : x.id = id := by simpa using List.find?_some hf
          obtain rfl := hw.unique hc (List.mem_of_find?_eq_some hf) (hcid.trans hx.symm)
          exact stays c hf ho
      · exact h c hc ho fun hd' => hd (by simp [hd', hcid])
    · rw [e]
      intro x hx ho hd
      obtain ⟨y, hy, rfl⟩ := mem_edit.1 hx
      split at ho
      · exact absurd ho (by simp)
      · next hyid =>
        rw [if_neg hyid] at hd ⊢
        exact h y hy ho fun hd' => hd (by simp [hd', hyid])
  | hold _ k hk =>
    intro c hc ho hd
    rw [List.mem_append, not_or] at hd
    have other : c.slot ≠ some k := fun hs =>
      hd.1 (List.mem_map_of_mem (List.mem_filter.2 ⟨hc, by simp [hs]⟩))
    refine closable_mono (fun hf => ?_) (h c hc ho hd.2)
    rwa [filling_setSlot, if_neg other]
  | spoil _ k hk =>
    intro x hx ho hd
    obtain ⟨c, hc, rfl⟩ := List.mem_map.1 hx
    rw [List.mem_append, not_or] at hd
    split at ho
    · next hs =>
      rw [if_pos hs] at hd
      exact absurd (List.mem_map_of_mem (f := Core.id) (List.mem_filter.2 ⟨hc, by simp [hs]⟩)) hd.1
    · next hs =>
      rw [if_neg hs] at hd ⊢
      refine closable_mono (fun hf => ?_) (h c hc ho hd.2)
      show (w.setSlot k .scrubbing 0).filling c = true
      rwa [filling_setSlot, if_neg hs]
  | scrubbed _ k hk =>
    intro c hc ho hd
    refine closable_mono (fun hf => ?_) (h c hc ho hd)
    rw [filling_setSlot]
    split
    · next hs => simp [filling, hs, hk] at hf
    · exact hf
  | edge => exact h
  | mark _ k _ _ => exact h

/-- Since `v` every record is still there, a CLOSED one CLOSED, and RECORD_CLOSED has been raised
where one has closed. -/
def ClosesFrom (v w : Ledger) : Prop :=
  ∀ c ∈ v.queue, ∃ c' ∈ w.queue, c'.id = c.id ∧ (c.isOpen = false → c'.isOpen = false) ∧
    (c.isOpen = true → c'.isOpen = false → w.closed = ⟨true, 0, false⟩)

/-- A step in which every record of the queue is kept with its state. -/
theorem ClosesFrom.keep {v w w' : Ledger} (h : ClosesFrom v w) (hclosed : w'.closed = w.closed)
    (hq : ∀ c ∈ w.queue, ∃ c' ∈ w'.queue, c'.id = c.id ∧ c'.isOpen = c.isOpen) : ClosesFrom v w' := by
  intro c hc
  obtain ⟨c', hc', hid, stays, closes⟩ := h c hc
  obtain ⟨x, hx, hxid, hxo⟩ := hq c' hc'
  refine ⟨x, hx, hxid.trans hid, fun ho => hxo.trans (stays ho), fun ho hx => ?_⟩
  rw [hclosed]
  exact closes ho (hxo ▸ hx)

theorem edit_keeps (w : Ledger) (id : Nat) {f : Core → Core} (hid : ∀ c : Core, (f c).id = c.id)
    (hopen : ∀ c : Core, (f c).isOpen = c.isOpen) :
    ∀ c ∈ w.queue, ∃ c' ∈ (w.edit id f).queue, c'.id = c.id ∧ c'.isOpen = c.isOpen := by
  intro c hc
  refine ⟨_, mem_edit.2 ⟨c, hc, rfl⟩, ?_⟩
  split
  · exact ⟨hid c, hopen c⟩
  · exact ⟨rfl, rfl⟩

theorem Move.closesFrom {v : Ledger} {d d' : List Nat} {w w' : Ledger} (m : Move d w d' w')
    (h : ClosesFrom v w) : ClosesFrom v w' := by
  cases m with
  | relax _ => exact h
  | peers _ k l id _ => exact h.keep rfl (w.edit_keeps id (fun _ => rfl) fun _ => rfl)
  | rest _ id => exact h.keep rfl (w.edit_keeps id (fun _ => rfl) fun _ => rfl)
  | event _ e _ => exact h
  | upgrade _ id _ => exact h.keep rfl (w.edit_keeps id (fun _ => rfl) fun _ => rfl)
  | unlink _ k l _ => exact h.keep rfl (w.edit_keeps l.linked (fun _ => rfl) fun _ => rfl)
  | close _ k l _ _ => exact h
  | add _ c anchor _ _ =>
    refine h.keep rfl fun x hx => ?_
    cases anchor with
    | none => exact ⟨x, List.mem_append_left _ hx, rfl, rfl⟩
    | some k =>
      obtain ⟨y, hy, same⟩ := w.edit_keeps c.id (f := fun d => { d with anchorOpen := true })
        (fun _ => rfl) (fun _ => rfl) x hx
      exact ⟨y, List.mem_append_left _ hy, same⟩
  | refuse _ id _ => exact h.keep rfl (w.edit_keeps id (fun _ => rfl) fun _ => rfl)
  | join _ id k _ _ => exact h.keep rfl (w.edit_keeps id (fun _ => rfl) fun _ => rfl)
  | fill _ id k _ _ _ => exact h.keep rfl (w.edit_keeps id (fun _ => rfl) fun _ => rfl)
  | judge _ id =>
    rcases w.judge_cases id with ⟨e, -⟩ | ⟨-, -, -, -, -, e⟩
    · rw [e]; exact h
    · rw [e]
      intro c hc
      obtain ⟨c', hc', hid, stays, -⟩ := h c hc
      refine ⟨_, mem_edit.2 ⟨c', hc', rfl⟩, ?_, fun ho => ?_, fun _ _ => rfl⟩
      · split <;> exact hid
      · split
        · rfl
        · exact stays ho
  | hold _ k _ => exact h
  | spoil _ k _ =>
    refine h.keep rfl fun c hc => ⟨_, List.mem_map_of_mem hc, ?_⟩
    split <;> exact ⟨rfl, rfl⟩
  | scrubbed _ k _ => exact h
  | edge => exact h
  | mark _ k _ _ => exact h

end Ledger

end Sys2Proof.Machine
end

section
/-! The moves of the ledger keep the flags and links of the records, the peer verdict lists, the
record times and the edge times (R67, R122, R125, R133, R146). -/

namespace Sys2Proof.Machine

namespace Ledger

theorem setCtx_self (w : Ledger) (k : Fin 4) (l : Option Link) : (w.setCtx k l).ctx k = l :=
  Function.update_self k _ w.ctx

theorem setCtx_of_ne (w : Ledger) {j k : Fin 4} (h : j ≠ k) (l : Option Link) :
    (w.setCtx k l).ctx j = w.ctx j := Function.update_of_ne h _ w.ctx

/-- A context that the ledger holds after slot `k` has been closed. -/
theorem setCtx_none {w : Ledger} {j k : Fin 4} {l : Link} (h : (w.setCtx k none).ctx j = some l) :
    j ≠ k ∧ w.ctx j = some l := by
  by_cases hj : j = k
  · subst hj
    rw [setCtx_self] at h
    exact absurd h (by simp)
  · exact ⟨hj, by rwa [setCtx_of_ne w hj] at h⟩

/-- A context after a record has been added: as before, or the anchor, linked to the record. -/
theorem add_ctx {w : Ledger} {c : Core} {anchor : Option (Fin 4)} {due : List Nat}
    (can : w.Addable c anchor due) (j : Fin 4) :
    (w.add c anchor).ctx j = w.ctx j ∧ anchor ≠ some j ∨
    anchor = some j ∧ ∃ l, w.ctx j = some l ∧ l.linked = 0 ∧
      (w.add c anchor).ctx j = some { l with linked := c.id } := by
  by_cases hj : anchor = some j
  · obtain ⟨l, hl, h0⟩ := can.unlinked j hj
    exact .inr ⟨hj, l, hl, h0, by simp [add, hj, hl]⟩
  · exact .inl ⟨by simp [add, hj], hj⟩

/-! The flags of a record have their reasons (R67, R125, R149). -/

/-- The running flag is that of the event record, and anchor open has an OPEN context linked to the
record. -/
def Reasoned (w : Ledger) (c : Core) : Prop :=
  (c.running = true → w.event = some c.id) ∧
  (c.anchorOpen = true → ∃ k l, w.ctx k = some l ∧ l.linked = c.id)

/-- The flags of the records that `p` names have their reasons. -/
def ReasonsOf (p : Nat → Prop) (w : Ledger) : Prop := ∀ c ∈ w.queue, p c.id → w.Reasoned c

/-- The flags of every record have their reasons. -/
def Reasons (w : Ledger) : Prop := ∀ c ∈ w.queue, w.Reasoned c

variable {p : Nat → Prop}

/-- A write that clears flags at most keeps every flag's reason. -/
theorem ReasonsOf.edit {w : Ledger} (h : ReasonsOf p w) (id : Nat) {f : Core → Core}
    (hf : ∀ c : Core, (f c).id = c.id ∧ ((f c).running = true → c.running = true) ∧
      ((f c).anchorOpen = true → c.anchorOpen = true)) : ReasonsOf p (w.edit id f) := by
  intro x hx hp
  obtain ⟨c, hc, rfl⟩ := mem_edit.1 hx
  obtain ⟨same, hrun, hanchor⟩ := hf c
  split at hp
  · next hid =>
    rw [same] at hp
    obtain ⟨run, anchor⟩ := h c hc hp
    rw [if_pos hid]
    exact ⟨fun hr => same.symm ▸ run (hrun hr), fun ha => same.symm ▸ anchor (hanchor ha)⟩
  · next hid =>
    rw [if_neg hid]
    exact h c hc hp

/-- No record runs in EVENT without a record. -/
theorem Reasoned.not_running {w : Ledger} {c : Core} (h : w.Reasoned c) (hw : w.IdsSound)
    (hev : w.event = some 0) (hc : c ∈ w.queue) : c.running = false := by
  cases hr : c.running with
  | false => rfl
  | true =>
    have := h.1 hr
    rw [hev, Option.some.injEq] at this
    exact absurd this.symm (hw.pos hc)

/-- A slot's change is not among the reasons. -/
theorem ReasonsOf.of_same {w u : Ledger} (h : ReasonsOf p w) (hq : u.queue = w.queue)
    (he : u.event = w.event) (hc : u.ctx = w.ctx) : ReasonsOf p u := by
  intro c hcu hp
  obtain ⟨run, anchor⟩ := h c (hq ▸ hcu) hp
  exact ⟨fun hr => he.trans (run hr), fun ha => by rw [hc]; exact anchor ha⟩

/-- Every move keeps the reasons of the flags. -/
theorem Move.reasonsOf {d d' : List Nat} {w w' : Ledger} (m : Move d w d' w') (hw : w.IdsSound)
    (h : ReasonsOf p w) : ReasonsOf p w' := by
  cases m with
  | relax _ => exact h
  | peers _ k l id _ => exact h.edit id fun _ => ⟨rfl, fun h => h, fun h => h⟩
  | rest _ id => exact h.edit id fun _ => ⟨rfl, fun h => absurd h (by simp), fun h => h⟩
  | event _ e still =>
    intro c hc hp
    obtain ⟨run, anchor⟩ := h c hc hp
    refine ⟨fun hr => ?_, anchor⟩
    have := still c hc (hw.pos hc) (run hr)
    exact absurd (hr.symm.trans this) (by simp)
  | upgrade _ id hev =>
    intro x hx hp
    obtain ⟨c, hc, rfl⟩ := mem_edit.1 hx
    by_cases hid : c.id = id
    · rw [if_pos hid] at hp ⊢
      exact ⟨fun _ => congrArg some hid.symm, (h c hc hp).2⟩
    · rw [if_neg hid] at hp ⊢
      have reasoned := h c hc hp
      exact ⟨fun hr => absurd (hr.symm.trans (reasoned.not_running hw hev hc)) (by simp), reasoned.2⟩
  | unlink _ k l hk =>
    intro x hx hp
    obtain ⟨c, hc, rfl⟩ := mem_edit.1 hx
    by_cases hid : c.id = l.linked
    · rw [if_pos hid] at hp ⊢
      exact ⟨(h c hc hp).1, fun ha => absurd ha (by simp)⟩
    · rw [if_neg hid] at hp ⊢
      obtain ⟨run, anchor⟩ := h c hc hp
      refine ⟨run, fun ha => ?_⟩
      obtain ⟨j, lj, hj, hlj⟩ := anchor ha
      have other : j ≠ k := fun e => by
        rw [e, hk, Option.some.injEq] at hj
        exact hid (hj ▸ hlj).symm
      exact ⟨j, lj, (setCtx_of_ne w other none).trans hj, hlj⟩
  | close _ k l hk h0 =>
    intro c hc hp
    obtain ⟨run, anchor⟩ := h c hc hp
    refine ⟨run, fun ha => ?_⟩
    obtain ⟨j, lj, hj, hlj⟩ := anchor ha
    have other : j ≠ k := fun e => by
      rw [e, hk, Option.some.injEq] at hj
      exact hw.pos hc (hlj.symm.trans (hj ▸ h0))
    exact ⟨j, lj, (setCtx_of_ne w other none).trans hj, hlj⟩
  | add _ c anchor _ can =>
    intro x hx hp
    rw [add_queue hw can.id anchor, List.mem_append, List.mem_singleton] at hx
    rcases hx with hx | rfl
    · obtain ⟨run, anchored⟩ := h x hx hp
      refine ⟨fun hr => ?_, fun ha => ?_⟩
      · have : c.running = false := by
          cases hc : c.running with
          | false => rfl
          | true => exact absurd (hr.symm.trans ((h x hx hp).not_running hw (can.event hc) hx)) (by simp)
        simpa [Ledger.add, this] using run hr
      · obtain ⟨j, lj, hj, hlj⟩ := anchored ha
        rcases add_ctx can j with ⟨same, -⟩ | ⟨-, l, hl, h0, -⟩
        · exact ⟨j, lj, same.trans hj, hlj⟩
        · rw [hl, Option.some.injEq] at hj
          exact absurd (hlj.symm.trans (hj ▸ h0)) (hw.pos hx)
    · refine ⟨fun hr => by simp [Ledger.add, hr], fun ha => ?_⟩
      cases anchor with
      | none => rw [can.anchored] at ha; exact absurd ha (by simp)
      | some k =>
        rcases add_ctx can k with ⟨-, other⟩ | ⟨-, l, -, -, linked⟩
        · exact absurd rfl other
        · exact ⟨k, _, linked, rfl⟩
  | refuse _ id _ => exact h.edit id fun _ => ⟨rfl, fun h => h, fun h => h⟩
  | join _ id k _ _ =>
    have : ReasonsOf p (w.setSlot k .filling (w.holders k + 1)) := h.of_same rfl rfl rfl
    exact this.edit id fun _ => ⟨rfl, fun h => h, fun h => h⟩
  | fill _ id k _ _ _ =>
    have : ReasonsOf p (w.setSlot k .filling 1) := h.of_same rfl rfl rfl
    exact this.edit id fun _ => ⟨rfl, fun h => h, fun h => h⟩
  | judge _ id =>
    rcases w.judge_cases id with ⟨e, -⟩ | ⟨-, -, -, -, -, e⟩
    · rw [e]; exact h
    · rw [e]
      exact (h.edit id (f := fun c => { c with isOpen := false })
        fun _ => ⟨rfl, fun h => h, fun h => h⟩).of_same rfl rfl rfl
  | hold _ k _ => exact h.of_same rfl rfl rfl
  | spoil _ k _ =>
    intro x hx hp
    obtain ⟨c, hc, rfl⟩ := List.mem_map.1 hx
    split at hp
    · next hs =>
      rw [if_pos hs]
      exact h c hc hp
    · next hs =>
      rw [if_neg hs]
      exact h c hc hp
  | scrubbed _ k _ => exact h.of_same rfl rfl rfl
  | edge => exact h.of_same rfl rfl rfl
  | mark _ k hk _ =>
    intro c hc hp
    obtain ⟨run, anchor⟩ := h c hc hp
    refine ⟨run, fun ha => ?_⟩
    obtain ⟨j, lj, hj, hlj⟩ := anchor ha
    have other : j ≠ k := fun e => by
      rw [e, hk] at hj
      exact absurd hj (by simp)
    exact ⟨j, lj, (setCtx_of_ne w other _).trans hj, hlj⟩

theorem Move.reasons {d d' : List Nat} {w w' : Ledger} (m : Move d w d' w') (hw : w.IdsSound)
    (h : w.Reasons) : w'.Reasons := fun c hc =>
  m.reasonsOf (p := fun _ => True) hw (fun c hc _ => h c hc) c hc trivial

/-! The record linked to an OPEN context is held, OPEN and anchored (R122, R125, R145). -/

/-- The ledger holds record `id`, OPEN and with its anchor open. -/
def Holds (w : Ledger) (id : Nat) : Prop :=
  ∃ c ∈ w.queue, c.id = id ∧ c.isOpen = true ∧ c.anchorOpen = true

/-- The record linked to an OPEN context is held so, and linked to no other. -/
structure Linked (w : Ledger) : Prop where
  holds : ∀ k l, w.ctx k = some l → l.linked ≠ 0 → w.Holds l.linked
  single : ∀ j k l m, j ≠ k → w.ctx j = some l → w.ctx k = some m → l.linked ≠ 0 →
    l.linked ≠ m.linked

/-- A write that keeps an OPEN record OPEN and an open anchor open. -/
theorem Holds.edit {w : Ledger} {i : Nat} (h : w.Holds i) (id : Nat) {f : Core → Core}
    (hf : ∀ c ∈ w.queue, c.id = i → c.isOpen = true → c.anchorOpen = true → c.id = id →
      (f c).id = c.id ∧ (f c).isOpen = true ∧ (f c).anchorOpen = true) : (w.edit id f).Holds i := by
  obtain ⟨c, hc, hi, ho, ha⟩ := h
  refine ⟨_, mem_edit.2 ⟨c, hc, rfl⟩, ?_⟩
  split
  · next hid =>
    obtain ⟨same, open', anchor'⟩ := hf c hc hi ho ha hid
    exact ⟨same.trans hi, open', anchor'⟩
  · exact ⟨hi, ho, ha⟩

theorem Linked.of_same {w u : Ledger} (h : w.Linked) (hc : u.ctx = w.ctx)
    (hq : ∀ i, w.Holds i → u.Holds i) : u.Linked :=
  ⟨fun k l hk h0 => hq _ (h.holds k l (hc ▸ hk) h0), fun j k l m hjk hj hk =>
    h.single j k l m hjk (hc ▸ hj) (hc ▸ hk)⟩

/-- A write to neither state nor anchor. -/
theorem Linked.edit {w : Ledger} (h : w.Linked) (id : Nat) {f : Core → Core}
    (hf : ∀ c : Core, (f c).id = c.id ∧ (f c).isOpen = c.isOpen ∧ (f c).anchorOpen = c.anchorOpen) :
    (w.edit id f).Linked :=
  h.of_same rfl fun _ hi => hi.edit id fun c _ _ ho ha _ =>
    ⟨(hf c).1, (hf c).2.1.trans ho, (hf c).2.2.trans ha⟩

/-- Every move keeps the linked records held, OPEN and anchored, each linked to one context. -/
theorem Move.linked {d d' : List Nat} {w w' : Ledger} (m : Move d w d' w') (hw : w.IdsSound)
    (h : w.Linked) : w'.Linked := by
  cases m with
  | relax _ => exact h
  | peers _ k l id _ => exact h.edit id fun _ => ⟨rfl, rfl, rfl⟩
  | rest _ id => exact h.edit id fun _ => ⟨rfl, rfl, rfl⟩
  | event _ e _ => exact h.of_same rfl fun _ hi => hi
  | upgrade _ id _ =>
    exact (h.edit id (f := fun c => { c with running := true }) fun _ => ⟨rfl, rfl, rfl⟩).of_same rfl
      fun _ hi => hi
  | unlink _ k l hk =>
    refine ⟨fun j m hj h0 => ?_, fun i j m n hij hi hj => ?_⟩
    · obtain ⟨other, hj⟩ := setCtx_none hj
      have kept : (w.setCtx k none).Holds m.linked := h.holds j m hj h0
      refine kept.edit l.linked fun c _ hid _ _ hl => ?_
      exact absurd (hid.symm.trans hl) (h.single j k m l other hj hk h0)
    · exact h.single i j m n hij (setCtx_none hi).2 (setCtx_none hj).2
  | close _ k l _ _ =>
    exact ⟨fun j m hj => h.holds j m (setCtx_none hj).2,
      fun i j m n hij hi hj => h.single i j m n hij (setCtx_none hi).2 (setCtx_none hj).2⟩
  | add _ c anchor _ can =>
    have queue := add_queue hw can.id anchor
    have kept {i : Nat} (hi : w.Holds i) : (w.add c anchor).Holds i := by
      obtain ⟨x, hx, is⟩ := hi
      exact ⟨x, by rw [queue]; exact List.mem_append_left _ hx, is⟩
    have new {j : Fin 4} {m : Link} (hj : w.ctx j = some m) (h0 : m.linked ≠ 0) : m.linked ≠ c.id := by
      obtain ⟨x, hx, hid, -⟩ := h.holds j m hj h0
      rw [← hid, can.id]
      exact hw.fresh hx
    refine ⟨fun j m hj h0 => ?_, fun i j m n hij hi hj h0 => ?_⟩
    · rcases add_ctx can j with ⟨same, -⟩ | ⟨hj', l, -, -, linked⟩
      · exact kept (h.holds j m (same ▸ hj) h0)
      · rw [linked, Option.some.injEq] at hj
        subst hj
        refine ⟨c, by rw [queue]; simp, rfl, can.isOpen, ?_⟩
        rw [can.anchored, hj']
        rfl
    · rcases add_ctx can i with ⟨samei, -⟩ | ⟨hi', l, -, -, linkedi⟩
      · rcases add_ctx can j with ⟨samej, -⟩ | ⟨-, l, -, -, linkedj⟩
        · exact h.single i j m n hij (samei ▸ hi) (samej ▸ hj) h0
        · rw [linkedj, Option.some.injEq] at hj
          subst hj
          exact new (samei ▸ hi) h0
      · rw [linkedi, Option.some.injEq] at hi
        subst hi
        rcases add_ctx can j with ⟨samej, -⟩ | ⟨hj', -⟩
        · intro e
          rw [samej] at hj
          exact new hj (e ▸ h0) e.symm
        · exact absurd (Option.some.inj (hi'.symm.trans hj')) hij
  | refuse _ id _ => exact h.edit id fun _ => ⟨rfl, rfl, rfl⟩
  | join _ id k _ _ =>
    have : (w.setSlot k .filling (w.holders k + 1)).Linked := h.of_same rfl fun _ hi => hi
    exact this.edit id fun _ => ⟨rfl, rfl, rfl⟩
  | fill _ id k _ _ _ =>
    have : (w.setSlot k .filling 1).Linked := h.of_same rfl fun _ hi => hi
    exact this.edit id fun _ => ⟨rfl, rfl, rfl⟩
  | judge _ id =>
    rcases w.judge_cases id with ⟨e, -⟩ | ⟨x, hx, hxid, -, closable, e⟩
    · rw [e]; exact h
    · rw [e]
      have closed : (w.edit id fun c => { c with isOpen := false }).Linked := by
        refine h.of_same rfl fun i hi => hi.edit id fun c hc _ _ ha hid => ?_
        obtain rfl := hw.unique hc hx (hid.trans hxid.symm)
        simp [Ledger.closable, ha] at closable
      exact closed.of_same rfl fun _ hi => hi
  | hold _ k _ => exact h.of_same rfl fun _ hi => hi
  | spoil _ k _ =>
    refine h.of_same rfl fun i ⟨c, hc, is⟩ => ⟨_, List.mem_map_of_mem hc, ?_⟩
    split <;> exact is
  | scrubbed _ k _ => exact h.of_same rfl fun _ hi => hi
  | edge => exact h.of_same rfl fun _ hi => hi
  | mark _ k _ _ =>
    have linked {j : Fin 4} {m : Link} (hj : (w.setCtx k (some ⟨0, w.now, []⟩)).ctx j = some m)
        (h0 : m.linked ≠ 0) : w.ctx j = some m := by
      by_cases hjk : j = k
      · rw [hjk, setCtx_self, Option.some.injEq] at hj
        exact absurd (by rw [← hj]) h0
      · rwa [setCtx_of_ne w hjk] at hj
    refine ⟨fun j m hj h0 => h.holds j m (linked hj h0) h0, fun i j m n hij hi hj h0 e => ?_⟩
    exact h.single i j m n hij (linked hi h0) (linked hj (e ▸ h0)) h0 e

/-! The peer verdict lists (R133). -/

/-- Every peer verdict list is sound for the own address. -/
structure PeersSound (own : Fin 16) (w : Ledger) : Prop where
  ctx : ∀ k l, w.ctx k = some l → peerListSound own l.peers
  records : ∀ c ∈ w.queue, peerListSound own c.peers

/-- A write that gives each record a sound list. -/
theorem PeersSound.edit {own : Fin 16} {w : Ledger} (h : PeersSound own w) (id : Nat) {f : Core → Core}
    (hf : ∀ c ∈ w.queue, peerListSound own (f c).peers) : PeersSound own (w.edit id f) := by
  refine ⟨h.ctx, fun x hx => ?_⟩
  obtain ⟨c, hc, rfl⟩ := mem_edit.1 hx
  split
  · exact hf c hc
  · exact h.records c hc

theorem peerListSound_nil (own : Fin 16) : peerListSound own [] :=
  ⟨List.nodup_nil, fun _ h => absurd h List.not_mem_nil⟩

/-- Every move keeps the peer verdict lists sound. -/
theorem Move.peersSound {own : Fin 16} {d d' : List Nat} {w w' : Ledger} (m : Move d w d' w')
    (h : PeersSound own w) : PeersSound own w' := by
  cases m with
  | relax _ => exact h
  | peers _ k l id hk => exact h.edit id fun _ _ => h.ctx k l hk
  | rest _ id => exact h.edit id h.records
  | event _ e _ => exact ⟨h.ctx, h.records⟩
  | upgrade _ id _ =>
    have := h.edit id (f := fun c => { c with running := true }) h.records
    exact ⟨this.ctx, this.records⟩
  | unlink _ k l _ =>
    have : PeersSound own (w.setCtx k none) := ⟨fun j m hj => h.ctx j m (setCtx_none hj).2, h.records⟩
    exact this.edit l.linked h.records
  | close _ k l _ _ => exact ⟨fun j m hj => h.ctx j m (setCtx_none hj).2, h.records⟩
  | add _ c anchor _ can =>
    refine ⟨fun j m hj => ?_, fun x hx => ?_⟩
    · rcases add_ctx can j with ⟨same, -⟩ | ⟨-, l, hl, -, linked⟩
      · exact h.ctx j m (same ▸ hj)
      · rw [linked, Option.some.injEq] at hj
        subst hj
        exact h.ctx j l hl
    · rcases List.mem_append.1 hx with old | new
      · split at old
        · exact (h.edit c.id (f := fun d => { d with anchorOpen := true }) h.records).records x old
        · exact h.records x old
      · rw [List.mem_singleton.1 new, can.peers]
        exact peerListSound_nil own
  | refuse _ id _ => exact h.edit id h.records
  | join _ id k _ _ =>
    have : PeersSound own (w.setSlot k .filling (w.holders k + 1)) := ⟨h.ctx, h.records⟩
    exact this.edit id h.records
  | fill _ id k _ _ _ =>
    have : PeersSound own (w.setSlot k .filling 1) := ⟨h.ctx, h.records⟩
    exact this.edit id h.records
  | judge _ id =>
    rcases w.judge_cases id with ⟨e, -⟩ | ⟨-, -, -, -, -, e⟩
    · rw [e]; exact h
    · rw [e]
      have := h.edit id (f := fun c => { c with isOpen := false }) h.records
      exact ⟨this.ctx, this.records⟩
  | hold _ k _ => exact ⟨h.ctx, h.records⟩
  | spoil _ k _ =>
    refine ⟨h.ctx, fun x hx => ?_⟩
    obtain ⟨c, hc, rfl⟩ := List.mem_map.1 hx
    split <;> exact h.records c hc
  | scrubbed _ k _ => exact ⟨h.ctx, h.records⟩
  | edge => exact ⟨h.ctx, h.records⟩
  | mark _ k _ _ =>
    refine ⟨fun j m hj => ?_, h.records⟩
    by_cases hjk : j = k
    · have hj : (w.setCtx k (some ⟨0, w.now, []⟩)).ctx j = some m := hj
      rw [hjk, setCtx_self, Option.some.injEq] at hj
      rw [← hj]
      exact peerListSound_nil own
    · exact h.ctx j m ((setCtx_of_ne w hjk _).symm.trans hj)

/-! The record times (R143, R146). -/

/-- No later than. -/
def upTo (a b : StationTime) : Prop := a.sec < b.sec ∨ a.sec = b.sec ∧ a.ms ≤ b.ms

/-- The record times do not decrease. -/
def Timed (w : Ledger) : Prop := (w.queue.map Core.time).Pairwise upTo

theorem upTo.trans {a b c : StationTime} (h : upTo a b) (h' : upTo b c) : upTo a c := by
  unfold upTo at *
  omega

theorem upTo_of_not_earlier {a b : StationTime} (h : b.earlier a = false) : upTo a b := by
  simp only [StationTime.earlier, Bool.or_eq_false_iff, Bool.and_eq_false_iff, decide_eq_false_iff_not,
    beq_eq_false_iff_ne] at h
  unfold upTo
  omega

theorem times_edit (w : Ledger) (id : Nat) {f : Core → Core} (h : ∀ c : Core, (f c).time = c.time) :
    (w.edit id f).queue.map Core.time = w.queue.map Core.time := by
  simp only [edit, List.map_map]
  refine List.map_congr_left fun c _ => ?_
  by_cases hc : c.id = id <;> simp [hc, h]

/-- Times that do not decrease, followed by one no earlier than the last. -/
theorem pairwise_upTo_append {ts : List StationTime} (h : ts.Pairwise upTo) {t : StationTime}
    (ht : ∀ last ∈ ts.getLast?, upTo last t) : (ts ++ [t]).Pairwise upTo := by
  refine List.pairwise_append.2 ⟨h, List.pairwise_singleton _ _, fun a ha b hb => ?_⟩
  rw [List.mem_singleton.1 hb]
  induction ts using List.reverseRecOn with
  | nil => exact absurd ha (by simp)
  | append_singleton ts last _ =>
    have latest := ht last (by simp)
    rcases List.mem_append.1 ha with hin | hlast
    · exact ((List.pairwise_append.1 h).2.2 a hin last List.mem_cons_self).trans latest
    · rw [List.mem_singleton.1 hlast]
      exact latest

/-- Every move keeps the record times from decreasing. -/
theorem Move.timed {d d' : List Nat} {w w' : Ledger} (m : Move d w d' w') (h : w.Timed) : w'.Timed := by
  have same {u : Ledger} (hu : u.queue.map Core.time = w.queue.map Core.time) : u.Timed := by
    unfold Timed
    rw [hu]
    exact h
  cases m with
  | relax _ => exact h
  | peers _ k l id _ => exact same (times_edit w id fun _ => rfl)
  | rest _ id => exact same (times_edit w id fun _ => rfl)
  | event _ e _ => exact h
  | upgrade _ id _ => exact same (times_edit w id fun _ => rfl)
  | unlink _ k l _ => exact same (times_edit w l.linked fun _ => rfl)
  | close _ k l _ _ => exact h
  | add _ c anchor _ can =>
    have old : (if anchor.isSome then (w.edit c.id fun d => { d with anchorOpen := true }).queue
        else w.queue).map Core.time = w.queue.map Core.time := by
      split
      · exact times_edit w c.id fun _ => rfl
      · rfl
    unfold Timed Ledger.add
    rw [List.map_append, old]
    refine pairwise_upTo_append h fun last hlast => ?_
    rw [List.getLast?_map, Option.mem_def, Option.map_eq_some_iff] at hlast
    obtain ⟨x, hx, rfl⟩ := hlast
    exact upTo_of_not_earlier (can.time x hx)
  | refuse _ id _ => exact same (times_edit w id fun _ => rfl)
  | join _ id k _ _ => exact same (times_edit (w.setSlot k _ _) id fun _ => rfl)
  | fill _ id k _ _ _ => exact same (times_edit (w.setSlot k _ _) id fun _ => rfl)
  | judge _ id =>
    rcases w.judge_cases id with ⟨e, -⟩ | ⟨-, -, -, -, -, e⟩
    · rw [e]; exact h
    · rw [e]; exact same (times_edit w id fun _ => rfl)
  | hold _ k _ => exact h
  | spoil _ k _ =>
    refine same ?_
    simp only [lose, List.map_map]
    exact List.map_congr_left fun c _ => by simp only [Function.comp_apply]; split <;> rfl
  | scrubbed _ k _ => exact h
  | edge => exact h
  | mark _ k _ _ => exact h

/-! The edge times (R122). -/

/-- No two OPEN contexts have one edge time, and one whose edge is now has the last edge. -/
structure EdgesDiffer (w : Ledger) : Prop where
  differ : ∀ j k l m, j ≠ k → w.ctx j = some l → w.ctx k = some m → l.edge ≠ m.edge
  last : ∀ k l, w.ctx k = some l → l.edge = w.now → w.lastEdge = some w.now

/-- A ledger whose contexts have the edges of those of `w`. -/
theorem EdgesDiffer.of_sub {w u : Ledger} (h : w.EdgesDiffer)
    (hc : ∀ k l, u.ctx k = some l → ∃ l', w.ctx k = some l' ∧ l'.edge = l.edge) (hn : u.now = w.now)
    (hl : u.lastEdge = w.lastEdge ∨ u.lastEdge = some w.now) : u.EdgesDiffer := by
  refine ⟨fun j k l m hjk hj hk => ?_, fun k l hk he => ?_⟩
  · obtain ⟨l', hl', el⟩ := hc j l hj
    obtain ⟨m', hm', em⟩ := hc k m hk
    rw [← el, ← em]
    exact h.differ j k l' m' hjk hl' hm'
  · obtain ⟨l', hl', el⟩ := hc k l hk
    rw [hn]
    rcases hl with hl | hl
    · exact hl.trans (h.last k l' hl' (el.trans (he.trans hn)))
    · exact hl

/-- Every move keeps the edge times different. -/
theorem Move.edgesDiffer {d d' : List Nat} {w w' : Ledger} (m : Move d w d' w') (h : w.EdgesDiffer) :
    w'.EdgesDiffer := by
  have same {u : Ledger} (hc : u.ctx = w.ctx) (hn : u.now = w.now)
      (hl : u.lastEdge = w.lastEdge ∨ u.lastEdge = some w.now) : u.EdgesDiffer :=
    h.of_sub (fun k l hk => ⟨l, hc ▸ hk, rfl⟩) hn hl
  cases m with
  | relax _ => exact h
  | peers _ k l id _ => exact same rfl rfl (.inl rfl)
  | rest _ id => exact same rfl rfl (.inl rfl)
  | event _ e _ => exact same rfl rfl (.inl rfl)
  | upgrade _ id _ => exact same rfl rfl (.inl rfl)
  | unlink _ k l _ => exact h.of_sub (fun j m hj => ⟨m, (setCtx_none hj).2, rfl⟩) rfl (.inl rfl)
  | close _ k l _ _ => exact h.of_sub (fun j m hj => ⟨m, (setCtx_none hj).2, rfl⟩) rfl (.inl rfl)
  | add _ c anchor _ can =>
    refine h.of_sub (fun j m hj => ?_) rfl (.inl rfl)
    rcases add_ctx can j with ⟨keeps, -⟩ | ⟨-, l, hl, -, linked⟩
    · exact ⟨m, keeps ▸ hj, rfl⟩
    · rw [linked, Option.some.injEq] at hj
      exact ⟨l, hl, by rw [← hj]⟩
  | refuse _ id _ => exact same rfl rfl (.inl rfl)
  | join _ id k _ _ => exact same rfl rfl (.inl rfl)
  | fill _ id k _ _ _ => exact same rfl rfl (.inl rfl)
  | judge _ id =>
    rcases w.judge_cases id with ⟨e, -⟩ | ⟨-, -, -, -, -, e⟩
    · rw [e]; exact h
    · rw [e]; exact same rfl rfl (.inl rfl)
  | hold _ k _ => exact same rfl rfl (.inl rfl)
  | spoil _ k _ => exact same rfl rfl (.inl rfl)
  | scrubbed _ k _ => exact same rfl rfl (.inl rfl)
  | edge => exact same rfl rfl (.inr rfl)
  | mark _ k _ hnew =>
    have older {j : Fin 4} {l : Link} (hj : w.ctx j = some l) : l.edge ≠ w.now := fun he =>
      hnew (h.last j l hj he)
    have split {j : Fin 4} {l : Link} (hj : (w.setCtx k (some ⟨0, w.now, []⟩)).ctx j = some l) :
        j = k ∧ l.edge = w.now ∨ j ≠ k ∧ w.ctx j = some l := by
      by_cases hjk : j = k
      · rw [hjk, setCtx_self, Option.some.injEq] at hj
        exact .inl ⟨hjk, by rw [← hj]⟩
      · exact .inr ⟨hjk, by rwa [setCtx_of_ne w hjk] at hj⟩
    refine ⟨fun i j l m hij hi hj => ?_, fun j l hj he => rfl⟩
    rcases split hi with ⟨ik, el⟩ | ⟨ik, hi⟩
    · rcases split hj with ⟨jk, em⟩ | ⟨-, hj⟩
      · exact absurd (ik.trans jk.symm) hij
      · rw [el]; exact (older hj).symm
    · rcases split hj with ⟨-, em⟩ | ⟨-, hj⟩
      · rw [em]; exact older hi
      · exact h.differ i j l m hij hi hj

end Ledger

end Sys2Proof.Machine
end

section
/-! What the shared operations keep, the operations of the detector, of the mark line and of a stop
keep (ch. 4, 6, 8 and R184). -/

namespace Sys2Proof.Machine

/-- A record rewritten: it keeps its id, and UNSENT once set (R120, R132). -/
structure Record.Edited (r x : Record) : Prop where
  id : x.id = r.id
  unsent : r.flags.unsent = true → x.flags.unsent = true

theorem Record.Edited.refl (r : Record) : r.Edited r := ⟨rfl, fun h => h⟩

theorem Record.Edited.trans {r x y : Record} (h : r.Edited x) (h' : x.Edited y) : r.Edited y :=
  ⟨h'.id.trans h.id, fun u => h'.unsent (h.unsent u)⟩

theorem State.copyResults_edited (s : State) (c : Context) (blocks : Bool) (r : Record) :
    r.Edited (s.copyResults c blocks r) := by
  have unsent (h : r.flags.unsent = true) : (r.flags.unsent || c.unsent) = true := by simp [h]
  unfold State.copyResults
  cases blocks with
  | false => exact ⟨rfl, unsent⟩
  | true => cases c.own <;> exact ⟨rfl, unsent⟩

theorem State.earlyCopy_edited (s : State) (c : Context) (r : Record) :
    r.Edited (s.earlyCopy c r) := by
  unfold State.earlyCopy
  split
  · exact s.copyResults_edited c _ r
  · exact (s.copyResults_edited c false r).trans ⟨rfl, fun h => h⟩

theorem rewriteSympathetic_edited (es : List Refresh) (r : Record) :
    r.Edited (rewriteSympathetic es r) := by
  unfold rewriteSympathetic
  split
  · exact ⟨rfl, fun h => h⟩
  · exact .refl r

/-- A property that the operations keep of which the detector, the correlation unit and the mark
line interface are made. -/
structure Calm (P : State → Prop) : Prop where
  capture : ∀ s id a failed, P s → P (s.captureRequest id a failed)
  add : ∀ s r t, s.hasRoom = true → P s → P (s.addRecord r t)
  edit : ∀ s id f, (∀ r : Record, r.Edited (f r)) → P s → P (s.editRecord id f)
  judge : ∀ s id, P s → P (s.judge id)
  tally : ∀ s c r m d, P s → P (s.handToTally c r m d)
  contexts : ∀ s (x : Vector (Option Context) 4),
    (∀ k : Fin 4, s.corr.slots[k] = none → x[k] = none ∨ s.corr.view = .run) →
    P s → P (s.withCorr { s.corr with slots := x })
  det : ∀ s x, x.handed = s.det.handed → P s → P (s.withDet x)
  ends : ∀ s n, P s → P (s.withRef { s.ref with endReports := n })
  edge : ∀ s x, x.view = s.mark.view → (x.drive = s.mark.drive ∨ s.mark.view = .run) →
    P s → P (s.withMark x)

/-- Of the two outcomes of a test. -/
theorem ite_keeps {P : State → Prop} {c : Prop} [Decidable c] {t u : State} (ht : P t) (hu : P u) :
    P (if c then t else u) := by split <;> assumption

theorem foldl_keeps {α : Type} {P : State → Prop} {f : State → α → State}
    (h : ∀ s a, P s → P (f s a)) (l : List α) {s : State} (hs : P s) : P (l.foldl f s) := by
  induction l generalizing s with
  | nil => exact hs
  | cons a l ih => exact ih (h s a hs)

namespace Calm

variable {P : State → Prop}

/-- A context that closes, or is changed where it is OPEN. -/
theorem setContext (h : Calm P) {s : State} (k : Fin 4) (c : Option Context)
    (hc : s.corr.slots[k] = none → c = none ∨ s.corr.view = .run) (hs : P s) : P (s.setContext k c) := by
  refine h.contexts s _ (fun j hj => ?_) hs
  by_cases hjk : j = k
  · subst hjk
    simpa using hc hj
  · left
    simpa [Vector.getElem_set_ne (h := Ne.symm (Fin.val_ne_of_ne hjk))] using hj

theorem editContext (h : Calm P) {s : State} (k : Fin 4) (f : Context → Context) (hs : P s) :
    P (s.editContext k f) := h.setContext k _ (fun hn => .inl (by rw [hn]; rfl)) hs

theorem linkRecord (h : Calm P) {s : State} (k : Fin 4) (id : Nat) (hs : P s) :
    P (s.linkRecord k id) :=
  h.edit _ _ _ (fun _ => ⟨rfl, fun u => u⟩) (h.editContext _ _ hs)

theorem makeSympathetic (h : Calm P) {s : State} (k : Fin 4) (edge : Ms) (failed : Option (Fin 9))
    (hs : P s) : P (s.makeSympathetic k edge failed) := by
  unfold State.makeSympathetic
  split
  · next room => exact h.capture _ _ _ _ (h.linkRecord k _ (h.add s _ _ room hs))
  · exact h.tally _ _ _ _ _ hs

theorem openContext (h : Calm P) {s : State} (hv : s.corr.view = .run) (k : Fin 4) (edge : Ms)
    (failed : Option (Fin 9)) (hs : P s) : P (s.openContext k edge failed) := by
  have opened : P (s.setContext k (some (s.newContext edge))) := h.setContext k _ (fun _ => .inr hv) hs
  exact ite_keeps (h.makeSympathetic k edge failed opened) opened

/-- A context opens in RUN alone (R122). -/
theorem view_of_edgeOpens {s : State} {k : Fin 4} (h : s.edgeOpens = some k) :
    s.corr.view = .run := by
  unfold State.edgeOpens at h
  split at h
  · next hr => exact beq_iff_eq.1 (Bool.and_eq_true _ _ ▸ hr).2
  · exact absurd h (by simp)

theorem takeFallingEdge (h : Calm P) {s : State} (failed : Option (Fin 9)) (hs : P s) :
    P (s.takeFallingEdge failed) := by
  have fallen := h.edge s (s.mark.falling s.now) rfl (.inl rfl) hs
  unfold State.takeFallingEdge
  split
  · exact fallen
  · next k hk =>
    have view : (s.withMark (s.mark.falling s.now)).corr.view = .run := view_of_edgeOpens (s := s) hk
    exact h.openContext view _ _ failed
      fallen

/-- A pulse is the answer in RUN alone (R90). -/
theorem view_of_pulse {s : State} {tn : Ms} (h : s.anchorAnswer tn = .pulse) : s.mark.view = .run := by
  by_contra hv
  rw [State.anchorAnswer, if_pos hv] at h
  exact absurd h (by simp)

theorem afterAnchor (h : Calm P) {s : State} (tn : Ms) (hs : P s) : P (s.afterAnchor tn) := by
  unfold State.afterAnchor
  cases ha : s.anchorAnswer tn with
  | none => exact hs
  | context k => exact hs
  | pulse => exact h.takeFallingEdge none (h.edge _ _ rfl (.inr (view_of_pulse ha)) hs)

theorem obtainRecord (h : Calm P) {s : State} (m : Measurement) (expiry : Ms)
    (anchor : Option (Fin 4)) (unanchored : Bool) (failed : Option (Fin 9)) (hs : P s) :
    P (s.obtainRecord m expiry anchor unanchored failed) := by
  unfold State.obtainRecord
  split
  · next room =>
    have added := h.add s (eventRecord m unanchored) m.time room hs
    refine h.capture _ _ _ _ (h.det _ _ rfl ?_)
    split
    · exact added
    · exact h.linkRecord _ _ added
  · exact hs

theorem takeAnchoring (h : Calm P) {s : State} (k : Fin 4) (n : RefIndex) (hs : P s) :
    P (s.takeAnchoring k n) := ite_keeps hs (h.editContext _ _ hs)

theorem anchorEvent (h : Calm P) {s : State} (m : Measurement) (expiry : Ms)
    (failed : Option (Fin 9)) {between : State → State} (hb : ∀ u, P u → P (between u)) (hs : P s) :
    P (s.anchorEvent m expiry failed between) := by
  have answered := hb _ (h.afterAnchor m.time hs)
  simp only [State.anchorEvent]
  split
  · exact h.obtainRecord _ _ _ _ _ answered
  · split
    · exact h.obtainRecord _ _ _ _ _ answered
    · next k _ _ =>
      have anchored := h.takeAnchoring k m.crossing answered
      split
      · exact h.obtainRecord _ _ _ _ _ anchored
      · split
        · exact h.det _ _ rfl (h.edit _ _ _ (fun _ => ⟨rfl, fun u => u⟩) anchored)
        · exact h.obtainRecord _ _ _ _ _ anchored

theorem finishEvent (h : Calm P) {s : State} (m : Measurement) (id halves durationMs : Nat)
    (ongoing aborted : Bool) (hs : P s) : P (s.finishEvent m id halves durationMs ongoing aborted) :=
  ite_keeps (h.tally _ _ _ _ _ hs) (h.judge _ _ (h.edit _ _ _ (fun _ => ⟨rfl, fun u => u⟩) hs))

theorem takeReturn (h : Calm P) {s : State} (m : Measurement) (ongoingId : Nat) (e : Refresh)
    (failed : Option (Fin 9)) (hs : P s) : P (s.takeReturn m ongoingId e failed) := by
  refine h.det _ _ rfl (h.ends _ _ ?_)
  split
  · next room => exact h.judge _ _ (h.capture _ _ _ _ (h.add s _ _ room hs))
  · exact h.tally _ _ _ _ _ hs

theorem judgeRefresh (h : Calm P) {s : State} (e : Refresh) (failed : Option (Fin 9))
    {between : State → State} (hb : ∀ u, P u → P (between u)) (hs : P s) :
    P (s.judgeRefresh e failed between) := by
  simp only [State.judgeRefresh]
  split
  · exact ite_keeps (h.det _ _ rfl hs) (h.anchorEvent _ _ failed hb (h.det _ _ rfl hs))
  · refine ite_keeps (h.det _ _ rfl (h.ends _ _ (h.finishEvent _ _ _ _ _ _ hs))) ?_
    exact ite_keeps (h.det _ _ rfl hs) (h.edit _ _ _ (fun _ => ⟨rfl, fun u => u⟩) (h.det _ _ rfl hs))
  · exact ite_keeps (h.takeReturn _ _ _ _ hs) (h.det _ _ rfl hs)

theorem detectorTakes (h : Calm P) {s : State} (failed : Option (Fin 9)) {between : State → State}
    (hb : ∀ u, P u → P (between u))
    (hd : ∀ u l, P u → P (u.withDet { u.det with handed := l })) (hs : P s) : P (s.detectorTakes failed between) := by
  unfold State.detectorTakes
  split
  · exact hs
  · exact ite_keeps (h.judgeRefresh _ failed hb (hd _ _ hs)) (hd _ _ hs)

theorem detTakesStop (h : Calm P) {s : State} (hs : P s) : P s.detTakesStop := by
  unfold State.detTakesStop
  split
  · exact h.det _ _ rfl hs
  · exact h.det _ _ rfl (h.finishEvent _ _ _ _ _ _ hs)
  · refine h.det _ _ rfl ?_
    split
    · next room => exact h.judge _ _ (h.add s _ _ room hs)
    · exact h.tally _ _ _ _ _ hs

theorem freeContext (h : Calm P) {s : State} (k : Fin 4) (linked : Nat) (hs : P s) :
    P (s.freeContext k linked) :=
  have closed : P (s.setContext k none) := h.setContext k none (fun _ => .inl rfl) hs
  ite_keeps closed (h.judge _ _ (h.edit _ _ _ (fun _ => ⟨rfl, fun u => u⟩) closed))

theorem earlyClose (h : Calm P) {s : State} (k : Fin 4) (hs : P s) : P (s.earlyClose k) := by
  unfold State.earlyClose
  split
  · exact hs
  · exact h.freeContext k _ (ite_keeps hs (h.edit _ _ _ (s.earlyCopy_edited _) hs))

theorem dropReport (h : Calm P) {s : State} (edge : Ms) (id : Nat) (hs : P s) :
    P (s.dropReport edge id) := by
  have marked := h.contexts s (Vector.ofFn fun k => s.corr.slots[k].map fun c =>
    if c.edge = edge then { c with unsent := true } else c) (fun k hk => .inl (by
      simp only [Fin.getElem_fin] at hk
      simp only [Fin.getElem_fin, Vector.getElem_ofFn, hk, Option.map_none])) hs
  exact ite_keeps marked (h.edit _ _ _ (fun _ => ⟨rfl, fun _ => rfl⟩) marked)

theorem reportFrame (h : Calm P) {s : State} (f : QueuedFrame) (hs : P s) : P (s.reportFrame f) := by
  unfold State.reportFrame
  split
  · exact hs
  · exact ite_keeps hs (h.dropReport _ _ hs)

theorem reportQueue (h : Calm P) {s : State} (hs : P s) : P s.reportQueue :=
  foldl_keeps (fun _ f hu => h.reportFrame f hu) _ hs

end Calm

/-- A property that the blocks keep too as they take a stop (R184). -/
structure CalmBlocks (P : State → Prop) (k : Stop) : Prop extends Calm P where
  store : ∀ s, P s → P (s.storeTakes k.view)
  link : ∀ s, P s → P (s.linkStops k)
  clear : k ≠ .halt → ∀ s, P s → P s.linkClearsPeers
  mark : ∀ s, P s → P (s.markStops k)
  corr : ∀ s, P s → P (s.withCorr { s.corr with view := k.view })
  cap : ∀ s, P s → P (s.capStops k)
  agg : ∀ s, P s → P s.aggTakesStop

/-- A property that the readers keep too that may take a refresh within a stop (R29). -/
structure CalmStop (P : State → Prop) (k : Stop) : Prop extends CalmBlocks P k where
  handed : ∀ s l, P s → P (s.withDet { s.det with handed := l })
  tracker : ∀ s, P s → P s.trackerTakes
  report : ∀ s, P s → P s.trackerTakesReport
  correlation : ∀ s, P s → P s.correlationTakes
  aggregator : ∀ s, P s → P s.aggregatorTakes
  free : ∀ s n, P s → P (s.withFree n)

namespace CalmBlocks

variable {P : State → Prop} {k : Stop}

theorem corrStops (h : CalmBlocks P k) {s : State} (hs : P s) : P (s.corrStops k) := by
  have closed : P (s.corrTakesStop k.view) :=
    foldl_keeps (fun _ j hu => h.toCalm.earlyClose j hu) _ (h.corr s hs)
  match k, h, closed with
  | .halt, _, closed => exact closed
  | .restart _ true, h, closed => exact h.clear nofun _ closed
  | .restart _ false, _, closed => exact closed

theorem stopBlocks (h : CalmBlocks P k) {s : State} (p : StopPhase) (detectorFirst : Bool) (hs : P s) :
    P (s.stopBlocks k p detectorFirst) := by
  have on {s : State} (c : Bool) {f : State → State} (hf : ∀ u, P u → P (f u)) (hs : P s) :
      P (s.when c f) := State.when_keeps s c f hs (hf s hs)
  have corr (u : State) (hu : P u) : P (u.corrStops k) := h.corrStops hu
  have start := on p.mark (h.mark) (on p.link h.link (on p.store h.store hs))
  refine on p.agg h.agg (on p.cap h.cap ?_)
  exact ite_keeps (on p.corr corr (on p.det (fun u => h.toCalm.detTakesStop) start))
    (on p.det (fun u => h.toCalm.detTakesStop) (on p.corr corr start))

end CalmBlocks

namespace CalmStop

variable {P : State → Prop} {k : Stop}

theorem readersTake (h : CalmStop P k) {s : State} (o : StopOrder) (failed : Option (Fin 9))
    (hs : P s) : P (s.readersTake k o failed) := by
  have on {s : State} (c : Bool) {f : State → State} (hf : ∀ u, P u → P (f u)) (hs : P s) :
      P (s.when c f) := State.when_keeps s c f hs (hf s hs)
  have det (u : State) (hu : P u) : P (u.when (o.detTakes && !o.detEarly) fun x =>
      x.detectorTakes failed fun st => st.when (o.corrWithin && !o.corrEarly) fun x => x.corrStops k) :=
    on _ (fun v => h.toCalm.detectorTakes failed (fun w hw => on _ (fun _ => h.corrStops) hw) h.handed) hu
  have corr (u : State) (hu : P u) : P (u.when (o.corrTakes && !o.corrEarly && u.corr.view == .run)
      State.correlationTakes) := on _ h.correlation hu
  have tracked := on o.trackerTakes h.tracker hs
  refine on _ h.aggregator (on _ h.report ?_)
  exact ite_keeps (det _ (corr _ tracked)) (corr _ (det _ tracked))

theorem takeStop (h : CalmStop P k) {s : State} (o : StopOrder) (failed : Option (Fin 9))
    {act : State → State} (hact : ∀ u, P u → P (act u)) (hs : P s) :
    P (s.takeStop k o failed act) := by
  refine h.free _ _ (h.stopBlocks _ _ ?_)
  exact State.when_keeps _ _ _ (hact _ (h.stopBlocks _ _ hs))
    (h.readersTake o failed (hact _ (h.stopBlocks _ _ hs)))

end CalmStop

end Sys2Proof.Machine
end

section
/-! The capture unit rewrites records and fills slots: it creates no record, and a slot is filled by
one position at a time (ch. 5). -/

namespace Sys2Proof.Machine

/-- Records are rewritten in place, the rest of the store standing. -/
structure Rewrites (s u : State) : Prop where
  store : u.store = { s.store with queue := u.store.queue }
  length : u.store.queue.length = s.store.queue.length

theorem Rewrites.refl (s : State) : Rewrites s s := ⟨rfl, rfl⟩

theorem Rewrites.trans {s t u : State} (h : Rewrites s t) (h' : Rewrites t u) : Rewrites s u :=
  ⟨by rw [h'.store, h.store], h'.length.trans h.length⟩

theorem Rewrites.of_eq {s u : State} (h : u.store = s.store) : Rewrites s u := ⟨by rw [h], by rw [h]⟩

/-- The same from a state with the same store. -/
theorem Rewrites.after {s t u : State} (h : Rewrites t u) (e : t.store = s.store) : Rewrites s u :=
  (Rewrites.of_eq e).trans h

theorem Rewrites.ite {s t u : State} {c : Prop} [Decidable c] (ht : Rewrites s t)
    (hu : Rewrites s u) : Rewrites s (if c then t else u) := by split <;> assumption

theorem Rewrites.foldl {α : Type} {f : State → α → State} (h : ∀ s a, Rewrites s (f s a))
    (l : List α) (s : State) : Rewrites s (l.foldl f s) := by
  induction l generalizing s with
  | nil => exact .refl s
  | cons a l ih => exact (h s a).trans (ih _)

theorem State.editRecord_rewrites (s : State) (id : Nat) (f : Record → Record) :
    Rewrites s (s.editRecord id f) := ⟨rfl, s.editRecord_length id f⟩

theorem State.judge_rewrites (s : State) (id : Nat) : Rewrites s (s.judge id) := by
  rcases s.judge_cases id with e | ⟨r, -, -, -, e⟩
  · rw [e]; exact .refl s
  · rw [e]
    exact (s.editRecord_rewrites id (closedRecord s.store.view)).trans (.of_eq rfl)

theorem State.judgeAll_rewrites (s : State) (ids : List Nat) : Rewrites s (s.judgeAll ids) :=
  .foldl State.judge_rewrites ids s

theorem State.judge_cap (s : State) (id : Nat) : (s.judge id).cap = s.cap :=
  (s.judge_frame id).only.1 .cap (by decide)

theorem State.judgeAll_cap (s : State) (ids : List Nat) : (s.judgeAll ids).cap = s.cap :=
  (s.judgeAll_frame ids).only.1 .cap (by decide)

theorem State.setSlot_slot (s : State) (k : Fin 8) (x : Slot) (j : Fin 8) :
    (s.setSlot k x).cap.slots[j] = if j = k then x else s.cap.slots[j] := by
  simp only [State.setSlot, State.withCap_cap, Fin.getElem_fin]
  by_cases h : j = k
  · simp [h]
  · simp [h, Ne.symm (Fin.val_ne_of_ne h)]

/-- How far each slot is filled. -/
def State.filled (s : State) (k : Fin 8) : Nat := s.cap.slots[k].filled

theorem State.setSlot_filled (s : State) (k : Fin 8) (x : Slot) (j : Fin 8) :
    (s.setSlot k x).filled j = if j = k then x.filled else s.filled j := by
  unfold State.filled
  rw [State.setSlot_slot]
  split <;> rfl

/-- A slot that keeps its filled count. -/
theorem State.setSlot_filled_self (s : State) (k : Fin 8) {x : Slot}
    (h : x.filled = s.cap.slots[k].filled) : (s.setSlot k x).filled = s.filled := by
  funext j
  rw [State.setSlot_filled]
  split
  · next hj => subst hj; exact h
  · rfl

theorem State.stopFill_rewrites (s : State) : Rewrites s s.stopFill := by
  unfold State.stopFill
  split
  · exact .refl s
  · exact (State.judgeAll_rewrites _ _).after rfl

theorem State.stopFill_filled (s : State) : s.stopFill.filled = s.filled := by
  unfold State.stopFill
  split
  · rfl
  · unfold State.filled
    rw [State.judgeAll_cap]
    exact State.setSlot_filled_self s _ rfl

theorem State.loseHolders_rewrites (s : State) (k : Fin 8) : Rewrites s (s.loseHolders k) :=
  ⟨rfl, by simp [State.loseHolders]⟩

theorem State.loseHolders_filled (s : State) (k : Fin 8) : (s.loseHolders k).filled = s.filled :=
  State.setSlot_filled_self (s.withStore _) k rfl

theorem State.spoilSlot_rewrites (s : State) (k : Fin 8) (e : Option Ms) :
    Rewrites s (s.spoilSlot k e) :=
  .ite ((s.loseHolders_rewrites k).trans ((State.judgeAll_rewrites _ _).after rfl)) (.refl s)

theorem State.spoilSlot_filled (s : State) (k : Fin 8) (e : Option Ms) :
    (s.spoilSlot k e).filled = s.filled := by
  unfold State.spoilSlot
  split
  · have lost := (State.setSlot_filled_self (s.loseHolders k) k
      (x := { (s.loseHolders k).cap.slots[k] with state := .scrubbing, scrubEnd := e }) rfl).trans
      (s.loseHolders_filled k)
    rw [← lost]
    unfold State.filled
    rw [State.judgeAll_cap]
  · rfl

theorem State.memoryError_rewrites (s : State) (k : Fin 8) : Rewrites s (s.memoryError k) := by
  unfold State.memoryError
  split
  · exact (State.spoilSlot_rewrites _ k none).after rfl
  · split
    · have spoiled : Rewrites s (((s.raise .slotError k.val).raise .captureOff k.val).spoilSlot k none) :=
        (State.spoilSlot_rewrites _ k none).after rfl
      exact spoiled.trans ((State.stopFill_rewrites _).after rfl)
    · exact (State.spoilSlot_rewrites _ k _).after rfl

theorem State.memoryError_filled (s : State) (k : Fin 8) : (s.memoryError k).filled = s.filled := by
  unfold State.memoryError
  split
  · exact State.spoilSlot_filled _ k none
  · split
    · refine (State.stopFill_filled _).trans (Eq.trans ?_
        (State.spoilSlot_filled ((s.raise .slotError k.val).raise .captureOff k.val) k none))
      funext j
      simp [State.filled, State.abandonScrubs]
    · exact State.spoilSlot_filled _ k _

theorem Slot.put_filled_le (sl : Slot) (j : Nat) (hc : HalfCycle) :
    (sl.put j hc).filled ≤ sl.filled + 1 := by
  unfold Slot.put
  split
  · exact le_rfl
  · exact Nat.le_succ _

theorem State.copyPosition_rewrites (s : State) (k : Fin 8) (j : Nat) (hc : HalfCycle) (fails : Bool) :
    Rewrites s (s.copyPosition k j hc fails) :=
  .ite (.ite ((State.memoryError_rewrites _ k).after rfl) (.of_eq rfl)) (.refl s)

/-- A copy fills its own slot by one position at most. -/
theorem State.copyPosition_filled_le (s : State) (k : Fin 8) (j : Nat) (hc : HalfCycle) (fails : Bool)
    (i : Fin 8) :
    (s.copyPosition k j hc fails).filled i ≤ s.filled i + if i = k then 1 else 0 := by
  have put : (s.setSlot k (s.cap.slots[k].put j hc)).filled i ≤ s.filled i + if i = k then 1 else 0 := by
    rw [State.setSlot_filled]
    split
    · next hi => subst hi; exact Slot.put_filled_le _ j hc
    · exact le_rfl
  unfold State.copyPosition
  split
  · split
    · rw [State.memoryError_filled]; exact put
    · exact put
  · exact Nat.le_add_right _ _

theorem State.openSlot_rewrites (s : State) (k : Fin 8) (id : Nat) (a newest : RefIndex)
    (failed : Option (Fin 9)) : Rewrites s (s.openSlot k id a newest failed) := by
  have opened (x : Slot) : Rewrites s ((s.setSlot k x).writeWave id (.present k 8)) :=
    (State.editRecord_rewrites _ id _).after rfl
  exact (opened _).trans (.foldl (fun st j => st.copyPosition_rewrites k j _ _) _ _)

/-- A slot just opened is filled by nine positions at most. -/
theorem State.openSlot_filled_le (s : State) (k : Fin 8) (id : Nat) (a newest : RefIndex)
    (failed : Option (Fin 9)) (i : Fin 8) :
    (s.openSlot k id a newest failed).filled i ≤ if i = k then 9 else s.filled i := by
  have copies (l : List Nat) (hc : Nat → HalfCycle) (fails : Nat → Bool) (u : State) :
      (l.foldl (fun st j => st.copyPosition k j (hc j) (fails j)) u).filled i ≤
        u.filled i + if i = k then l.length else 0 := by
    induction l generalizing u with
    | nil => simp
    | cons j l ih =>
      have one := u.copyPosition_filled_le k j (hc j) (fails j) i
      have more := ih (u.copyPosition k j (hc j) (fails j))
      rw [List.foldl_cons, List.length_cons]
      split_ifs at one more ⊢ <;> omega
  unfold State.openSlot
  dsimp only
  refine (copies _ _ _ _).trans ?_
  have opened (x : Slot) (hx : x.filled = 0) :
      ((s.setSlot k x).writeWave id (.present k 8)).filled i = if i = k then 0 else s.filled i := by
    rw [← hx]
    exact s.setSlot_filled k x i
  rw [opened _ rfl, List.length_range]
  split_ifs <;> omega

theorem State.captureRequest_rewrites (s : State) (id : Nat) (a : RefIndex)
    (failed : Option (Fin 9)) : Rewrites s (s.captureRequest id a failed) := by
  have wave (u : State) (p : WavePart) : Rewrites u (u.writeWave id p) := u.editRecord_rewrites id _
  unfold State.captureRequest
  refine .ite (wave _ _) ?_
  split
  · exact wave _ _
  · split
    · exact .ite ((wave _ _).after rfl) (wave _ _)
    · split
      · exact s.openSlot_rewrites _ _ _ _ _
      · exact wave _ _

theorem State.captureRequest_filled (s : State) (id : Nat) (a : RefIndex) (failed : Option (Fin 9))
    (h : ∀ k, s.filled k ≤ 40) (k : Fin 8) : (s.captureRequest id a failed).filled k ≤ 40 := by
  have wave (u : State) (p : WavePart) : (u.writeWave id p).filled = u.filled := rfl
  unfold State.captureRequest
  split
  · exact h k
  split
  · exact h k
  split
  · dsimp only
    split
    · rw [wave, State.setSlot_filled_self _ _ (by rfl)]; exact h k
    · exact h k
  split
  · next j _ =>
    have opened := s.openSlot_filled_le j id a ‹Refresh›.index failed k
    have := h k
    split_ifs at opened <;> omega
  · exact h k

theorem State.fillCopy_rewrites (s : State) (m : RefIndex) (fails : Bool) :
    Rewrites s (s.fillCopy m fails) := by
  unfold State.fillCopy
  split
  · exact .refl s
  · exact .ite (.ite ((s.copyPosition_rewrites _ _ _ fails).trans (State.stopFill_rewrites _))
      (s.copyPosition_rewrites _ _ _ fails)) (.refl s)

theorem State.fillCopy_filled (s : State) (m : RefIndex) (fails : Bool) (h : ∀ k, s.filled k ≤ 40)
    (j : Fin 8) : (s.fillCopy m fails).filled j ≤ 40 := by
  unfold State.fillCopy
  split
  · exact h j
  next k _ =>
  dsimp only
  split
  · next room =>
    have copied := s.copyPosition_filled_le k ((m - s.cap.slots[k].first).toNat - 1)
      (ringSegment s.cfe.rings (segmentBack s.cfe.pos 0)) fails j
    have before : s.filled j + (if j = k then 1 else 0) ≤ 40 := by
      split
      · next hj => subst hj; unfold State.filled; omega
      · exact h j
    split
    · rw [State.stopFill_filled]; exact copied.trans before
    · exact copied.trans before
  · exact h j

theorem State.capStops_rewrites (s : State) (k : Stop) : Rewrites s (s.capStops k) := by
  have stopped (view : StationState) : Rewrites s (s.withCap { s.cap with view := view }).stopFill :=
    (State.stopFill_rewrites _).after rfl
  cases k with
  | halt => exact stopped _
  | restart low tableFirst => exact (stopped .config).trans (.of_eq rfl)

theorem State.capStops_filled (s : State) (k : Stop) : (s.capStops k).filled = s.filled := by
  have stopped (view : StationState) : (s.withCap { s.cap with view := view }).stopFill.filled = s.filled :=
    (State.stopFill_filled _).trans rfl
  cases k with
  | halt => exact stopped _
  | restart low tableFirst =>
    refine Eq.trans (funext fun j => ?_) (stopped .config)
    simp only [State.capStops, State.capTakesRestart, State.filled, State.withCap_cap, Fin.getElem_fin,
      Vector.getElem_ofFn]
    split <;> rfl

end Sys2Proof.Machine
end

section
/-! The counts of the state tables stay in their ranges. -/

namespace Sys2Proof.Machine

/-- The ranges of the counts, one field a count. -/
structure Fits (s : State) : Prop where
  hold : ∀ k : Fin 8, s.cfe.ch[k].hold ≤ 128
  valid : s.cfe.trk.validCount ≤ 5
  fill : s.rms.fill ≤ 128
  history : s.rms.history.length ≤ 4
  settle : ∀ k : Fin 3, s.ref.d[k].settle ≤ 100
  filled : ∀ k, s.filled k ≤ 40
  frames : s.link.queue.length ≤ 8
  attempts : s.link.attempts ≤ 7
  records : s.store.queue.length ≤ 48
  nextId : 1 ≤ s.store.nextId ∧ s.store.nextId ≤ 65535
  ring : s.agg.ring.length ≤ 144
  unmatched : ∀ a : Fin 16, s.link.peers[a].unmatched ≤ 255
  tally : ∀ c : Fin 5, s.store.tally[c].count ≤ 65535

theorem State.withinCapacity_iff (s : State) : s.withinCapacity ↔ Fits s :=
  ⟨fun ⟨a, b, c, d, e, f, g, h, i, j, k, l, m⟩ => ⟨a, b, c, d, e, f, g, h, i, j, k, l, m⟩,
    fun ⟨a, b, c, d, e, f, g, h, i, j, k, l, m⟩ => ⟨a, b, c, d, e, f, g, h, i, j, k, l, m⟩⟩

/-- Records rewritten in place, and slots filled within their size: the ranges stand. -/
theorem Fits.rewrites {s u : State} (h : Fits s) (frame : Frame [.cap, .store, .ctl] s u)
    (hr : Rewrites s u) (hf : ∀ k, u.filled k ≤ 40) : Fits u := by
  have cfe : u.cfe = s.cfe := frame.only.1 .cfe (by decide)
  have rms : u.rms = s.rms := frame.only.1 .rms (by decide)
  have ref : u.ref = s.ref := frame.only.1 .ref (by decide)
  have link : u.link = s.link := frame.only.1 .link (by decide)
  have agg : u.agg = s.agg := frame.only.1 .agg (by decide)
  exact ⟨cfe ▸ h.hold, cfe ▸ h.valid, rms ▸ h.fill, rms ▸ h.history, ref ▸ h.settle, hf,
    link ▸ h.frames, link ▸ h.attempts, hr.length ▸ h.records, by rw [hr.store]; exact h.nextId,
    agg ▸ h.ring, link ▸ h.unmatched, by rw [hr.store]; exact h.tally⟩

theorem TallySet.add_count_le (t : TallySet) (r m d : Nat) : (t.add r m d).count ≤ 65535 := by
  simp only [TallySet.add]
  omega

theorem Fits.calm : Calm Fits where
  capture s id a failed h :=
    h.rewrites (s.captureRequest_frame id a failed) (s.captureRequest_rewrites id a failed)
      (s.captureRequest_filled id a failed h.filled)
  add s r t room h := by
    have store := s.addRecord_store r t
    have frame := (s.addRecord_frame r t).only.1
    have cfe : (s.addRecord r t).cfe = s.cfe := frame .cfe (by decide)
    have rms : (s.addRecord r t).rms = s.rms := frame .rms (by decide)
    have ref : (s.addRecord r t).ref = s.ref := frame .ref (by decide)
    have link : (s.addRecord r t).link = s.link := frame .link (by decide)
    have agg : (s.addRecord r t).agg = s.agg := frame .agg (by decide)
    have cap : (s.addRecord r t).cap = s.cap := frame .cap (by decide)
    have room : s.store.queue.length < 48 := of_decide_eq_true room
    refine ⟨cfe ▸ h.hold, cfe ▸ h.valid, rms ▸ h.fill, rms ▸ h.history, ref ▸ h.settle, fun k => ?_,
      link ▸ h.frames, link ▸ h.attempts, ?_, ?_, agg ▸ h.ring, link ▸ h.unmatched, ?_⟩
    · unfold State.filled; rw [cap]; exact h.filled k
    · rw [store]; simpa using room
    · rw [store]; exact nextRecordId_range _
    · rw [store]; exact h.tally
  edit s id f _ h := { h with records := by rw [s.editRecord_length id f]; exact h.records }
  judge s id h :=
    h.rewrites ((s.judge_frame id).mono (by simp)) (s.judge_rewrites id) fun k => by
      unfold State.filled; rw [s.judge_cap]; exact h.filled k
  tally s c r m d h := { h with
    tally := fun k => by
      simp only [State.handToTally, State.withStore_store, Fin.getElem_fin]
      by_cases hk : k = c.index
      · subst hk
        simp only [Vector.getElem_set_self]
        exact TallySet.add_count_le _ r m d
      · rw [Vector.getElem_set_ne (h := Ne.symm (Fin.val_ne_of_ne hk))]
        exact h.tally k }
  contexts s x _ h := { h with }
  det s x _ h := { h with }
  ends s n h := { h with }
  edge s x _ _ h := { h with }

/-! The notice link (ch. 7). -/

/-- The ranges of the counts of the notice link. -/
structure NoticeLink.Fits (l : NoticeLink) : Prop where
  frames : l.queue.length ≤ 8
  attempts : l.attempts ≤ 7
  unmatched : ∀ a : Fin 16, l.peers[a].unmatched ≤ 255

theorem Fits.link {s : State} (h : Fits s) : s.link.Fits := ⟨h.frames, h.attempts, h.unmatched⟩

theorem Fits.withLink {s : State} (h : Fits s) {x : NoticeLink} (hx : x.Fits) : Fits (s.withLink x) :=
  { h with frames := hx.frames, attempts := hx.attempts, unmatched := hx.unmatched }

theorem NoticeLink.Fits.enqueue {l : NoticeLink} (h : l.Fits) (room : l.queue.length < 8)
    (f : QueuedFrame) : (l.enqueue f).Fits :=
  { h with frames := by simpa [NoticeLink.enqueue] using room }

theorem NoticeLink.Fits.popHead {l : NoticeLink} (h : l.Fits) : l.popHead.Fits :=
  { h with
    frames := by have := h.frames; simp only [NoticeLink.popHead, List.length_tail]; omega
    attempts := Nat.zero_le 7 }

theorem NoticeLink.Fits.removeAt {l : NoticeLink} (h : l.Fits) (i : Nat) : (l.removeAt i).Fits := by
  unfold NoticeLink.removeAt
  split
  · exact h.popHead
  · exact { h with frames := (List.length_eraseIdx_le _ _).trans h.frames }

theorem NoticeLink.removeAt_length {l : NoticeLink} {i : Nat} (h : i < l.queue.length) :
    (l.removeAt i).queue.length = l.queue.length - 1 := by
  unfold NoticeLink.removeAt
  split
  · simp [NoticeLink.popHead]
  · simp [List.length_eraseIdx, h]

theorem NoticeLink.oldestPresent_lt {l : NoticeLink} {i : Nat} (h : l.oldestPresent = some i) :
    i < l.queue.length := by
  have := List.mem_of_find?_eq_some h
  simpa using this

theorem NoticeLink.Fits.handPresent {l : NoticeLink} (h : l.Fits) : l.handPresent.Fits := by
  unfold NoticeLink.handPresent
  split
  · next room => exact h.enqueue room _
  · exact h

/-- A reset peer table fits. -/
theorem peerReset_unmatched (a : Fin 16) :
    ((Vector.replicate 16 peerReset)[a] : Peer).unmatched ≤ 255 := by simp [peerReset]

theorem Fits.handVerdict {s : State} (h : Fits s) (v : QueuedVerdict) : Fits (s.handVerdict v) := by
  refine ite_keeps (Fits.calm.dropReport _ _ h) ?_
  split
  · next room => exact h.withLink (h.link.enqueue room _)
  split
  · next i hi =>
    refine h.withLink ((h.link.removeAt i).enqueue ?_ _)
    have := NoticeLink.oldestPresent_lt hi
    have := h.frames
    rw [NoticeLink.removeAt_length (NoticeLink.oldestPresent_lt hi)]
    omega
  · exact Fits.calm.dropReport _ _ h

theorem Fits.windowExpiry {s : State} (h : Fits s) (edge : Ms) : Fits (s.windowExpiry edge) := by
  unfold State.windowExpiry
  split
  · exact h
  · next i _ =>
    have reported := Fits.calm.reportFrame (s.link.queue.getD i .present) h
    exact ite_keeps (reported.withLink { h.link with frames := by simpa using h.frames })
      (reported.withLink (h.link.removeAt i))

theorem Fits.correlationTakes {s : State} (h : Fits s) : Fits s.correlationTakes := by
  unfold State.correlationTakes
  split
  · exact h
  · refine foldl_keeps (fun u k hu => ?_) _ (s := s.withCorr _) { h with }
    unfold State.judgeContext
    split
    · exact hu
    · exact ite_keeps (Fits.handVerdict (Fits.calm.editContext _ _ hu) _)
        (Fits.calm.edit _ _ _ (rewriteSympathetic_edited _) (Fits.handVerdict (Fits.calm.editContext _ _ hu) _))

theorem Fits.linkClearsPeers {s : State} (h : Fits s) : Fits s.linkClearsPeers :=
  h.withLink { h.link with unmatched := peerReset_unmatched }

theorem Fits.linkDropsQueue {s : State} (h : Fits s) (view : StationState) :
    Fits (s.linkDropsQueue view) := by
  have reported := Fits.calm.reportQueue h
  exact reported.withLink { reported.link with frames := Nat.zero_le 8, attempts := Nat.zero_le 7 }

theorem Fits.linkStops {s : State} (h : Fits s) (k : Stop) : Fits (s.linkStops k) := by
  cases k with
  | halt =>
    have reported := Fits.calm.reportQueue h
    refine reported.withLink { reported.link with frames := ?_ }
    simpa [NoticeLink.leaveByte] using reported.frames
  | restart low tableFirst =>
    exact ite_keeps (h.linkDropsQueue _) (h.linkDropsQueue _).linkClearsPeers

/-! The reference tracker and the aggregator (ch. 3, ch. 10). -/

theorem State.slideReference_settle {s : State} {x : Reference} {det : DetState} {u n : Nat}
    (h : x.settle ≤ n) : (s.slideReference x det u).settle ≤ n := by
  simp only [State.slideReference, countedDown]
  split <;> omega

theorem Fits.trackerTakes {s : State} (h : Fits s) : Fits s.trackerTakes := by
  unfold State.trackerTakes
  split
  · exact h
  · refine { h with settle := fun k => ?_ }
    have old := h.settle k
    simp only [Fin.getElem_fin] at old
    simp only [State.withRef_ref, Fin.getElem_fin, Vector.getElem_ofFn]
    split
    · exact old
    · split
      · exact State.slideReference_settle old
      · exact old

theorem Fits.trackerTakesReport {s : State} (h : Fits s) : Fits s.trackerTakesReport := by
  refine ite_keeps h { h with settle := fun k => ?_ }
  have old := h.settle k
  simp only [Fin.getElem_fin] at old
  simp only [State.withRef_ref, Fin.getElem_fin, Vector.getElem_ofFn]
  split
  · exact le_rfl
  · exact old

theorem pushEntry_length {ring : List IntervalEntry} (h : ring.length ≤ 144) (e : IntervalEntry) :
    (pushEntry ring e).length ≤ 144 := by
  unfold pushEntry Config.ringSize
  split <;> simp <;> omega

theorem Fits.writeInterval {s : State} (h : Fits s) (i : Interval) (length : Nat) (isPartial : Bool)
    (next : Option Interval) : Fits (s.writeInterval i length isPartial next) :=
  { h with ring := pushEntry_length h.ring _ }

theorem Fits.aggTakesStop {s : State} (h : Fits s) : Fits s.aggTakesStop := by
  unfold State.aggTakesStop
  split
  · exact h
  · exact h.writeInterval _ _ _ _

theorem Fits.aggregatorTakes {s : State} (h : Fits s) : Fits s.aggregatorTakes := by
  unfold State.aggregatorTakes
  split
  · exact h
  · exact { h with }

/-- Every part of a stop keeps the ranges. -/
theorem Fits.calmStop (k : Stop) : CalmStop Fits k where
  toCalm := Fits.calm
  handed _ _ h := { h with }
  store _ h := { h with }
  link _ h := h.linkStops k
  clear _ _ h := h.linkClearsPeers
  mark s h := by cases k <;> exact { h with }
  corr _ h := { h with }
  cap s h := h.rewrites (s.capStops_frame k) (s.capStops_rewrites k) fun j => by
    rw [s.capStops_filled k]; exact h.filled j
  agg _ h := h.aggTakesStop
  tracker _ h := h.trackerTakes
  report _ h := h.trackerTakesReport
  correlation _ h := h.correlationTakes
  aggregator _ h := h.aggregatorTakes
  free _ _ h := { h with }

/-! The front end and the RMS engine (ch. 1, ch. 2). -/

theorem FreqTracker.takeSample_validCount {k : FreqTracker} (h : k.validCount ≤ 5) (f : Freq)
    (sa sb : Int) : (k.takeSample f sa sb).validCount ≤ 5 := by
  unfold FreqTracker.takeSample
  dsimp only
  split
  · dsimp only
    split
    · exact h
    · split
      · simp only [FreqTracker.endValid]; omega
      · exact Nat.zero_le 5
  · exact h

theorem Fits.measured {s : State} (h : Fits s) : Fits s.measured := by
  have elapsed : Fits (s.elapse s.closeMoment) := { h with }
  have overruns (u : State) (hu : Fits u) : Fits u.raiseOverruns := by
    unfold State.raiseOverruns
    split
    · exact hu
    · exact ite_keeps { hu with } { hu with }
  have position (u : State) (hu : Fits u) : Fits u.measurePosition := by
    refine ite_keeps (P := Fits) (t := State.raise _ _ _) ?_ ?_
    all_goals
      refine { hu with hold := fun k => ?_, valid := ?_, fill := ?_ }
      · have old := hu.hold k
        simp only [Fin.getElem_fin] at old
        simp only [State.raise_cfe, State.withCfe_cfe, FrontEnd.closePosition, FrontEnd.settle,
          Fin.getElem_fin, Vector.getElem_ofFn, Channel.closed]
        split <;> omega
      · exact FreqTracker.takeSample_validCount hu.valid _ _ _
      · simp only [State.raise_rms, State.withCfe_rms, State.withRms_rms, RmsEngine.takePosition]
        omega
  exact position _ (overruns _ elapsed)

theorem Fits.halfCycleEnd {s : State} (h : Fits s) : Fits s.halfCycleEnd := by
  have cleared (k : Fin 8) : s.cfe.clearFlags.ch[k].hold ≤ 128 := by
    have old := h.hold k
    simpa [FrontEnd.clearFlags] using old
  refine ite_keeps { h with hold := cleared } { h with hold := cleared, history := ?_ }
  show ((_ :: s.rms.history).take 4).length ≤ 4
  rw [List.length_take]
  omega

theorem Fits.eventsOf {s : State} (checks : CloseChecks) {u : State} (h : Fits u) :
    Fits (s.eventsOf checks u) := by
  have locked : Fits (u.handLockedCycle (u.ctl.state == .run) s.closedCycle) := by
    unfold State.handLockedCycle State.takeLockedCycle
    split
    · exact h
    · exact ite_keeps { h with } h
  have ended := locked.halfCycleEnd
  refine ite_keeps (ite_keeps ?_ ended) locked
  exact ended.rewrites (State.fillCopy_frame _ _ _) (State.fillCopy_rewrites _ _ _)
    (State.fillCopy_filled _ _ _ ended.filled)

end Sys2Proof.Machine
end

section
/-! Every command keeps the counts in their ranges, the items in theirs, and each reference in its
band. -/

namespace Sys2Proof.Machine

/-- The blocks that hold no count. -/
def uncounted : List Block := [.det, .mark, .corr, .ctl, .port]

theorem Fits.of_uncounted {s u : State} (h : Fits s) (kept : onlyChanges uncounted s u) : Fits u := by
  have cfe : u.cfe = s.cfe := kept.1 .cfe (by decide)
  have rms : u.rms = s.rms := kept.1 .rms (by decide)
  have ref : u.ref = s.ref := kept.1 .ref (by decide)
  have cap : u.cap = s.cap := kept.1 .cap (by decide)
  have link : u.link = s.link := kept.1 .link (by decide)
  have store : u.store = s.store := kept.1 .store (by decide)
  have agg : u.agg = s.agg := kept.1 .agg (by decide)
  refine ⟨cfe ▸ h.hold, cfe ▸ h.valid, rms ▸ h.fill, rms ▸ h.history, ref ▸ h.settle, fun k => ?_,
    link ▸ h.frames, link ▸ h.attempts, store ▸ h.records, store ▸ h.nextId, agg ▸ h.ring,
    link ▸ h.unmatched, store ▸ h.tally⟩
  unfold State.filled
  rw [cap]
  exact h.filled k

theorem Fits.answer {s : State} (h : Fits s) (st : Status) (p : List Byte) : Fits (s.answer st p) :=
  { h with }

theorem Fits.raise {s : State} (h : Fits s) (c : Cause) (n : Nat) : Fits (s.raise c n) := { h with }

theorem Fits.elapse {s : State} (h : Fits s) (t : Nat) : Fits (s.elapse t) := { h with }

/-- A command that touches none of the blocks with counts. -/
theorem Fits.of_command {i : Instr} {s s' : State} (h : Fits s) (hb : ∀ b ∈ touches i, b ∈ uncounted)
    (he : exec i s = .next s') : Fits s' := by
  have frame := (commandsKeepWhatIsNotTheirs i s s' he).1
  exact h.of_uncounted (onlyChanges_mono frame hb)

theorem afterPinReset_fits (straps : Straps) (low psel : Bool) (free : Nat) (q : List Instr) :
    Fits (State.afterPinReset straps low psel free q) where
  hold k := by simp [State.afterPinReset, frontEndReset, channelReset]
  valid := Nat.zero_le 5
  fill := Nat.zero_le 128
  history := Nat.zero_le 4
  settle k := by simp [State.afterPinReset, refReset, seededReference]
  filled k := by simp [State.filled, State.afterPinReset, capReset, slotReset]
  frames := Nat.zero_le 8
  attempts := Nat.zero_le 7
  records := Nat.zero_le 48
  nextId := ⟨le_rfl, by show 1 ≤ 65535; omega⟩
  ring := Nat.zero_le 144
  unmatched k := by simp [State.afterPinReset, linkReset, peerReset]
  tally k := by simp [State.afterPinReset, storeReset, tallyClear]

theorem Fits.setPeer {s : State} (h : Fits s) (a : Fin 16) {p : Peer} (hp : p.unmatched ≤ 255) :
    Fits (s.setPeer a p) := by
  refine h.withLink { h.link with unmatched := fun b => ?_ }
  simp only [Fin.getElem_fin]
  by_cases hb : b = a
  · subst hb
    rw [Vector.getElem_set_self]
    exact hp
  · rw [Vector.getElem_set_ne (h := Ne.symm (Fin.val_ne_of_ne hb))]
    exact h.unmatched b

theorem Fits.updatePeer {s : State} (h : Fits s) (n : Notice) (leader : Ms) :
    Fits (s.updatePeer n leader) := by
  have heard := h.setPeer (senderOf n) (p := (s.link.peers[senderOf n]).hear n leader)
    (by cases n <;> exact h.unmatched _)
  exact ite_keeps heard { heard with }

theorem Fits.judgeFrame {s : State} (h : Fits s) : Fits s.judgeFrame := by
  unfold State.judgeFrame
  split
  · exact Fits.of_uncounted (s := s.withLink (s.link.dropFrame s.time))
      (h.withLink { h.link with }) (onlyChanges_mono (State.raise_frame _ _ _).only (by simp [uncounted]))
  · next n _ =>
    have ended : Fits (s.withLink s.link.endFrame) := h.withLink { h.link with }
    refine ite_keeps ended (ite_keeps { ended with } ?_)
    have heard := ended.updatePeer n s.link.rxLeader
    unfold State.takeNotice
    split
    · exact heard
    · refine ite_keeps ?_ heard
      unfold State.matchVerdict
      split
      · exact { heard with }
      · exact heard.setPeer _ (by simp only [Peer.countUnmatched]; omega)

theorem NoticeLink.takeEdge_keeps (l : NoticeLink) (edge : Nat) (now : Ms) (e : EdgeSample) :
    (l.takeEdge edge now e).queue = l.queue ∧ (l.takeEdge edge now e).attempts = l.attempts ∧
    (l.takeEdge edge now e).peers = l.peers ∧ (l.takeEdge edge now e).tx = l.tx ∧
    (l.takeEdge edge now e).view = l.view := by
  have start (b : Byte) (low : Bool) : (l.takeStart edge now b low).queue = l.queue ∧
      (l.takeStart edge now b low).attempts = l.attempts ∧
      (l.takeStart edge now b low).peers = l.peers ∧ (l.takeStart edge now b low).tx = l.tx ∧
      (l.takeStart edge now b low).view = l.view := by
    unfold NoticeLink.takeStart
    split
    · exact ⟨rfl, rfl, rfl, rfl, rfl⟩
    · split <;> exact ⟨rfl, rfl, rfl, rfl, rfl⟩
    · split <;> exact ⟨rfl, rfl, rfl, rfl, rfl⟩
    · exact ⟨rfl, rfl, rfl, rfl, rfl⟩
  unfold NoticeLink.takeEdge
  split
  · exact ⟨rfl, rfl, rfl, rfl, rfl⟩
  · exact start _ _

/-- A link that keeps its queue, its attempt count and its peer table. -/
theorem NoticeLink.Fits.of_same {l x : NoticeLink} (h : l.Fits) (hq : x.queue = l.queue)
    (ha : x.attempts = l.attempts) (hp : x.peers = l.peers) : x.Fits :=
  ⟨hq ▸ h.frames, ha ▸ h.attempts, hp ▸ h.unmatched⟩

theorem Fits.takeStart {s : State} (h : Fits s) : Fits s.takeStart := by
  have queued : (({ s.link with view := .run } : NoticeLink).handPresent).Fits :=
    NoticeLink.Fits.handPresent ⟨h.frames, h.attempts, h.unmatched⟩
  exact { h with
    settle := fun k => by
      simp [State.takeStart, State.seedReferences, seededReference]
    frames := queued.frames
    attempts := queued.attempts
    unmatched := queued.unmatched }

theorem Fits.storeItem {s : State} (h : Fits s) (i : Fin 30) (x : Int) : Fits (s.storeItem i x) := by
  have stored : Fits (s.withCtl { s.ctl with items := s.ctl.items.set i x }) := { h with }
  refine ite_keeps { stored with settle := fun k => ?_ } (ite_keeps { stored with settle := fun k => ?_ }
    (ite_keeps { stored with } stored))
  all_goals
    have old := stored.settle k
    simp only [Fin.getElem_fin] at old
    simp only [State.reseedDeclared, State.recomputeSets, State.withRef_ref, Fin.getElem_fin,
      Vector.getElem_ofFn]
    exact old

theorem Fits.removeHead {s : State} (h : Fits s) (r : Record) : Fits (s.removeHead r) := by
  have tail : s.store.queue.tail.length ≤ 48 := by
    rw [List.length_tail]
    exact (Nat.sub_le _ _).trans h.records
  unfold State.removeHead
  cases r.wave with
  | absent why => exact { h with records := tail }
  | present k o =>
    refine { h with records := tail, filled := fun j => ?_ }
    show (s.dropHold k).filled j ≤ 40
    unfold State.dropHold
    rw [State.setSlot_filled_self _ _ (by rfl)]
    exact h.filled j

/-- Every command keeps the counts in their ranges. -/
theorem exec_fits {i : Instr} {s s' : State} (h : Fits s) (he : exec i s = .next s') : Fits s' := by
  have out {u : State} (e : exec i s = .next u) (hu : Fits u) : Fits s' := by
    rw [e] at he
    injection he with e
    exact e ▸ hu
  cases i with
  | pinReset straps low psel => exact out rfl (afterPinReset_fits _ _ _ _ _)
  | takeResult t ch code =>
    refine out rfl { h with hold := fun k => ?_ }
    have old (k : Fin 8) : s.cfe.ch[k].hold ≤ 128 := h.hold k
    simp only [State.withCfe_cfe, State.elapse_cfe, Fin.getElem_fin]
    by_cases hk : k = ch
    · subst hk
      rw [Vector.getElem_set_self]
      unfold Channel.takeResult
      split
      · exact old k
      · split <;> exact old k
    · rw [Vector.getElem_set_ne (h := Ne.symm (Fin.val_ne_of_ne hk))]
      exact old k
  | positionClose checks =>
    have events (u : State) (hu : Fits u) : Fits (s.eventsOf checks u) := hu.eventsOf checks
    refine out (exec_positionClose checks s) (ite_keeps ?_ (events _ h.measured))
    exact { (Fits.calmStop .halt).takeStop _ _ events h.measured with }
  | cycleTimeout t =>
    refine out rfl ?_
    split
    · exact h.elapse t
    · exact ite_keeps (ite_keeps { h with valid := Nat.zero_le 5 } { h with valid := Nat.zero_le 5 })
        (h.elapse t)
  | trackerTakesRefresh t => exact out rfl (h.elapse t).trackerTakes
  | trackerTakesEndReport t => exact out rfl (h.elapse t).trackerTakesReport
  | detectorTakesRefresh t failed =>
    exact out rfl (Fits.calm.detectorTakes failed (fun _ hu => hu) (Fits.calmStop .halt).handed (h.elapse t))
  | maxOpenExpiry t =>
    refine out rfl ?_
    split
    · exact h.elapse t
    · exact h.elapse t
    · refine ite_keeps ?_ (h.elapse t)
      exact { Fits.calm.finishEvent _ _ _ _ _ _ (h.elapse t) with }
  | correlationTakesRefresh t => exact out rfl (h.elapse t).correlationTakes
  | aggregatorTakesRefresh t => exact out rfl (h.elapse t).aggregatorTakes
  | markFallingEdge t failed =>
    exact out rfl (ite_keeps (h.elapse t) (Fits.calm.takeFallingEdge failed (h.elapse t)))
  | presentPeriodExpiry t =>
    refine out rfl ?_
    split
    · exact h.elapse t
    · exact ite_keeps { (h.elapse t).withLink h.link.handPresent with } (h.elapse t)
  | attemptStart t =>
    refine out rfl ?_
    split
    · exact h.elapse t
    · exact ite_keeps ((h.elapse t).withLink (h.link.of_same rfl rfl rfl)) (h.elapse t)
  | readbackMismatch t =>
    refine out rfl ?_
    split
    · exact h.elapse t
    · refine ite_keeps (ite_keeps ?_ ?_) (h.elapse t)
      · exact (h.elapse t).withLink (h.link.popHead.of_same rfl rfl rfl)
      · split
        · exact (Fits.calm.reportFrame _ (h.elapse t)).withLink (h.link.popHead.of_same rfl rfl rfl)
        · next few =>
          have few : s.link.attempts + 1 < 8 := Nat.lt_of_not_ge few
          exact (h.elapse t).withLink
            { h.link with attempts := by show s.link.attempts + 1 ≤ 7; omega }
  | attemptSuccess t =>
    exact out rfl (ite_keeps ((h.elapse t).withLink (h.link.popHead.of_same rfl rfl rfl)) (h.elapse t))
  | frameMalformed t fault =>
    have dropped := (h.elapse t).withLink (x := s.link.dropFrame (s.elapse t).time)
      (h.link.of_same rfl rfl rfl)
    exact out rfl (ite_keeps (dropped.raise _ _) (h.elapse t))
  | frameComplete t => exact out rfl (ite_keeps (h.elapse t).judgeFrame (h.elapse t))
  | receiverRecovered t =>
    exact out rfl (ite_keeps ((h.elapse t).withLink (h.link.of_same rfl rfl rfl)) (h.elapse t))
  | peerAgingExpiry t a =>
    refine out rfl (ite_keeps (Fits.raise ((h.elapse t).setPeer a ?_) _ _) (h.elapse t))
    exact h.unmatched a
  | contextClose t k =>
    refine out rfl ?_
    split
    · exact h.elapse t
    · refine ite_keeps ?_ (h.elapse t)
      have expired := (h.elapse t).windowExpiry
      dsimp only
      split
      · exact expired _
      · exact Fits.calm.freeContext _ _ (ite_keeps (expired _) (Fits.calm.edit _ _ _ (State.copyResults_edited _ _ _) (expired _)))
  | scrubComplete t k =>
    refine out rfl (ite_keeps { h with filled := fun j => ?_ } (h.elapse t))
    rw [State.setSlot_filled]
    split
    · exact Nat.zero_le 40
    · exact h.filled j
  | scrubLocationError t k =>
    exact out rfl (ite_keeps ((h.elapse t).rewrites (State.memoryError_frame _ k)
      (State.memoryError_rewrites _ k) fun j => by rw [State.memoryError_filled]; exact h.filled j)
      (h.elapse t))
  | intervalBoundary t =>
    refine out rfl ?_
    split
    · exact h.elapse t
    · exact ite_keeps ((h.elapse t).writeInterval _ _ _ _) (h.elapse t)
  | release t =>
    refine out rfl ?_
    split
    · split
      · exact { h with }
      · exact ite_keeps (ite_keeps { h with } (((h.elapse t).removeHead _).answer _ _)) (ite_keeps { h with } { h with })
    · exact h.elapse t
  | wave t fails =>
    refine out rfl ?_
    split
    · split
      · exact { h with }
      · next k _ =>
        refine ite_keeps ?_ { h with }
        exact { (h.elapse t).rewrites (State.memoryError_frame _ k)
          (State.memoryError_rewrites _ k) (fun j => by rw [State.memoryError_filled]; exact h.filled j) with }
    · exact h.elapse t
  | tally t =>
    refine out rfl (ite_keeps { h with tally := fun c => ?_ } (h.elapse t))
    simp [tallyClear]
  | set t =>
    refine out rfl ?_
    split
    · split
      · exact ite_keeps { h with } { (h.elapse t).storeItem _ _ with }
      · exact { h with }
    · exact h.elapse t
  | start t =>
    refine out rfl (ite_keeps ?_ (h.elapse t))
    split
    · exact ite_keeps { h with } { (h.elapse t).takeStart with }
    · exact { h with }
    · exact { h with }
  | restart t low =>
    refine out (exec_restart t low s) (ite_keeps ?_ (h.elapse t))
    have stopped := (Fits.calmStop (.restart low (s.elapse t).order.tableFirst)).takeStop
      (s.elapse t).order (s.elapse t).order.checkFails (act := id) (fun _ hu => hu) (h.elapse t)
    exact { stopped with
      settle := fun k => by
        simp [State.takeRestart, State.refTakesRestart, State.seedReferences, seededReference] }
  | linkReset t low =>
    refine out rfl (ite_keeps ?_ (h.elapse t))
    exact { ((h.elapse t).linkDropsQueue _).linkClearsPeers with }
  | noticeFallingEdge t e =>
    obtain ⟨hq, ha, hp, -⟩ := s.link.takeEdge_keeps (s.elapse t).time (s.elapse t).now e
    exact out rfl (ite_keeps ((h.elapse t).withLink (h.link.of_same hq ha hp)) (h.elapse t))
  | _ => exact h.of_command (by simp [touches, uncounted]) he

/-! The items and the references (R35, R180). -/

/-- The items in their ranges, and each reference in its band of the declared voltage. -/
structure Ranged (s : State) : Prop where
  items : s.itemsInRange
  band : s.referencesInBand

/-- Items and references that stand. -/
theorem Ranged.of_same {s u : State} (h : Ranged s) (items : u.ctl.items = s.ctl.items)
    (rf : ∀ k : Fin 3, u.ref.d[k].rf = s.ref.d[k].rf) : Ranged u := by
  have item (i : Fin 30) : u.item i = s.item i := by simp only [State.item, items]
  refine ⟨fun i => by rw [item i]; exact h.items i, fun k => ?_⟩
  rw [State.declared, item 0, rf k]
  exact h.band k

theorem bandLow_le_declared (d : Nat) : bandLow d ≤ d * 65536 := by
  unfold bandLow
  omega

theorem declared_le_bandHigh (d : Nat) : d * 65536 ≤ bandHigh d := by
  unfold bandHigh
  omega

/-- References seeded from the declared voltage lie in their band. -/
theorem Ranged.of_seeded {s : State} (items : s.itemsInRange)
    (rf : ∀ k : Fin 3, s.ref.d[k].rf = s.declared * 65536) : Ranged s := by
  refine ⟨items, fun k => ?_⟩
  rw [rf k]
  exact ⟨bandLow_le_declared _, declared_le_bandHigh _⟩

theorem movedRf_band (declared rf u : Nat) :
    bandLow declared ≤ movedRf declared rf u ∧ movedRf declared rf u ≤ bandHigh declared := by
  have order := (bandLow_le_declared declared).trans (declared_le_bandHigh declared)
  have range := clampInt_range (bandLow declared) (bandHigh declared)
    ((rf : Int) + ((u : Int) * 65536 - (rf : Int)).tdiv 8192) (by exact_mod_cast order)
  simp only [movedRf]
  omega

theorem Ranged.trackerTakes {s : State} (h : Ranged s) : Ranged s.trackerTakes := by
  unfold State.trackerTakes
  split
  · exact h
  · refine ⟨h.items, fun k => ?_⟩
    have old := h.band k
    simp only [Fin.getElem_fin] at old
    simp only [State.withRef_ref, Fin.getElem_fin, Vector.getElem_ofFn]
    show bandLow s.declared ≤ _ ∧ _ ≤ bandHigh s.declared
    split
    · exact old
    · split
      · simp only [State.slideReference]
        split
        · exact movedRf_band _ _ _
        · exact old
      · exact old

theorem Ranged.trackerTakesReport {s : State} (h : Ranged s) : Ranged s.trackerTakesReport := by
  refine ite_keeps h (h.of_same rfl fun k => ?_)
  simp only [State.withRef_ref, Fin.getElem_fin, Vector.getElem_ofFn]
  split <;> rfl

/-- Operations that touch neither the items nor the reference tracker. -/
theorem Ranged.of_frame {bs : List Block} {s u : State} (h : Ranged s) (frame : Frame bs s u)
    (hb : Block.ref ∉ bs) : Ranged u := by
  have ref : u.ref = s.ref := frame.only.1 .ref hb
  exact h.of_same frame.steady.items fun k => by rw [ref]

theorem Ranged.calm : Calm Ranged where
  capture s id a failed h := h.of_frame (s.captureRequest_frame id a failed) (by decide)
  add s r t _ h := h.of_frame (s.addRecord_frame r t) (by decide)
  edit s id f _ h := h.of_same rfl fun _ => rfl
  judge s id h := h.of_frame (s.judge_frame id) (by decide)
  tally s c r m d h := h.of_same rfl fun _ => rfl
  contexts s x _ h := h.of_same rfl fun _ => rfl
  det s x _ h := h.of_same rfl fun _ => rfl
  ends s n h := h.of_same rfl fun _ => rfl
  edge s x _ _ h := h.of_same rfl fun _ => rfl

theorem Ranged.calmStop (k : Stop) : CalmStop Ranged k where
  toCalm := Ranged.calm
  handed _ _ h := h.of_same rfl fun _ => rfl
  store s h := h.of_same rfl fun _ => rfl
  link s h := h.of_frame (s.linkStops_frame k) (by decide)
  clear _ s h := h.of_same rfl fun _ => rfl
  mark s h := h.of_frame (s.markStops_frame k) (by decide)
  corr s h := h.of_same rfl fun _ => rfl
  cap s h := h.of_frame (s.capStops_frame k) (by decide)
  agg s h := h.of_frame s.aggTakesStop_frame (by decide)
  tracker _ h := h.trackerTakes
  report _ h := h.trackerTakesReport
  correlation s h := h.of_frame s.correlationTakes_frame (by decide)
  aggregator s h := h.of_frame s.aggregatorTakes_frame (by decide)
  free s n h := h.of_same rfl fun _ => rfl

theorem itemRow_order (i : Fin 30) : (itemRow i).lo ≤ (itemRow i).hi := by
  revert i
  decide

theorem defaultItems_range (i : Fin 30) :
    (itemRow i).lo ≤ defaultItems[i] ∧ defaultItems[i] ≤ (itemRow i).hi := by
  revert i
  decide

theorem afterPinReset_ranged (straps : Straps) (low psel : Bool) (free : Nat) (q : List Instr) :
    Ranged (State.afterPinReset straps low psel free q) := by
  refine Ranged.of_seeded defaultItems_range fun k => ?_
  simp only [State.afterPinReset, refReset, Fin.getElem_fin, Vector.getElem_replicate]
  rfl

theorem Ranged.storeItem {s : State} (h : Ranged s) (i : Fin 30) (v : BitVec 32) :
    Ranged (s.storeItem i (storedValue i v)) := by
  obtain ⟨ref, attn, stored, -⟩ := s.storeItem_eq i (storedValue i v)
  have items : (s.storeItem i (storedValue i v)).itemsInRange := by
    intro j
    rw [stored]
    simp only [State.item, State.withCtl_ctl, Fin.getElem_fin]
    by_cases hj : j = i
    · subst hj
      rw [Vector.getElem_set_self]
      exact clampInt_range _ _ _ (itemRow_order j)
    · rw [Vector.getElem_set_ne (h := Ne.symm (Fin.val_ne_of_ne hj))]
      exact h.items j
  by_cases h0 : i = 0
  · subst h0
    refine Ranged.of_seeded items fun k => ?_
    simp only [State.storeItem, State.itemTaken, if_true, State.reseedDeclared, State.withRef_ref,
      Fin.getElem_fin, Vector.getElem_ofFn]
    rfl
  · refine ⟨items, fun k => ?_⟩
    have declared : (s.storeItem i (storedValue i v)).declared = s.declared := by
      rw [stored]
      simp only [State.declared, State.item, State.withCtl_ctl, Fin.getElem_fin]
      rw [Vector.getElem_set_ne (h := Fin.val_ne_of_ne h0)]
    have rf : (s.storeItem i (storedValue i v)).ref.d[k].rf = s.ref.d[k].rf := by
      simp only [State.storeItem, State.itemTaken, h0, if_false]
      split
      · simp only [State.recomputeSets, State.withRef_ref, Fin.getElem_fin, Vector.getElem_ofFn]
        rfl
      · split <;> rfl
    rw [declared, rf]
    exact h.band k

/-- A steady command that does not touch the reference tracker. -/
theorem Ranged.of_command {i : Instr} {s s' : State} (h : Ranged s) (hi : steadyCommand i = true)
    (hb : Block.ref ∉ touches i) (he : exec i s = .next s') : Ranged s' := by
  obtain ⟨t, u, hu, frame⟩ := exec_steady i s hi
  have elapsed : Ranged (s.elapse t) := h.of_same rfl fun _ => rfl
  rw [hu] at he
  injection he with e
  exact e ▸ elapsed.of_frame frame hb

theorem Ranged.eventsOf {s : State} (checks : CloseChecks) {u : State} (h : Ranged u) :
    Ranged (s.eventsOf checks u) := by
  have locked : Ranged (u.handLockedCycle (u.ctl.state == .run) s.closedCycle) :=
    h.of_frame (u.handLockedCycle_frame _ _) (by decide)
  have ended : Ranged (u.handLockedCycle (u.ctl.state == .run) s.closedCycle).halfCycleEnd := by
    refine locked.of_same (State.halfCycleEnd_frame _).steady.items fun k => ?_
    unfold State.halfCycleEnd
    dsimp only
    split <;> rfl
  exact ite_keeps (ite_keeps (ended.of_frame (State.fillCopy_frame _ _ _) (by decide)) ended) locked

/-- References seeded from the items. -/
theorem Ranged.of_seedReferences {s u : State} (h : Ranged s) (items : u.ctl.items = s.ctl.items)
    (d : u.ref.d = Vector.replicate 3 (seededReference u.ctl.items)) : Ranged u := by
  refine Ranged.of_seeded (fun j => ?_) fun k => ?_
  · rw [State.item, items]
    exact h.items j
  · simp only [d, Fin.getElem_fin, Vector.getElem_replicate]
    rfl

/-- Every command keeps the items in their ranges and the references in their bands. -/
theorem exec_ranged {i : Instr} {s s' : State} (h : Ranged s) (he : exec i s = .next s') :
    Ranged s' := by
  have elapsed (t : Nat) : Ranged (s.elapse t) := h.of_same rfl fun _ => rfl
  have out {u : State} (e : exec i s = .next u) (hu : Ranged u) : Ranged s' := by
    rw [e] at he
    injection he with e
    exact e ▸ hu
  cases i with
  | pinReset straps low psel => exact out rfl (afterPinReset_ranged _ _ _ _ _)
  | positionClose checks =>
    have events (u : State) (hu : Ranged u) : Ranged (s.eventsOf checks u) := hu.eventsOf checks
    have measured : Ranged s.measured := (elapsed _).of_frame s.measured_frame (by decide)
    refine out (exec_positionClose checks s) (ite_keeps ?_ (events _ measured))
    exact ((Ranged.calmStop .halt).takeStop _ _ events measured).of_same rfl fun _ => rfl
  | trackerTakesRefresh t => exact out rfl (elapsed t).trackerTakes
  | trackerTakesEndReport t => exact out rfl (elapsed t).trackerTakesReport
  | detectorTakesRefresh t failed =>
    exact out rfl (Ranged.calm.detectorTakes failed (fun _ hu => hu) (Ranged.calmStop .halt).handed (elapsed t))
  | maxOpenExpiry t =>
    refine out rfl ?_
    split
    · exact elapsed t
    · exact elapsed t
    · refine ite_keeps (Ranged.calm.det _ _ rfl (Ranged.calm.ends _ _ ?_)) (elapsed t)
      exact Ranged.calm.finishEvent _ _ _ _ _ _ (elapsed t)
  | presentPeriodExpiry t =>
    refine out rfl ?_
    split
    · exact elapsed t
    · exact ite_keeps ((elapsed t).of_same rfl fun _ => rfl) (elapsed t)
  | causes t => exact out rfl (ite_keeps ((elapsed t).of_same rfl fun _ => rfl) (elapsed t))
  | set t =>
    refine out rfl ?_
    split
    · split
      · exact ite_keeps ((elapsed t).of_same rfl fun _ => rfl)
          (((elapsed t).storeItem _ _).of_same rfl fun _ => rfl)
      · exact (elapsed t).of_same rfl fun _ => rfl
    · exact elapsed t
  | start t =>
    refine out rfl (ite_keeps ?_ (elapsed t))
    split
    · exact ite_keeps ((elapsed t).of_same rfl fun _ => rfl) (h.of_seedReferences rfl rfl)
    · exact (elapsed t).of_same rfl fun _ => rfl
    · exact (elapsed t).of_same rfl fun _ => rfl
  | restart t low =>
    refine out (exec_restart t low s) (ite_keeps ?_ (elapsed t))
    have stopped := (Ranged.calmStop (.restart low (s.elapse t).order.tableFirst)).takeStop
      (s.elapse t).order (s.elapse t).order.checkFails (act := id) (fun _ hu => hu) (elapsed t)
    exact stopped.of_seedReferences rfl rfl
  | _ => exact h.of_command rfl (by simp [touches]) he

/-- Settles O9. -/
theorem countsStayInTheirRanges : Obligations.CountsStayInTheirRanges := by
  unfold Obligations.CountsStayInTheirRanges
  rintro s s' ⟨capacity, items, band⟩ h
  have kept : Fits s' ∧ Ranged s' := by
    refine step_keeps (P := fun s => Fits s ∧ Ranged s) ?_ ?_
      ⟨s.withinCapacity_iff.1 capacity, items, band⟩ h
    · exact fun s q h => ⟨{ h.1 with }, h.2.of_same rfl fun _ => rfl⟩
    · exact fun i s s' h e => ⟨exec_fits h.1 e, exec_ranged h.2 e⟩
  exact ⟨s'.withinCapacity_iff.2 kept.1, kept.2.items, kept.2.band⟩

end Sys2Proof.Machine
end

section
/-! The invariants that tie records, slots, contexts and detector together, read from the ledger. -/

namespace Sys2Proof.Machine

/-! RELEASE, and a VERDICT that matches a context. -/

namespace Ledger

/-- One hold on slot `k` is dropped (R77). -/
def drop (w : Ledger) (k : Fin 8) : Ledger :=
  w.setSlot k (if w.holders k - 1 = 0 ∧ w.slot k = .held then .free else w.slot k) (w.holders k - 1)

/-- The head `c` leaves the queue, its hold dropped (R153). -/
def release (w : Ledger) (c : Core) : Ledger :=
  { c.slot.elim w w.drop with queue := w.queue.tail }

/-- The peer verdict lists of the contexts are changed. -/
def heard (w : Ledger) (g : Fin 4 → List PeerVerdict → List PeerVerdict) : Ledger :=
  { w with ctx := fun k => (w.ctx k).map fun l => { l with peers := g k l.peers } }

theorem release_eq (w : Ledger) (c : Core) : w.release c =
    { w with
      queue := w.queue.tail, slot := (w.release c).slot, holders := (w.release c).holders } := by
  unfold release
  cases c.slot <;> rfl

/-- A slot that is FILLING is so after the release of another record, and no other becomes so. -/
theorem release_filling (w : Ledger) (c d : Core) : (w.release c).filling d = w.filling d := by
  unfold release filling
  cases c.slot with
  | none => rfl
  | some k =>
    cases d.slot with
    | none => rfl
    | some j =>
      simp only [Option.elim_some, Option.any_some, drop, setSlot]
      by_cases hj : j = k
      · subst hj
        rw [Function.update_self]
        split
        · next h => simp [h.2]
        · rfl
      · rw [Function.update_of_ne hj]

theorem heard_some {w : Ledger} {g : Fin 4 → List PeerVerdict → List PeerVerdict} {k : Fin 4}
    {l : Link} (h : (w.heard g).ctx k = some l) :
    ∃ l', w.ctx k = some l' ∧ l'.linked = l.linked ∧ l'.edge = l.edge ∧ l.peers = g k l'.peers := by
  obtain ⟨l', hl', rfl⟩ := Option.map_eq_some_iff.1 h
  exact ⟨l', hl', rfl, rfl, rfl⟩

theorem some_heard {w : Ledger} {k : Fin 4} {l : Link} (h : w.ctx k = some l)
    (g : Fin 4 → List PeerVerdict → List PeerVerdict) :
    (w.heard g).ctx k = some { l with peers := g k l.peers } := by
  simp only [heard, h, Option.map_some]

/-- A property that the ledger keeps under every command: `due` records await judgement within one. -/
structure Kept (P : List Nat → Ledger → Prop) : Prop where
  move : ∀ {d w d' w'}, Move d w d' w' → w.IdsSound → P d w → P d' w'
  now : ∀ {w : Ledger} (t : Ms), P [] w → P [] { w with now := t }
  release : ∀ {w : Ledger} {c : Core} {q : List Core}, w.queue = c :: q → c.isOpen = false →
    w.IdsSound → P [] w → P [] (w.release c)
  heard : ∀ {w : Ledger} (g : Fin 4 → List PeerVerdict → List PeerVerdict), P [] w → P [] (w.heard g)
  closed : ∀ {w : Ledger} (x : CauseEntry), P [] w → P [] { w with closed := x }
  lastEdge : ∀ {w : Ledger} (x : Option Ms), P [] w → P [] { w with lastEdge := x }
  /-- It holds of no records, no contexts and FREE slots. -/
  reset : ∀ {w : Ledger}, w.queue = [] → (∀ k, w.slot k = .free ∧ w.holders k = 0) →
    (∀ k, w.ctx k = none) → P [] w

end Ledger

theorem State.removeHead_ledger {s : State} (r : Record) :
    (s.removeHead r).ledger = s.ledger.release r.core := by
  have tail (u : State) : (u.withStore { u.store with queue := u.store.queue.tail }).ledger =
      { u.ledger with queue := u.ledger.queue.tail } :=
    congrArg (fun q => { u.ledger with queue := q }) List.map_tail
  unfold State.removeHead
  dsimp only
  rw [tail]
  unfold Ledger.release
  obtain ⟨_, _, _, _, _, _, _, _, _, _, _, _, _, _, wave, _⟩ := r
  cases wave with
  | absent why => rfl
  | present k o =>
    have dropped : (s.dropHold k).ledger = s.ledger.drop k := s.setSlot_ledger k _
    exact congrArg (fun w : Ledger => { w with queue := w.queue.tail }) dropped

theorem State.heard_ledger (s : State) (k : Fin 4) (v : PeerVerdict) :
    (s.editContext k fun c => c.addPeer v).ledger = s.ledger.heard fun j l =>
      if j = k ∧ ¬ l.any (fun p => p.addr == v.addr) then l ++ [v] else l := by
  simp only [State.ledger, Ledger.heard, State.editContext, State.setContext, State.withCorr_corr]
  rw [Ledger.mk.injEq]
  refine ⟨rfl, rfl, rfl, rfl, funext fun j => ?_, rfl, rfl, rfl, rfl⟩
  by_cases hj : j = k
  · subst hj
    simp only [Fin.getElem_fin, Vector.getElem_set_self, true_and]
    cases s.corr.slots[j.val] with
    | none => rfl
    | some c =>
      simp only [Option.map_some, Context.addPeer, Context.tie]
      by_cases hv : (c.peers.any fun p => p.addr == v.addr) = true <;> simp [hv]
  · simp only [hj, false_and, if_false, Fin.getElem_fin,
      Vector.getElem_set_ne (h := Ne.symm (Fin.val_ne_of_ne hj))]
    cases s.corr.slots[j.val] <;> rfl

/-- Every command keeps the ids in order, and what the ledger keeps with them. -/
theorem exec_kept {P : List Nat → Ledger → Prop} (hP : Ledger.Kept P) {i : Instr} {s s' : State}
    (ids : s.ledger.IdsSound) (h : P [] s.ledger) (he : exec i s = .next s') :
    s'.ledger.IdsSound ∧ P [] s'.ledger := by
  have elapsed (t : Nat) : P [] (s.elapse t).ledger := hP.now _ h
  have ids' (t : Nat) : (s.elapse t).ledger.IdsSound := ids
  cases exec_booked he with
  | moves t moved => exact Ledger.Moves.keep hP.move (moved []) (ids' t) (elapsed t)
  | reset straps low psel e =>
    subst e
    refine ⟨⟨Nat.zero_le 48, le_rfl, ?_, fun i hi => absurd hi (by simp [Ledger.ids, State.ledger,
      State.afterPinReset, storeReset]), fun id hid => absurd hid (by simp [Ledger.ids, State.ledger,
      State.afterPinReset, storeReset])⟩, hP.reset rfl (fun k => ?_) fun k => ?_⟩
    · show 1 ≤ 65535; omega
    · simp [State.ledger, State.afterPinReset, capReset, slotReset]
    · simp [State.ledger, State.afterPinReset, corrReset]
  | release t r rest hq hr e =>
    have queue : (s.elapse t).ledger.queue = r.core :: rest.map Record.core := by
      simp only [State.ledger, State.elapse_store, hq, List.map_cons]
    rw [e, State.removeHead_ledger]
    refine ⟨?_, hP.release queue hr (ids' t) (elapsed t)⟩
    have sound := ids' t
    unfold Ledger.IdsSound Ledger.ids at sound ⊢
    rw [Ledger.release_eq, queue]
    rw [queue] at sound
    exact sound.tail
  | peer t k v hv e =>
    rw [e, State.heard_ledger]
    exact ⟨ids, hP.heard _ (elapsed t)⟩
  | causes t e =>
    rw [e]
    exact ⟨ids, hP.closed _ (elapsed t)⟩
  | linkReset t e =>
    rw [e]
    exact ⟨ids, hP.lastEdge _ (elapsed t)⟩

/-! The invariants of the obligations, as the ledger has them. -/

theorem Record.names_iff (r : Record) (k : Fin 8) : r.names k = (r.core.slot == some k) := by
  unfold Record.names
  simp only [Record.core]
  cases r.wave <;> simp [WavePart.slot]

theorem State.ledger_filling (s : State) (r : Record) : s.ledger.filling r.core = s.slotFilling r := by
  unfold Ledger.filling State.slotFilling
  simp only [Record.core]
  cases r.wave <;> simp [WavePart.slot, State.ledger]

/-- The ids are in order, with the store within its capacity. -/
theorem State.idsSound_iff (s : State) : s.ledger.IdsSound ↔
    s.idsInOrder ∧ s.store.queue.length ≤ 48 ∧ 1 ≤ s.store.nextId ∧ s.store.nextId ≤ 65535 := by
  have length : s.ledger.ids.length = s.store.queue.length := by simp [Ledger.ids, State.ledger]
  have get (i : Nat) (h : i < s.ledger.ids.length) :
      s.ledger.ids[i] = (s.store.queue[i]'(length ▸ h)).id := by
    simp [Ledger.ids, State.ledger, Record.core]
  constructor
  · intro h
    refine ⟨fun i => ?_, length ▸ h.room, h.one, h.top⟩
    have hi : i.val < s.ledger.ids.length := length.symm ▸ i.isLt
    have order := h.order i hi
    have range := h.range _ (List.getElem_mem hi)
    rw [get i hi] at order range
    simp only [length] at order
    exact ⟨order, range⟩
  · rintro ⟨order, room, one, top⟩
    refine ⟨length ▸ room, one, top, fun i hi => ?_, fun id hid => ?_⟩
    · rw [get i hi]
      simp only [length]
      exact (order ⟨i, length ▸ hi⟩).1
    · obtain ⟨i, hi, rfl⟩ := List.mem_iff_getElem.1 hid
      rw [get i hi]
      exact (order ⟨i, length ▸ hi⟩).2

theorem State.idsSound_of {s : State} (order : s.idsInOrder) (capacity : s.withinCapacity) :
    s.ledger.IdsSound := by
  have fits := s.withinCapacity_iff.1 capacity
  exact s.idsSound_iff.2 ⟨order, fits.records, fits.nextId⟩

theorem State.counted_iff (s : State) :
    s.ledger.Counted ↔ s.holdersCountRecords ∧ s.closedAreNotFilling := by
  have count (k : Fin 8) : (s.ledger.queue.countP fun c => c.slot == some k) =
      s.store.queue.countP fun r => r.names k := by
    simp only [State.ledger, List.countP_map]
    exact List.countP_congr fun r _ => by simp [r.names_iff]
  have inUse (k : Fin 8) : ¬ (s.ledger.slot k = .filling ∨ s.ledger.slot k = .held) ↔
      s.cap.slots[k].inUse = false := by
    simp [State.ledger, Slot.inUse]
  constructor
  · intro h
    refine ⟨⟨fun k => (h.count k).trans (count k), fun k => (h.used k).trans (inUse k)⟩,
      fun r hr ho => ?_⟩
    rw [← s.ledger_filling]
    exact h.closed r.core (List.mem_map_of_mem hr) ho
  · rintro ⟨⟨holders, used⟩, closed⟩
    refine ⟨fun k => (holders k).trans (count k).symm, fun k => (used k).trans (inUse k).symm,
      fun c hc ho => ?_⟩
    obtain ⟨r, hr, rfl⟩ := List.mem_map.1 hc
    rw [s.ledger_filling]
    exact closed r hr ho

theorem State.waits_iff (s : State) : Ledger.Waits [] s.ledger ↔ s.openRecordsWait := by
  constructor
  · intro h r hr ho
    rw [← s.ledger_closable]
    exact h r.core (List.mem_map_of_mem hr) ho (by simp)
  · intro h c hc ho _
    obtain ⟨r, hr, rfl⟩ := List.mem_map.1 hc
    rw [s.ledger_closable]
    exact h r hr ho

theorem State.ledger_ctx_some {s : State} {k : Fin 4} {l : Link} (h : s.ledger.ctx k = some l) :
    ∃ c, s.corr.slots[k] = some c ∧ c.tie = l := Option.map_eq_some_iff.1 h

theorem DetMode.eventId_eq_some {m : DetMode} {id : Nat} :
    m.eventId = some id ↔ ∃ x expiry, m = .event x id expiry := by
  cases m <;> simp [DetMode.eventId]

theorem State.reasons_iff (s : State) : s.ledger.Reasons ↔ s.flagsHaveReasons := by
  have linked (r : Record) : (∃ k l, s.ledger.ctx k = some l ∧ l.linked = r.core.id) ↔
      ∃ (k : Fin 4) (c : Context), s.corr.slots[k] = some c ∧ c.linked = r.id := by
    constructor
    · rintro ⟨k, l, hk, hl⟩
      obtain ⟨c, hc, rfl⟩ := State.ledger_ctx_some hk
      exact ⟨k, c, hc, hl⟩
    · rintro ⟨k, c, hk, hl⟩
      exact ⟨k, c.tie, State.ledger_ctx hk, hl⟩
  have running (r : Record) : s.ledger.event = some r.core.id ↔
      ∃ m expiry, s.det.mode = .event m r.id expiry := DetMode.eventId_eq_some
  constructor
  · intro h r hr
    obtain ⟨run, anchor⟩ := h r.core (List.mem_map_of_mem hr)
    exact ⟨fun hrun => (running r).1 (run hrun), fun ha => (linked r).1 (anchor ha)⟩
  · intro h c hc
    obtain ⟨r, hr, rfl⟩ := List.mem_map.1 hc
    obtain ⟨run, anchor⟩ := h r hr
    exact ⟨fun hrun => (running r).2 (run hrun), fun ha => (linked r).2 (anchor ha)⟩

theorem State.linked_iff (s : State) : s.ledger.Linked ↔ s.linkedAreOpen := by
  have holds (id : Nat) : s.ledger.Holds id ↔
      ∃ r ∈ s.store.queue, r.id = id ∧ r.isOpen = true ∧ r.anchorOpen = true := by
    constructor
    · rintro ⟨c, hc, is⟩
      obtain ⟨r, hr, rfl⟩ := List.mem_map.1 hc
      exact ⟨r, hr, is⟩
    · rintro ⟨r, hr, is⟩
      exact ⟨r.core, List.mem_map_of_mem hr, is⟩
  constructor
  · intro h
    exact ⟨fun k c hk h0 => (holds c.linked).1 (h.holds k c.tie (State.ledger_ctx hk) h0),
      fun j k c d hjk hj hk h0 =>
        h.single j k c.tie d.tie hjk (State.ledger_ctx hj) (State.ledger_ctx hk) h0⟩
  · rintro ⟨open', single⟩
    refine ⟨fun k l hk h0 => ?_, fun j k l m hjk hj hk h0 => ?_⟩
    · obtain ⟨c, hc, rfl⟩ := State.ledger_ctx_some hk
      exact (holds c.linked).2 (open' k c hc h0)
    · obtain ⟨c, hc, rfl⟩ := State.ledger_ctx_some hj
      obtain ⟨d, hd, rfl⟩ := State.ledger_ctx_some hk
      exact single j k c d hjk hc hd h0

/-! What the ledger keeps under every command. -/

theorem Ledger.kept_counted : Ledger.Kept fun _ w => w.Counted where
  move m hw h := m.counted hw h
  now _ h := ⟨h.count, h.used, h.closed⟩
  heard _ h := ⟨h.count, h.used, h.closed⟩
  closed _ h := ⟨h.count, h.used, h.closed⟩
  lastEdge _ h := ⟨h.count, h.used, h.closed⟩
  reset {w} hq hk hc := ⟨fun k => by simp [hq, hk k], fun k => by simp [hk k],
    fun c hc => absurd hc (by simp [hq])⟩
  release {w c q} hq ho hw h := by
    have closed : ∀ d ∈ (w.release c).queue, d.isOpen = false → (w.release c).filling d = false := by
      intro d hd hdo
      rw [Ledger.release_filling]
      refine h.closed d ?_ hdo
      rw [Ledger.release_eq, hq] at hd
      rw [hq]
      exact List.mem_cons_of_mem c hd
    have count (k : Fin 8) := h.count k
    have used (k : Fin 8) := h.used k
    have notFilling := h.closed c (by simp [hq]) ho
    unfold Ledger.release at closed ⊢
    cases hs : c.slot with
    | none =>
      rw [hs] at closed
      refine ⟨fun k => (count k).trans ?_, used, closed⟩
      simp [hq, hs]
    | some k =>
      rw [hs] at closed
      have counted := count k
      rw [hq, List.countP_cons, hs] at counted
      have notFilling : w.slot k ≠ .filling := by simpa [Ledger.filling, hs] using notFilling
      refine ⟨fun j => ?_, fun j => ?_, closed⟩
      · by_cases hj : j = k
        · subst hj
          simp only [Option.elim_some, Ledger.drop, Ledger.setSlot, Function.update_self, hq,
            List.tail_cons]
          simp at counted
          omega
        · have other := count j
          rw [hq, List.countP_cons, hs] at other
          simpa [Ledger.drop, Ledger.setSlot, hj, hq, Ne.symm hj] using other
      · by_cases hj : j = k
        · subst hj
          simp only [Option.elim_some, Ledger.drop, Ledger.setSlot, Function.update_self]
          have inUse : w.slot j = .held := by
            by_contra hn
            have := (used j).2 (by simp [notFilling, hn])
            simp at counted
            omega
          by_cases h0 : w.holders j - 1 = 0 <;> simp [h0, inUse]
        · simpa [Ledger.drop, Ledger.setSlot, hj] using used j

theorem Ledger.kept_waits : Ledger.Kept Ledger.Waits where
  move m hw h := m.waits hw h
  now _ h := h
  heard _ h := h
  closed _ h := h
  lastEdge _ h := h
  reset hq _ _ := fun c hc => absurd hc (by simp [hq])
  release {w c q} hq ho hw h := by
    intro d hd hdo _
    have hmem : d ∈ w.queue := by
      rw [Ledger.release_eq, hq] at hd
      rw [hq]
      exact List.mem_cons_of_mem c hd
    exact closable_mono (fun hf => by rwa [Ledger.release_filling]) (h d hmem hdo (by simp))

theorem Ledger.kept_reasons : Ledger.Kept fun _ w => w.Reasons where
  move m hw h := m.reasons hw h
  now _ h := h
  heard g h := fun c hc => by
    obtain ⟨run, anchor⟩ := h c hc
    refine ⟨run, fun ha => ?_⟩
    obtain ⟨k, l, hk, hl⟩ := anchor ha
    exact ⟨k, _, some_heard hk g, hl⟩
  closed _ h := h
  lastEdge _ h := h
  reset hq _ _ := fun c hc => absurd hc (by simp [hq])
  release {w c q} hq ho hw h := by
    intro d hd
    rw [Ledger.release_eq, hq] at hd
    rw [Ledger.release_eq]
    exact h d (by rw [hq]; exact List.mem_cons_of_mem c hd)

theorem Ledger.kept_linked : Ledger.Kept fun _ w => w.Linked where
  move m hw h := m.linked hw h
  now _ h := h.of_same rfl fun _ hi => hi
  heard g h := by
    refine ⟨fun k l hk h0 => ?_, fun j k l m hjk hj hk h0 => ?_⟩
    · obtain ⟨l', hl', linked, -⟩ := heard_some hk
      have held := h.holds k l' hl' (linked.symm ▸ h0)
      rw [linked] at held
      exact held
    · obtain ⟨l', hl', linkedl, -⟩ := heard_some hj
      obtain ⟨m', hm', linkedm, -⟩ := heard_some hk
      rw [← linkedl, ← linkedm]
      exact h.single j k l' m' hjk hl' hm' (linkedl.symm ▸ h0)
  closed _ h := h.of_same rfl fun _ hi => hi
  lastEdge _ h := h.of_same rfl fun _ hi => hi
  reset _ _ hc := ⟨fun k l hk => absurd hk (by simp [hc]), fun j k l m _ hj => absurd hj (by simp [hc])⟩
  release {w c q} hq ho hw h := by
    refine h.of_same (by rw [Ledger.release_eq]) fun i ⟨d, hd, hid, hdo, ha⟩ => ?_
    refine ⟨d, ?_, hid, hdo, ha⟩
    rw [Ledger.release_eq]
    rw [hq] at hd ⊢
    rcases List.mem_cons.1 hd with rfl | hd
    · exact absurd (hdo.symm.trans ho) (by simp)
    · exact hd

/-- Settles O11: the moves of the ledger keep the counts. -/
theorem holdersCountTheRecords : Obligations.HoldersCountTheRecords := by
  unfold Obligations.HoldersCountTheRecords
  rintro s s' ⟨holders, closed, order, capacity⟩ h
  have kept : s'.ledger.IdsSound ∧ s'.ledger.Counted ∧ Fits s' := by
    refine step_keeps (P := fun s => s.ledger.IdsSound ∧ s.ledger.Counted ∧ Fits s) ?_ ?_
      ⟨State.idsSound_of order capacity, s.counted_iff.2 ⟨holders, closed⟩,
        s.withinCapacity_iff.1 capacity⟩ h
    · exact fun s q h => ⟨h.1, h.2.1, { h.2.2 with }⟩
    · rintro i s s' ⟨ids, counted, fits⟩ he
      obtain ⟨ids', counted'⟩ := exec_kept Ledger.kept_counted ids counted he
      exact ⟨ids', counted', exec_fits fits he⟩
  obtain ⟨ids, counted, fits⟩ := kept
  obtain ⟨holders', closed'⟩ := s'.counted_iff.1 counted
  exact ⟨holders', closed', (s'.idsSound_iff.1 ids).1, s'.withinCapacity_iff.2 fits⟩

end Sys2Proof.Machine
end

section
/-! The statements on records, contexts, peers, times and edges that the ledger keeps. -/

namespace Sys2Proof.Machine

/-! Records close and stay CLOSED (R149). -/

/-- Of one record before and after: CLOSED it stays CLOSED, and RECORD_CLOSED is raised where it
closes. -/
def ClosedOnce (s s' : State) : Prop :=
  ∀ r ∈ s.store.queue, ∀ r' ∈ s'.store.queue, r'.id = r.id →
    (r.isOpen = false → r'.isOpen = false) ∧
    (r.isOpen = true → r'.isOpen = false → s'.ctl.causes[8] = ⟨true, 0, false⟩)

theorem Ledger.ClosesFrom.refl (w : Ledger) : ClosesFrom w w := fun c hc =>
  ⟨c, hc, rfl, fun h => h, fun h h' => absurd (h.symm.trans h') (by simp)⟩

/-- The ledger's records, with ids in order at the end. -/
theorem closedOnce_of_ledger {s s' : State} {w : Ledger} (hq : w.queue = s.ledger.queue)
    (ids : s'.ledger.IdsSound) (h : Ledger.ClosesFrom w s'.ledger) : ClosedOnce s s' := by
  intro r hr r' hr' hid
  obtain ⟨c, hc, hcid, stays, closes⟩ := h r.core (hq ▸ List.mem_map_of_mem hr)
  obtain rfl := ids.unique hc (List.mem_map_of_mem hr') (hcid.trans hid.symm)
  exact ⟨stays, closes⟩

/-- A queue whose records are among those before. -/
theorem closedOnce_of_sub {s s' : State} (ids : s.ledger.IdsSound)
    (h : ∀ c ∈ s'.ledger.queue, c ∈ s.ledger.queue) : ClosedOnce s s' := by
  intro r hr r' hr' hid
  have same : r'.core = r.core := ids.unique (h _ (List.mem_map_of_mem hr')) (List.mem_map_of_mem hr) hid
  have same : r'.isOpen = r.isOpen := congrArg Core.isOpen same
  exact ⟨fun ho => same.trans ho, fun ho hc => absurd (ho.symm.trans (same.symm.trans hc)) (by simp)⟩

/-- Every command keeps the ids in order. -/
theorem exec_ids {i : Instr} {s s' : State} (ids : s.ledger.IdsSound) (he : exec i s = .next s') :
    s'.ledger.IdsSound :=
  (exec_kept (P := fun _ _ => True) ⟨fun _ _ h => h, fun _ h => h, fun _ _ _ h => h, fun _ h => h,
    fun _ h => h, fun _ h => h, fun _ _ _ => trivial⟩ ids trivial he).1

theorem exec_closedOnce {i : Instr} {s s' : State} (ids : s.ledger.IdsSound)
    (he : exec i s = .next s') : ClosedOnce s s' := by
  have ids' := exec_ids ids he
  cases exec_booked he with
  | moves t moved =>
    have closes : Ledger.ClosesFrom (s.elapse t).ledger s'.ledger :=
      (Ledger.Moves.keep (P := fun _ w => Ledger.ClosesFrom (s.elapse t).ledger w)
        (fun m _ h => m.closesFrom h) (moved []) ids (Ledger.ClosesFrom.refl _)).2
    exact closedOnce_of_ledger rfl ids' closes
  | reset straps low psel e =>
    subst e
    intro r _ r' hr'
    exact absurd hr' (by simp [State.afterPinReset, storeReset])
  | release t r rest hq hr e =>
    refine closedOnce_of_sub ids fun c hc => ?_
    rw [e, State.removeHead_ledger, Ledger.release_eq] at hc
    exact List.mem_of_mem_tail hc
  | peer t k v hv e =>
    refine closedOnce_of_sub ids fun c hc => ?_
    rw [e, State.heard_ledger] at hc
    exact hc
  | causes t e => exact closedOnce_of_sub ids fun c hc => by rw [e] at hc; exact hc
  | linkReset t e => exact closedOnce_of_sub ids fun c hc => by rw [e] at hc; exact hc

/-- Settles O12: a chain of moves leaves no judgement due, and only a judgement closes a record. -/
theorem openRecordsWaitForSomething : Obligations.OpenRecordsWaitForSomething := by
  unfold Obligations.OpenRecordsWaitForSomething
  rintro s s' ⟨waits, holders, closed, order, capacity⟩ h
  have start : s.ledger.IdsSound := State.idsSound_of order capacity
  obtain ⟨holders', closed', order', capacity'⟩ :=
    holdersCountTheRecords s s' ⟨holders, closed, order, capacity⟩ h
  have waits' : s'.ledger.IdsSound ∧ Ledger.Waits [] s'.ledger :=
    step_keeps (P := fun s => s.ledger.IdsSound ∧ Ledger.Waits [] s.ledger) (fun _ _ h => h)
      (fun i s s' h he => exec_kept Ledger.kept_waits h.1 h.2 he) ⟨start, s.waits_iff.2 waits⟩ h
  refine ⟨s'.waits_iff.1 waits'.2, holders', closed', order', capacity', ?_⟩
  show ClosedOnce s s'
  rcases step_cases h with same | ⟨c, rest, he⟩
  · subst same
    exact closedOnce_of_sub start fun _ hc => hc
  · exact exec_closedOnce (s := s.withPending rest) start he

/-- Settles O13: the moves of the ledger keep the reasons of the flags, and the links. -/
theorem recordFlagsHaveReasons : Obligations.RecordFlagsHaveReasons := by
  unfold Obligations.RecordFlagsHaveReasons
  have capacity {s s' : State} (hs : s.withinCapacity) (h : step s = .next s') : s'.withinCapacity :=
    s'.withinCapacity_iff.2 (step_keeps (P := Fits) (fun _ _ h => { h with })
      (fun i s s' h he => exec_fits h he) (s.withinCapacity_iff.1 hs) h)
  constructor
  · rintro s s' ⟨reasons, order, fits⟩ h
    have kept : s'.ledger.IdsSound ∧ s'.ledger.Reasons :=
      step_keeps (P := fun s => s.ledger.IdsSound ∧ s.ledger.Reasons) (fun _ _ h => h)
        (fun i s s' h he => exec_kept Ledger.kept_reasons h.1 h.2 he)
        ⟨State.idsSound_of order fits, s.reasons_iff.2 reasons⟩ h
    exact ⟨s'.reasons_iff.1 kept.2, (s'.idsSound_iff.1 kept.1).1, capacity fits h⟩
  · rintro s s' ⟨linked, order, fits⟩ h
    have kept : s'.ledger.IdsSound ∧ s'.ledger.Linked :=
      step_keeps (P := fun s => s.ledger.IdsSound ∧ s.ledger.Linked) (fun _ _ h => h)
        (fun i s s' h he => exec_kept Ledger.kept_linked h.1 h.2 he)
        ⟨State.idsSound_of order fits, s.linked_iff.2 linked⟩ h
    exact ⟨s'.linked_iff.1 kept.2, (s'.idsSound_iff.1 kept.1).1, capacity fits h⟩

/-! The peer verdict lists and the own peer entry (ch. 7 sec. 7.1, R133). -/

/-- The own entry of the peer table is ABSENT with nothing known. -/
def OwnAbsent (own : Fin 16) (s : State) : Prop := s.link.peers[own] = peerReset

/-- An operation that keeps the peer table, or resets it. -/
def PeersStand (s u : State) : Prop :=
  u.link.peers = s.link.peers ∨ u.link.peers = Vector.replicate 16 peerReset

theorem OwnAbsent.of_stand {own : Fin 16} {s u : State} (h : OwnAbsent own s) (hp : PeersStand s u) :
    OwnAbsent own u := by
  unfold OwnAbsent
  rcases hp with hp | hp
  · rw [hp]; exact h
  · simp [hp]

theorem OwnAbsent.of_frame {own : Fin 16} {bs : List Block} {s u : State} (h : OwnAbsent own s)
    (frame : Frame bs s u) (hb : Block.link ∉ bs) : OwnAbsent own u := by
  have link : u.link = s.link := frame.only.1 .link hb
  exact h.of_stand (.inl (by rw [link]))

theorem State.reportQueue_link (s : State) : s.reportQueue.link = s.link :=
  s.reportQueue_frame.only.1 .link (by decide)

theorem State.dropReport_link (s : State) (edge : Ms) (id : Nat) : (s.dropReport edge id).link = s.link :=
  (s.dropReport_frame edge id).only.1 .link (by decide)

theorem State.handVerdict_peers (s : State) (v : QueuedVerdict) :
    (s.handVerdict v).link.peers = s.link.peers := by
  have removed (l : NoticeLink) (i : Nat) : (l.removeAt i).peers = l.peers := by
    unfold NoticeLink.removeAt; split <;> rfl
  unfold State.handVerdict
  split
  · rw [State.dropReport_link]
  · split
    · rfl
    · split
      · exact removed _ _
      · rw [State.dropReport_link]

theorem State.correlationTakes_peers (s : State) : s.correlationTakes.link.peers = s.link.peers := by
  have judged (u : State) (e : Refresh) (k : Fin 4) : (u.judgeContext e k).link.peers = u.link.peers := by
    unfold State.judgeContext
    split
    · rfl
    · refine ite_keeps (P := fun v : State => v.link.peers = u.link.peers) ?_ ?_
      · rw [State.handVerdict_peers]; rfl
      · rw [State.editRecord_link, State.handVerdict_peers]; rfl
  unfold State.correlationTakes
  split
  · rfl
  · exact foldl_keeps (P := fun v : State => v.link.peers = s.link.peers)
      (fun u k hu => (judged u _ k).trans hu) _ rfl

theorem State.linkStops_peers (s : State) (k : Stop) : PeersStand s (s.linkStops k) := by
  have reported : s.reportQueue.link.peers = s.link.peers := by rw [s.reportQueue_link]
  cases k with
  | halt => exact .inl reported
  | restart low tableFirst =>
    cases tableFirst
    · exact .inr rfl
    · exact .inl reported

theorem OwnAbsent.calm (own : Fin 16) : Calm (OwnAbsent own) where
  capture s id a failed h := h.of_frame (s.captureRequest_frame id a failed) (by decide)
  add s r t _ h := h.of_frame (s.addRecord_frame r t) (by decide)
  edit s id f _ h := h
  judge s id h := h.of_frame (s.judge_frame id) (by decide)
  tally s c r m d h := h
  contexts s x _ h := h
  det s x _ h := h
  ends s n h := h
  edge s x _ _ h := h

theorem OwnAbsent.calmStop (own : Fin 16) (k : Stop) : CalmStop (OwnAbsent own) k where
  toCalm := OwnAbsent.calm own
  handed _ _ h := h
  store s h := h
  link s h := h.of_stand (s.linkStops_peers k)
  clear _ s h := h.of_stand (.inr rfl)
  mark s h := h.of_frame (s.markStops_frame k) (by decide)
  corr s h := h
  cap s h := h.of_frame (s.capStops_frame k) (by decide)
  agg s h := h.of_frame s.aggTakesStop_frame (by decide)
  tracker s h := h.of_frame s.trackerTakes_frame (by decide)
  report s h := h.of_frame s.trackerTakesReport_frame (by decide)
  correlation s h := h.of_stand (.inl s.correlationTakes_peers)
  aggregator s h := h.of_frame s.aggregatorTakes_frame (by decide)
  free s n h := h

theorem OwnAbsent.setPeer {own : Fin 16} {s : State} (h : OwnAbsent own s) {a : Fin 16} (ha : a ≠ own)
    (p : Peer) : OwnAbsent own (s.setPeer a p) := by
  unfold OwnAbsent
  simp only [State.setPeer, State.withLink_link, Fin.getElem_fin]
  rw [Vector.getElem_set_ne (h := Fin.val_ne_of_ne ha)]
  exact h

theorem OwnAbsent.judgeFrame {s : State} (h : OwnAbsent s.ctl.straps.addr s) :
    OwnAbsent s.ctl.straps.addr s.judgeFrame := by
  unfold State.judgeFrame
  split
  · exact h
  · next n _ =>
    dsimp only
    split
    · exact h
    split
    · exact h
    next other =>
    have heard : OwnAbsent s.ctl.straps.addr ((s.withLink s.link.endFrame).updatePeer n s.link.rxLeader) := by
      have set : OwnAbsent s.ctl.straps.addr ((s.withLink s.link.endFrame).setPeer (senderOf n)
        (((s.withLink s.link.endFrame).link.peers[senderOf n]).hear n s.link.rxLeader)) :=
        OwnAbsent.setPeer (s := s.withLink s.link.endFrame) h other _
      exact ite_keeps set set
    unfold State.takeNotice
    split
    · exact heard
    · refine ite_keeps ?_ heard
      unfold State.matchVerdict
      split
      · exact heard
      · exact heard.setPeer other _

/-- Every command but PIN_RESET keeps the own peer entry ABSENT. -/
theorem exec_ownAbsent {i : Instr} {s s' : State} (h : OwnAbsent s.ctl.straps.addr s)
    (hi : ∀ straps low psel, i ≠ .pinReset straps low psel) (he : exec i s = .next s') :
    OwnAbsent s.ctl.straps.addr s' := by
  have out {u : State} (e : exec i s = .next u) (hu : OwnAbsent s.ctl.straps.addr u) :
      OwnAbsent s.ctl.straps.addr s' := by
    rw [e] at he
    injection he with e
    exact e ▸ hu
  have calm := OwnAbsent.calm s.ctl.straps.addr
  have elapsed (t : Nat) : OwnAbsent s.ctl.straps.addr (s.elapse t) := h
  have linked (u : State) (x : NoticeLink) (hx : x.peers = s.link.peers) :
      OwnAbsent s.ctl.straps.addr (u.withLink x) := by
    unfold OwnAbsent
    simp only [State.withLink_link, hx]
    exact h
  have popped : s.link.popHead.peers = s.link.peers := rfl
  cases i with
  | pinReset straps low psel => exact absurd rfl (hi straps low psel)
  | positionClose checks =>
    have events (u : State) (hu : OwnAbsent s.ctl.straps.addr u) :
        OwnAbsent s.ctl.straps.addr (s.eventsOf checks u) :=
      hu.of_frame (s.eventsOf_frame checks u) (by decide)
    have measured : OwnAbsent s.ctl.straps.addr s.measured :=
      (elapsed _).of_frame s.measured_frame (by decide)
    refine out (exec_positionClose checks s) (ite_keeps ?_ (events _ measured))
    exact (OwnAbsent.calmStop _ .halt).takeStop _ _ events measured
  | correlationTakesRefresh t =>
    exact out rfl ((elapsed t).of_stand (.inl (State.correlationTakes_peers _)))
  | presentPeriodExpiry t =>
    refine out rfl ?_
    split
    · exact h
    · refine ite_keeps (linked (s.elapse t) s.link.handPresent ?_) h
      unfold NoticeLink.handPresent
      split <;> rfl
  | attemptStart t =>
    refine out rfl ?_
    split
    · exact h
    · exact ite_keeps (linked _ _ rfl) h
  | readbackMismatch t =>
    refine out rfl ?_
    split
    · exact h
    · exact ite_keeps (ite_keeps (linked _ _ rfl) (ite_keeps (linked _ _ rfl) (linked _ _ rfl))) h
  | attemptSuccess t =>
    refine out rfl (ite_keeps ?_ h)
    exact linked _ _ rfl
  | frameMalformed t fault =>
    refine out rfl (ite_keeps ?_ h)
    exact linked (s.elapse t) (s.link.dropFrame _) rfl
  | frameComplete t => exact out rfl (ite_keeps (elapsed t).judgeFrame h)
  | receiverRecovered t =>
    refine out rfl (ite_keeps ?_ h)
    exact linked _ _ rfl
  | peerAgingExpiry t a =>
    refine out rfl ?_
    split
    · next hp =>
      rw [Bool.and_eq_true] at hp
      have other : a ≠ s.ctl.straps.addr := fun e => by
        subst e
        have absent := h
        unfold OwnAbsent at absent
        have present := hp.1
        simp only [State.elapse_link, absent, peerReset] at present
        exact absurd present (by simp)
      exact (elapsed t).setPeer other _
    · exact h
  | contextClose t k =>
    refine out rfl ?_
    split
    · exact h
    · refine ite_keeps ?_ h
      have expired (edge : Ms) : OwnAbsent s.ctl.straps.addr ((s.elapse t).windowExpiry edge) := by
        unfold State.windowExpiry
        split
        · exact h
        · refine ite_keeps (linked _ _ rfl) (linked _ _ ?_)
          unfold NoticeLink.removeAt
          split <;> rfl
      dsimp only
      split
      · exact expired _
      · exact (expired _).of_frame (State.closeContext_frame _ _ _) (by decide)
  | start t =>
    refine out rfl (ite_keeps ?_ h)
    split
    · refine ite_keeps h (linked (s.elapse t)
        ({ s.link with view := .run } : NoticeLink).handPresent ?_)
      unfold NoticeLink.handPresent
      split <;> rfl
    · exact h
    · exact h
  | restart t low =>
    refine out (exec_restart t low s) (ite_keeps ?_ h)
    exact (OwnAbsent.calmStop _ (.restart low (s.elapse t).order.tableFirst)).takeStop
      (s.elapse t).order (s.elapse t).order.checkFails (act := id) (fun _ hu => hu) (elapsed t)
  | linkReset t low =>
    refine out rfl (ite_keeps ?_ h)
    exact (elapsed t).of_stand (.inr rfl)
  | noticeFallingEdge t e =>
    exact out rfl (ite_keeps (linked _ _ (s.link.takeEdge_keeps _ _ e).2.2.1) h)
  | _ =>
    have link : s'.link = s.link :=
      (commandsKeepWhatIsNotTheirs _ s s' he).1.1 .link (by simp [touches])
    exact h.of_stand (.inl (by rw [link]))

theorem Ledger.Moves.peersSound {own : Fin 16} {d d' : List Nat} {w w' : Ledger}
    (m : Ledger.Moves d w d' w') (h : Ledger.PeersSound own w) : Ledger.PeersSound own w' := by
  induction m with
  | refl => exact h
  | step _ m ih => exact m.peersSound (ih h)

/-- An entry of another address added to a list that has none of it. -/
theorem peerListSound_add {own : Fin 16} {l : List PeerVerdict} (h : peerListSound own l)
    {v : PeerVerdict} (hv : v.addr ≠ own) (new : l.any (fun p => p.addr == v.addr) = false) :
    peerListSound own (l ++ [v]) := by
  constructor
  · rw [List.map_append, List.nodup_append]
    refine ⟨h.1, by simp, fun a ha b hb => ?_⟩
    obtain ⟨p, hp, rfl⟩ := List.mem_map.1 ha
    rw [List.any_eq_false] at new
    have : p.addr ≠ v.addr := by simpa using new p hp
    simpa using (List.mem_singleton.1 hb) ▸ this
  · intro p hp
    rcases List.mem_append.1 hp with old | new
    · exact h.2 p old
    · rw [List.mem_singleton.1 new]
      exact hv

/-- Every command but PIN_RESET keeps the peer verdict lists sound. -/
theorem exec_peersSound {i : Instr} {s s' : State}
    (h : Ledger.PeersSound s.ctl.straps.addr s.ledger) (he : exec i s = .next s') :
    Ledger.PeersSound s.ctl.straps.addr s'.ledger := by
  have elapsed (t : Nat) : Ledger.PeersSound s.ctl.straps.addr (s.elapse t).ledger :=
    ⟨h.ctx, h.records⟩
  cases exec_booked he with
  | moves t moved => exact (moved []).peersSound (elapsed t)
  | reset straps low psel e =>
    subst e
    exact ⟨fun k l hk => absurd hk (by simp [State.ledger, State.afterPinReset, corrReset]),
      fun c hc => absurd hc (by simp [State.ledger, State.afterPinReset, storeReset])⟩
  | release t r rest hq hr e =>
    rw [e, State.removeHead_ledger, Ledger.release_eq]
    exact ⟨h.ctx, fun c hc => h.records c (List.mem_of_mem_tail hc)⟩
  | peer t k v hv e =>
    rw [e, State.heard_ledger]
    refine ⟨fun j l hj => ?_, h.records⟩
    obtain ⟨l', hl', -, -, peers⟩ := Ledger.heard_some hj
    have sound := h.ctx j l' hl'
    rw [peers]
    split
    · next new => exact peerListSound_add sound hv (by simpa using new.2)
    · exact sound
  | causes t e => rw [e]; exact ⟨h.ctx, h.records⟩
  | linkReset t e => rw [e]; exact ⟨h.ctx, h.records⟩

theorem State.peersSound_iff (s : State) : s.peersSound ↔
    Ledger.PeersSound s.ctl.straps.addr s.ledger ∧ OwnAbsent s.ctl.straps.addr s := by
  constructor
  · rintro ⟨ctx, records, own⟩
    refine ⟨⟨fun k l hk => ?_, fun c hc => ?_⟩, own⟩
    · obtain ⟨c, hc, rfl⟩ := State.ledger_ctx_some hk
      exact ctx k c hc
    · obtain ⟨r, hr, rfl⟩ := List.mem_map.1 hc
      exact records r hr
  · rintro ⟨⟨ctx, records⟩, own⟩
    exact ⟨fun k c hc => ctx k c.tie (State.ledger_ctx hc),
      fun r hr => records r.core (List.mem_map_of_mem hr), own⟩

/-- A list of distinct addresses other than the own one has 15 entries at most. -/
theorem peerListSound_length {own : Fin 16} {l : List PeerVerdict} (h : peerListSound own l) :
    l.length ≤ 15 := by
  have nodup : (own :: l.map PeerVerdict.addr).Nodup := by
    refine List.nodup_cons.2 ⟨fun hm => ?_, h.1⟩
    obtain ⟨p, hp, e⟩ := List.mem_map.1 hm
    exact h.2 p hp e
  have := nodup.length_le_card
  simp at this
  omega

/-- Settles O14. -/
theorem peerListsStaySound : Obligations.PeerListsStaySound := by
  unfold Obligations.PeerListsStaySound
  constructor
  · intro s s' sound h
    refine step_keeps (P := State.peersSound) (fun _ _ h => h) (fun i s s' hs he => ?_) sound h
    obtain ⟨lists, own⟩ := s.peersSound_iff.1 hs
    by_cases hi : ∃ straps low psel, i = .pinReset straps low psel
    · obtain ⟨straps, low, psel, rfl⟩ := hi
      injection he with he
      subst he
      exact ⟨fun k c hk => absurd hk (by simp [State.afterPinReset, corrReset]),
        fun r hr => absurd hr (by simp [State.afterPinReset, storeReset]),
        by simp [State.afterPinReset, linkReset, peerReset]⟩
    · have hi : ∀ straps low psel, i ≠ .pinReset straps low psel := fun a b c e => hi ⟨a, b, c, e⟩
      have straps := (strapsAndItemsStand.2 i s s' he hi).1
      rw [s'.peersSound_iff, straps]
      exact ⟨exec_peersSound lists he, exec_ownAbsent own hi he⟩
  · intro s sound
    exact ⟨fun k c hc => peerListSound_length (sound.1 k c hc),
      fun r hr => peerListSound_length (sound.2.1 r hr)⟩

end Sys2Proof.Machine
end

section
/-! Record times, sequence numbers of the intervals, and edge times (R122, R146, R164). -/

namespace Sys2Proof.Machine

/-! The interval ring (R164). -/

/-- The sequence numbers of the ring are those that precede the next one. -/
def SeqsFollow (seqs : List Nat) (next : Nat) : Prop :=
  next < 2 ^ 32 ∧ ∀ (i : Nat) (h : i < seqs.length),
    seqs[i] < 2 ^ 32 ∧ (seqs[i] + (seqs.length - i)) % 2 ^ 32 = next

theorem State.ringInOrder_iff (s : State) :
    s.ringInOrder ↔ SeqsFollow (s.agg.ring.map IntervalEntry.seq) s.agg.nextSeq := by
  constructor
  · rintro ⟨next, seqs⟩
    refine ⟨next, fun i h => ?_⟩
    rw [List.length_map] at h
    simpa using seqs ⟨i, h⟩
  · rintro ⟨next, seqs⟩
    refine ⟨next, fun i => ?_⟩
    simpa using seqs i (by simp)

theorem SeqsFollow.append {seqs : List Nat} {next : Nat} (h : SeqsFollow seqs next) :
    SeqsFollow (seqs ++ [next]) ((next + 1) % 2 ^ 32) := by
  refine ⟨Nat.mod_lt _ (by decide), fun i hi => ?_⟩
  rw [List.length_append, List.length_singleton] at hi ⊢
  have top := h.1
  rw [List.getElem_append]
  split
  · next hlt =>
    obtain ⟨lt, sum⟩ := h.2 i hlt
    exact ⟨lt, by omega⟩
  · have : i = seqs.length := by omega
    simp only [this, Nat.sub_self, List.getElem_singleton]
    exact ⟨top, by omega⟩

theorem SeqsFollow.tail {seqs : List Nat} {next : Nat} (h : SeqsFollow seqs next) :
    SeqsFollow seqs.tail next := by
  refine ⟨h.1, fun i hi => ?_⟩
  rw [List.length_tail] at hi ⊢
  obtain ⟨lt, sum⟩ := h.2 (i + 1) (by omega)
  rw [List.getElem_tail]
  exact ⟨lt, by rw [← sum]; congr 1; omega⟩

/-- The ring of a state is in order. -/
def Ringed (s : State) : Prop := SeqsFollow (s.agg.ring.map IntervalEntry.seq) s.agg.nextSeq

theorem Ringed.of_same {s u : State} (h : Ringed s) (ring : u.agg.ring = s.agg.ring)
    (next : u.agg.nextSeq = s.agg.nextSeq) : Ringed u := by
  unfold Ringed
  rw [ring, next]
  exact h

theorem Ringed.of_frame {bs : List Block} {s u : State} (h : Ringed s) (frame : Frame bs s u)
    (hb : Block.agg ∉ bs) : Ringed u := by
  have agg : u.agg = s.agg := frame.only.1 .agg hb
  exact h.of_same (by rw [agg]) (by rw [agg])

theorem Ringed.writeInterval {s : State} (h : Ringed s) (i : Interval) (length : Nat)
    (isPartial : Bool) (next : Option Interval) : Ringed (s.writeInterval i length isPartial next) := by
  show SeqsFollow ((pushEntry s.agg.ring (entryOf i s.agg.nextSeq length isPartial)).map
    IntervalEntry.seq) ((s.agg.nextSeq + 1) % 2 ^ 32)
  unfold pushEntry
  split
  · rw [List.map_append]
    exact SeqsFollow.append h
  · rw [List.map_append, List.map_tail]
    exact SeqsFollow.append (SeqsFollow.tail h)

theorem Ringed.aggTakesStop {s : State} (h : Ringed s) : Ringed s.aggTakesStop := by
  unfold State.aggTakesStop
  split
  · exact h
  · exact h.writeInterval _ _ _ _

theorem Ringed.aggregatorTakes {s : State} (h : Ringed s) : Ringed s.aggregatorTakes := by
  unfold State.aggregatorTakes
  split
  · exact h
  · exact h.of_same rfl rfl

theorem Ringed.calm : Calm Ringed where
  capture s id a failed h := h.of_frame (s.captureRequest_frame id a failed) (by decide)
  add s r t _ h := h.of_frame (s.addRecord_frame r t) (by decide)
  edit s id f _ h := h
  judge s id h := h.of_frame (s.judge_frame id) (by decide)
  tally s c r m d h := h
  contexts s x _ h := h
  det s x _ h := h
  ends s n h := h
  edge s x _ _ h := h

theorem Ringed.calmStop (k : Stop) : CalmStop Ringed k where
  toCalm := Ringed.calm
  handed _ _ h := h
  store s h := h
  link s h := h.of_frame (s.linkStops_frame k) (by decide)
  clear _ s h := h
  mark s h := h.of_frame (s.markStops_frame k) (by decide)
  corr s h := h
  cap s h := h.of_frame (s.capStops_frame k) (by decide)
  agg s h := h.aggTakesStop
  tracker s h := h.of_frame s.trackerTakes_frame (by decide)
  report s h := h.of_frame s.trackerTakesReport_frame (by decide)
  correlation s h := h.of_frame s.correlationTakes_frame (by decide)
  aggregator s h := h.aggregatorTakes
  free s n h := h

theorem Ringed.eventsOf {s : State} (checks : CloseChecks) {u : State} (h : Ringed u) :
    Ringed (s.eventsOf checks u) := by
  have locked : Ringed (u.handLockedCycle (u.ctl.state == .run) s.closedCycle) := by
    unfold State.handLockedCycle State.takeLockedCycle
    split
    · exact h
    · exact ite_keeps h h
  have ended : Ringed (u.handLockedCycle (u.ctl.state == .run) s.closedCycle).halfCycleEnd :=
    ite_keeps locked locked
  exact ite_keeps (ite_keeps (ended.of_frame (State.fillCopy_frame _ _ _) (by decide)) ended) locked

/-- Every command keeps the ring in order. -/
theorem exec_ringed {i : Instr} {s s' : State} (h : Ringed s) (he : exec i s = .next s') :
    Ringed s' := by
  have out {u : State} (e : exec i s = .next u) (hu : Ringed u) : Ringed s' := by
    rw [e] at he
    injection he with e
    exact e ▸ hu
  have elapsed (t : Nat) : Ringed (s.elapse t) := h
  cases i with
  | pinReset straps low psel =>
    exact out rfl ⟨by show 1 < 2 ^ 32; omega, fun i hi => absurd hi (by simp [State.afterPinReset, aggReset])⟩
  | positionClose checks =>
    have events (u : State) (hu : Ringed u) : Ringed (s.eventsOf checks u) := hu.eventsOf checks
    have measured : Ringed s.measured := (elapsed _).of_frame s.measured_frame (by decide)
    refine out (exec_positionClose checks s) (ite_keeps ?_ (events _ measured))
    exact (Ringed.calmStop .halt).takeStop _ _ events measured
  | aggregatorTakesRefresh t => exact out rfl (elapsed t).aggregatorTakes
  | intervalBoundary t =>
    refine out rfl ?_
    split
    · exact h
    · exact ite_keeps ((elapsed t).writeInterval _ _ _ _) h
  | start t =>
    refine out rfl (ite_keeps ?_ h)
    split
    · exact ite_keeps h h
    · exact h
    · exact h
  | restart t low =>
    refine out (exec_restart t low s) (ite_keeps ?_ h)
    exact (Ringed.calmStop (.restart low (s.elapse t).order.tableFirst)).takeStop
      (s.elapse t).order (s.elapse t).order.checkFails (act := id) (fun _ hu => hu) (elapsed t)
  | _ =>
    have agg : s'.agg = s.agg :=
      (commandsKeepWhatIsNotTheirs _ s s' he).1.1 .agg (by simp [touches])
    exact h.of_same (by rw [agg]) (by rw [agg])

/-! The record times (R146). -/

theorem State.timed_iff (s : State) : s.ledger.Timed ↔ s.recordTimesInOrder := by
  simp only [Ledger.Timed, State.ledger, List.map_map, List.pairwise_map]
  rfl

theorem Ledger.Moves.timed {d d' : List Nat} {w w' : Ledger} (m : Ledger.Moves d w d' w')
    (h : w.Timed) : w'.Timed := by
  induction m with
  | refl => exact h
  | step _ m ih => exact m.timed (ih h)

/-- Every command keeps the record times from decreasing. -/
theorem exec_timed {i : Instr} {s s' : State} (h : s.ledger.Timed) (he : exec i s = .next s') :
    s'.ledger.Timed := by
  cases exec_booked he with
  | moves t moved => exact (moved []).timed h
  | reset straps low psel e =>
    subst e
    simp [Ledger.Timed, State.ledger, State.afterPinReset, storeReset]
  | release t r rest hq hr e =>
    rw [e, State.removeHead_ledger, Ledger.release_eq]
    unfold Ledger.Timed at h ⊢
    rw [List.map_tail]
    exact List.Pairwise.tail h
  | peer t k v hv e => rw [e, State.heard_ledger]; exact h
  | causes t e => rw [e]; exact h
  | linkReset t e => rw [e]; exact h

/-- Settles O15. -/
theorem recordTimesAndSequenceNumbersRise : Obligations.RecordTimesAndSequenceNumbersRise := by
  unfold Obligations.RecordTimesAndSequenceNumbersRise
  constructor
  · intro s s' times h
    exact s'.timed_iff.1 (step_keeps (P := fun s => s.ledger.Timed) (fun _ _ h => h)
      (fun i s s' h he => exec_timed h he) (s.timed_iff.2 times) h)
  · intro s s' ring h
    exact s'.ringInOrder_iff.2 (step_keeps (P := Ringed) (fun _ _ h => h)
      (fun i s s' h he => exec_ringed h he) (s.ringInOrder_iff.1 ring) h)

/-! The edge times (R122). -/

theorem Ledger.Move.now {d d' : List Nat} {w w' : Ledger} (m : Ledger.Move d w d' w') :
    w'.now = w.now := by
  cases m with
  | judge _ id =>
    rcases w.judge_cases id with ⟨e, -⟩ | ⟨-, -, -, -, -, e⟩
    · rw [e]
    · rw [e]; rfl
  | _ => rfl

theorem Ledger.Moves.edgesDiffer {d d' : List Nat} {w w' : Ledger} (m : Ledger.Moves d w d' w')
    (h : w.EdgesDiffer) : w'.EdgesDiffer ∧ w'.now = w.now := by
  induction m with
  | refl => exact ⟨h, rfl⟩
  | step _ m ih =>
    obtain ⟨differ, now⟩ := ih h
    exact ⟨m.edgesDiffer differ, m.now.trans now⟩

theorem State.edgesDiffer_of_ledger {s : State}
    (h : ∀ j k l m, j ≠ k → s.ledger.ctx j = some l → s.ledger.ctx k = some m → l.edge ≠ m.edge) :
    s.edgesDiffer := fun j k c d hjk hc hd =>
  h j k c.tie d.tie hjk (State.ledger_ctx hc) (State.ledger_ctx hd)

theorem State.edgesDiffer_ledger {s : State} (h : s.edgesDiffer) (j k : Fin 4) (l m : Link)
    (hjk : j ≠ k) (hj : s.ledger.ctx j = some l) (hk : s.ledger.ctx k = some m) : l.edge ≠ m.edge := by
  obtain ⟨c, hc, rfl⟩ := State.ledger_ctx_some hj
  obtain ⟨d, hd, rfl⟩ := State.ledger_ctx_some hk
  exact h j k c d hjk hc hd

/-- A command keeps the edge times different where an edge of this millisecond is the last one. -/
theorem exec_edgesDiffer {i : Instr} {s s' : State} (h : s.edgesDiffer) (he : exec i s = .next s')
    (last : ∀ (k : Fin 4) (c : Context), s.corr.slots[k] = some c → c.edge = s'.now →
      s.mark.lastEdge = some c.edge) : s'.edgesDiffer := by
  have differ := s.edgesDiffer_ledger h
  refine State.edgesDiffer_of_ledger ?_
  cases exec_booked he with
  | moves t moved =>
    have now : s'.ledger.now = (s.elapse t).now := by
      have kept (w w' : Ledger) (d d' : List Nat) (m : Ledger.Moves d w d' w') : w'.now = w.now := by
        induction m with
        | refl => rfl
        | step _ m ih => exact m.now.trans ih
      exact kept _ _ _ _ (moved [])
    have start : (s.elapse t).ledger.EdgesDiffer := by
      refine ⟨differ, fun k l hk hl => ?_⟩
      obtain ⟨c, hc, rfl⟩ := State.ledger_ctx_some hk
      have := last k c hc (hl.trans now.symm)
      exact this.trans (congrArg some hl)
    exact ((moved []).edgesDiffer start).1.differ
  | reset straps low psel e =>
    subst e
    exact fun j k l m _ hj => absurd hj (by simp [State.ledger, State.afterPinReset, corrReset])
  | release t r rest hq hr e =>
    rw [e, State.removeHead_ledger, Ledger.release_eq]
    exact differ
  | peer t k v hv e =>
    rw [e, State.heard_ledger]
    intro i j l m hij hi hj
    obtain ⟨l', hl', -, el, -⟩ := Ledger.heard_some hi
    obtain ⟨m', hm', -, em, -⟩ := Ledger.heard_some hj
    rw [← el, ← em]
    exact differ i j l' m' hij hl' hm'
  | causes t e => rw [e]; exact differ
  | linkReset t e => rw [e]; exact differ

/-- Settles O16. -/
theorem edgeTimesDiffer : Obligations.EdgeTimesDiffer := by
  unfold Obligations.EdgeTimesDiffer
  intro s s' differ h last
  rcases step_cases h with same | ⟨c, rest, he⟩
  · exact same ▸ differ
  · exact exec_edgesDiffer (s := s.withPending rest) differ he last

end Sys2Proof.Machine
end

section
/-! Which slots fill: the capture unit starts a fill in RUN alone, and with none in progress
(R71, R85). -/

namespace Sys2Proof.Machine

/-- Slot `k` is FILLING. -/
def State.fills (s : State) (k : Fin 8) : Prop := s.cap.slots[k].state = .filling

/-- At most one slot is FILLING. -/
def State.OneFills (s : State) : Prop := ∀ j k, s.fills j → s.fills k → j = k

theorem State.fillings_le_one {s : State} : s.oneFilling ↔ s.OneFills := by
  have length : s.fillings = ((List.finRange 8).filter fun k => s.cap.slots[k].state == .filling).length :=
    List.countP_eq_length_filter
  have mem (i : Fin 8) : i ∈ ((List.finRange 8).filter fun k => s.cap.slots[k].state == .filling) ↔
      s.fills i := by simp [State.fills]
  have nodup := (List.nodup_finRange 8).filter fun k : Fin 8 => s.cap.slots[k].state == .filling
  unfold State.oneFilling
  rw [length]
  generalize ((List.finRange 8).filter fun k => s.cap.slots[k].state == .filling) = l at mem nodup
  constructor
  · intro h j k hj hk
    rw [← mem] at hj hk
    obtain ⟨x, rfl⟩ := List.length_eq_one_iff.1 (le_antisymm h (List.length_pos_of_mem hj))
    exact (List.mem_singleton.1 hj).trans (List.mem_singleton.1 hk).symm
  · intro h
    by_contra many
    have two : 1 < l.length := by omega
    have same := h l[0] l[1] ((mem _).1 (List.getElem_mem _)) ((mem _).1 (List.getElem_mem _))
    exact absurd (nodup.getElem_inj_iff.1 same) (by decide)

theorem State.fillings_eq_zero {s : State} : s.fillings = 0 ↔ ∀ k, ¬ s.fills k := by
  simp [State.fillings, State.fills, List.countP_eq_zero]

theorem State.not_fills_of_fillingSlot {s : State} (h : s.fillingSlot = none) (k : Fin 8) :
    ¬ s.fills k := fun hk =>
  List.find?_eq_none.1 h k (List.mem_finRange k) (beq_iff_eq.2 hk)

/-- No fill begins, and the capture unit keeps the station state that it holds. -/
structure Subsides (s u : State) : Prop where
  view : u.cap.view = s.cap.view
  fills : ∀ k, u.fills k → s.fills k

theorem Subsides.refl (s : State) : Subsides s s := ⟨rfl, fun _ h => h⟩

theorem Subsides.trans {s t u : State} (h : Subsides s t) (h' : Subsides t u) : Subsides s u :=
  ⟨h'.view.trans h.view, fun k hk => h.fills k (h'.fills k hk)⟩

theorem Subsides.of_eq {s u : State} (h : u.cap = s.cap) : Subsides s u :=
  ⟨by rw [h], fun k => by unfold State.fills; rw [h]; exact id⟩

/-- The same from a state with the same capture unit. -/
theorem Subsides.after {s t u : State} (h : Subsides t u) (e : t.cap = s.cap) : Subsides s u :=
  (Subsides.of_eq e).trans h

theorem Subsides.ite {s t u : State} {c : Prop} [Decidable c] (ht : Subsides s t) (hu : Subsides s u) :
    Subsides s (if c then t else u) := by split <;> assumption

theorem Subsides.foldl {α : Type} {f : State → α → State} (h : ∀ s a, Subsides s (f s a))
    (l : List α) (s : State) : Subsides s (l.foldl f s) := by
  induction l generalizing s with
  | nil => exact .refl s
  | cons a l ih => exact (h s a).trans (ih _)

theorem Subsides.oneFills {s u : State} (h : Subsides s u) (one : s.OneFills) : u.OneFills :=
  fun j k hj hk => one j k (h.fills j hj) (h.fills k hk)

theorem State.setSlot_fills (s : State) (k : Fin 8) (x : Slot) (j : Fin 8) :
    (s.setSlot k x).fills j ↔ if j = k then x.state = .filling else s.fills j := by
  unfold State.fills
  rw [State.setSlot_slot]
  split <;> rfl

theorem State.setSlot_subsides (s : State) (k : Fin 8) {x : Slot}
    (h : x.state = .filling → s.fills k) : Subsides s (s.setSlot k x) := by
  refine ⟨rfl, fun j hj => ?_⟩
  rw [State.setSlot_fills] at hj
  split at hj
  · next hjk => subst hjk; exact h hj
  · exact hj

/-- A slot that keeps its state. -/
theorem State.setSlot_subsides_self (s : State) (k : Fin 8) {x : Slot}
    (h : x.state = s.cap.slots[k].state) : Subsides s (s.setSlot k x) :=
  s.setSlot_subsides k fun hx => h.symm.trans hx

theorem State.judgeAll_subsides (s : State) (ids : List Nat) : Subsides s (s.judgeAll ids) :=
  .of_eq (s.judgeAll_cap ids)

/-- The end of a fill: with one fill at most none is in progress after it (R76, R85). -/
theorem State.stopFill_subsides (s : State) : Subsides s s.stopFill := by
  unfold State.stopFill
  split
  · exact .refl s
  · exact (s.setSlot_subsides _ (by simp)).trans (State.judgeAll_subsides _ _)

theorem State.stopFill_still {s : State} (one : s.OneFills) (k : Fin 8) : ¬ s.stopFill.fills k := by
  unfold State.stopFill
  cases h : s.fillingSlot with
  | none => exact s.not_fills_of_fillingSlot h k
  | some j =>
    intro hk
    have hk := (State.judgeAll_subsides _ _).fills k hk
    rw [State.setSlot_fills] at hk
    split at hk
    · exact absurd hk (by simp)
    · next hne => exact hne (one k j hk (s.fillingSlot_state h))

theorem State.loseHolders_subsides (s : State) (k : Fin 8) : Subsides s (s.loseHolders k) :=
  Subsides.after (t := s.withStore _) (State.setSlot_subsides_self _ k (by rfl)) rfl

theorem State.spoilSlot_subsides (s : State) (k : Fin 8) (e : Option Ms) :
    Subsides s (s.spoilSlot k e) := by
  have spoiled : Subsides s ((s.loseHolders k).setSlot k
      { (s.loseHolders k).cap.slots[k] with state := .scrubbing, scrubEnd := e }) :=
    (s.loseHolders_subsides k).trans (State.setSlot_subsides _ k (by simp))
  exact .ite (spoiled.trans (State.judgeAll_subsides _ _)) (.refl s)

/-- The unit turned OFF with every scrub abandoned (R81). -/
theorem State.abandoned_subsides (s : State) :
    Subsides s (s.withCap { s.cap with on := false }).abandonScrubs := by
  refine ⟨rfl, fun j hj => ?_⟩
  simpa [State.fills, State.abandonScrubs] using hj

theorem State.memoryError_subsides (s : State) (k : Fin 8) : Subsides s (s.memoryError k) := by
  unfold State.memoryError
  split
  · exact (State.spoilSlot_subsides _ k none).after rfl
  · split
    · have spoiled : Subsides s (((s.raise .slotError k.val).raise .captureOff k.val).spoilSlot k none) :=
        (State.spoilSlot_subsides _ k none).after rfl
      exact spoiled.trans ((State.abandoned_subsides _).trans (State.stopFill_subsides _))
    · exact (State.spoilSlot_subsides _ k _).after rfl

theorem State.copyPosition_subsides (s : State) (k : Fin 8) (j : Nat) (hc : HalfCycle) (fails : Bool) :
    Subsides s (s.copyPosition k j hc fails) := by
  have put : Subsides s (s.setSlot k (s.cap.slots[k].put j hc)) :=
    s.setSlot_subsides_self k (Slot.put_state _ j hc)
  exact .ite (.ite (put.trans (State.memoryError_subsides _ k)) put) (.refl s)

theorem State.fillCopy_subsides (s : State) (m : RefIndex) (fails : Bool) :
    Subsides s (s.fillCopy m fails) := by
  unfold State.fillCopy
  split
  · exact .refl s
  · next k _ =>
    have copied (j : Nat) (hc : HalfCycle) := s.copyPosition_subsides k j hc fails
    exact .ite (.ite ((copied _ _).trans (State.stopFill_subsides _)) (copied _ _)) (.refl s)

theorem State.openSlot_fills (s : State) (k : Fin 8) (id : Nat) (a newest : RefIndex)
    (failed : Option (Fin 9)) (j : Fin 8) (h : (s.openSlot k id a newest failed).fills j) :
    j = k ∨ s.fills j := by
  have copied := (Subsides.foldl (fun st i => st.copyPosition_subsides k i _ _) _ _).fills j h
  by_cases hjk : j = k
  · exact .inl hjk
  · exact .inr ((if_neg hjk).mp ((s.setSlot_fills k _ j).1 copied))

theorem State.openSlot_view (s : State) (k : Fin 8) (id : Nat) (a newest : RefIndex)
    (failed : Option (Fin 9)) : (s.openSlot k id a newest failed).cap.view = s.cap.view :=
  (Subsides.foldl (fun st i => st.copyPosition_subsides k i _ _) _ _).view

/-- What a capture request may begin: in RUN, where no slot fills, one fill (R71). -/
inductive Begins (s u : State) : Prop
  | nothing (h : Subsides s u)
  | fill (k : Fin 8) (view : s.cap.view = .run) (same : u.cap.view = s.cap.view)
      (before : ∀ j, ¬ s.fills j) (only : ∀ j, u.fills j → j = k)

theorem Begins.oneFills {s u : State} (h : Begins s u) (one : s.OneFills) : u.OneFills := by
  cases h with
  | nothing h => exact h.oneFills one
  | fill k _ _ _ only => exact fun i j hi hj => (only i hi).trans (only j hj).symm

theorem State.captureRequest_begins (s : State) (id : Nat) (a : RefIndex)
    (failed : Option (Fin 9)) : Begins s (s.captureRequest id a failed) := by
  have refused (p : WavePart) : Begins s (s.writeWave id p) := .nothing (.of_eq rfl)
  unfold State.captureRequest
  split
  · exact refused _
  next on =>
  have view : s.cap.view = .run := by
    by_contra hv
    simp [hv] at on
  split
  · exact refused _
  cases hf : s.fillingSlot with
  | some k =>
    dsimp only
    split
    · exact .nothing ((s.setSlot_subsides_self k (by rfl)).trans (.of_eq rfl))
    · exact refused _
  | none =>
    cases hk : s.freeSlot with
    | none => exact refused _
    | some k =>
      have before := s.not_fills_of_fillingSlot hf
      exact .fill k view (s.openSlot_view _ _ _ _ _) before fun j hj =>
        (s.openSlot_fills k _ _ _ _ j hj).resolve_right (before j)

end Sys2Proof.Machine
end

section
/-! What each block keeps while the station state stands, and what it comes to at a stop: outside
RUN nothing is in progress (R184 to R187). -/

namespace Sys2Proof.Machine

/-- The transmitter of a link that holds the station state as `w` (R106, R120). -/
structure NoticeLink.Follows (w : StationState) (l : NoticeLink) : Prop where
  view : l.view = w
  tx : l.tx = .idle ↔ l.queue = [] ∨ w ≠ .run
  queue : w = .config → l.queue = []

/-- Block `b` holds the station state as `w`, and outside RUN has nothing in progress. -/
def State.rests (s : State) (w : StationState) : Block → Prop
  | .det => w ≠ .run → s.det.mode = .watch
  | .cap => s.cap.view = w ∧ (w ≠ .run → ∀ k, ¬ s.fills k)
  | .mark => s.mark.view = w ∧ (w ≠ .run → s.mark.drive = false)
  | .link => s.link.Follows w
  | .corr => s.corr.view = w ∧ (w ≠ .run → ∀ k : Fin 4, s.corr.slots[k] = none)
  | .store => s.store.view = w
  | .agg => w ≠ .run → s.agg.cur = none
  | .ctl => s.ctl.state = w ∧ (w ≠ .run → s.ctl.presentExpiry = none)
  | .cfe | .rms | .ref | .port => True

/-- The blocks of `on` rest, and at most one slot fills. -/
structure Rest (w : StationState) (on : Block → Prop) (s : State) : Prop where
  one : s.OneFills
  rests : ∀ b, on b → s.rests w b

variable {w : StationState} {on on' : Block → Prop} {s u : State}

theorem rests_of_same {b : Block} (h : b.same s u) (hs : s.rests w b) : u.rests w b := by
  cases b <;> simp only [Block.same] at h <;> simp only [State.rests, State.fills, h] at hs ⊢ <;>
    exact hs

theorem Rest.mono (h : Rest w on s) (sub : ∀ b, on' b → on b) : Rest w on' s :=
  ⟨h.one, fun b hb => h.rests b (sub b hb)⟩

/-- A change of the listed blocks: those outside the list rest as before. -/
theorem Rest.of_only {cs : List Block} (h : Rest w on s) (only : onlyChanges cs s u) (one : u.OneFills)
    (sub : ∀ b, on' b → b ∈ cs ∨ on b)
    (changed : ∀ b ∈ cs, on' b → (on b → s.rests w b) → u.rests w b) : Rest w on' u := by
  refine ⟨one, fun b hb => ?_⟩
  by_cases hbc : b ∈ cs
  · exact changed b hbc hb (h.rests b)
  · exact rests_of_same (only.1 b hbc) (h.rests b ((sub b hb).resolve_left hbc))

/-- A change of one block other than the capture unit. -/
theorem Rest.of_block {b : Block} (h : Rest w on s) (only : onlyChanges [b] s u) (hb : b ≠ .cap)
    (kept : on b → s.rests w b → u.rests w b) : Rest w on u := by
  have cap : u.cap = s.cap := only.1 .cap (by simpa using hb.symm)
  refine h.of_only only ((Subsides.of_eq cap).oneFills h.one) (fun _ => .inr) ?_
  rintro c hc hon hs
  obtain rfl := List.mem_singleton.1 hc
  exact kept hon (hs hon)

theorem Rest.withDet (h : Rest w on s) (hon : ¬ on .det) (x : Detector) : Rest w on (s.withDet x) :=
  h.of_block (s.withDet_frame x).only (by decide) fun hb => absurd hb hon
theorem Rest.withRef (h : Rest w on s) (x : RefTracker) : Rest w on (s.withRef x) :=
  h.of_block (s.withRef_frame x).only (by decide) fun _ _ => trivial
theorem Rest.withRms (h : Rest w on s) (x : RmsEngine) : Rest w on (s.withRms x) :=
  h.of_block (s.withRms_frame x).only (by decide) fun _ _ => trivial
theorem Rest.withCfe (h : Rest w on s) (x : FrontEnd) : Rest w on (s.withCfe x) :=
  h.of_block (s.withCfe_frame x).only (by decide) fun _ _ => trivial
theorem Rest.answer (h : Rest w on s) (st : Status) (p : List Byte) : Rest w on (s.answer st p) :=
  h.of_block (s.answer_frame st p).only (by decide) fun _ _ => trivial
theorem Rest.elapse (h : Rest w on s) (t : Nat) : Rest w on (s.elapse t) :=
  ⟨h.one, fun b hb => rests_of_same (by cases b <;> rfl) (h.rests b hb)⟩
theorem Rest.withFree (h : Rest w on s) (n : Nat) : Rest w on (s.withFree n) :=
  ⟨h.one, fun b hb => rests_of_same (by cases b <;> rfl) (h.rests b hb)⟩

/-- A cause raised leaves the station state and the PRESENT period. -/
theorem Rest.raise (h : Rest w on s) (c : Cause) (n : Nat) : Rest w on (s.raise c n) :=
  h.of_block (s.raise_frame c n).only (by decide) fun _ hs => by
    obtain ⟨state, quiet⟩ := hs
    have steady := (s.raise_frame c n).steady
    exact ⟨steady.state.trans state, fun hw => steady.presentExpiry.trans (quiet hw)⟩

theorem Rest.withStore (h : Rest w on s) {x : RecordStore} (hx : x.view = s.store.view) :
    Rest w on (s.withStore x) :=
  h.of_block (s.withStore_onlyChanges x) (by decide) fun _ hs => hx.trans hs

theorem Rest.withAgg (h : Rest w on s) {x : Aggregator} (hx : s.agg.cur = none → x.cur = none) :
    Rest w on (s.withAgg x) :=
  h.of_block (s.withAgg_frame x).only (by decide) fun _ hs hw => hx (hs hw)

/-- A pulse begins in RUN alone. -/
theorem Rest.withMark (h : Rest w on s) {x : MarkLine} (view : x.view = s.mark.view)
    (drive : x.drive = false ∨ x.drive = s.mark.drive ∨ s.mark.view = .run) :
    Rest w on (s.withMark x) :=
  h.of_block (s.withMark_frame x).only (by decide) fun _ hs => by
    obtain ⟨hv, hd⟩ := hs
    refine ⟨view.trans hv, fun hw => ?_⟩
    rcases drive with off | same | run
    · exact off
    · exact same.trans (hd hw)
    · exact absurd (hv.symm.trans run) hw

/-- A context opens in RUN alone. -/
theorem Rest.withCorr (h : Rest w on s) {x : Correlation} (view : x.view = s.corr.view)
    (slots : ∀ k : Fin 4, s.corr.slots[k] = none → x.slots[k] = none ∨ s.corr.view = .run) :
    Rest w on (s.withCorr x) :=
  h.of_block (s.withCorr_frame x).only (by decide) fun _ hs => by
    obtain ⟨hv, closed⟩ := hs
    exact ⟨view.trans hv, fun hw k =>
      (slots k (closed hw k)).resolve_right fun run => hw (hv.symm.trans run)⟩

theorem Rest.withLink (h : Rest w on s) {x : NoticeLink}
    (hx : ∀ {v}, s.link.Follows v → x.Follows v) : Rest w on (s.withLink x) :=
  h.of_block (s.withLink_frame x).only (by decide) fun _ hs => hx hs

/-- What the capture unit does while its station state stands. -/
theorem Rest.capture (h : Rest w on s) (frame : Frame [.cap, .store, .ctl] s u) (hr : Rewrites s u)
    (hb : Begins s u) : Rest w on u := by
  refine h.of_only frame.only (hb.oneFills h.one) (fun _ => .inr) fun b hbc hon hs => ?_
  have hs := hs hon
  simp only [List.mem_cons, List.not_mem_nil, or_false] at hbc
  rcases hbc with rfl | rfl | rfl
  · obtain ⟨view, still⟩ := hs
    cases hb with
    | nothing sub => exact ⟨sub.view.trans view, fun hw k hk => still hw k (sub.fills k hk)⟩
    | fill k run same _ _ => exact ⟨same.trans view, fun hw => absurd (view.symm.trans run) hw⟩
  · simp only [State.rests] at hs ⊢
    rw [hr.store]
    exact hs
  · obtain ⟨state, quiet⟩ := hs
    exact ⟨frame.steady.state.trans state, fun hw => frame.steady.presentExpiry.trans (quiet hw)⟩

theorem Rest.editRecord (h : Rest w on s) (id : Nat) (f : Record → Record) :
    Rest w on (s.editRecord id f) := h.withStore rfl

theorem Rest.judge (h : Rest w on s) (id : Nat) : Rest w on (s.judge id) :=
  h.capture ((s.judge_frame id).mono (by simp)) (s.judge_rewrites id) (.nothing (.of_eq (s.judge_cap id)))

theorem Rest.calm (hon : ¬ on .det) : Calm (Rest w on) where
  capture s id a failed h :=
    h.capture (s.captureRequest_frame id a failed) (s.captureRequest_rewrites id a failed)
      (s.captureRequest_begins id a failed)
  add s r t _ h := by
    have store := s.addRecord_store r t
    have cap : (s.addRecord r t).cap = s.cap := (s.addRecord_frame r t).only.1 .cap (by decide)
    have steady := (s.addRecord_frame r t).steady
    refine h.of_only (s.addRecord_frame r t).only ((Subsides.of_eq cap).oneFills h.one)
      (fun _ => .inr) fun b hb hon hs => ?_
    have hs := hs hon
    simp only [List.mem_cons, List.not_mem_nil, or_false] at hb
    rcases hb with rfl | rfl
    · simp only [State.rests] at hs ⊢
      rw [store]
      exact hs
    · obtain ⟨state, quiet⟩ := hs
      exact ⟨steady.state.trans state, fun hw => steady.presentExpiry.trans (quiet hw)⟩
  edit s id f _ h := h.editRecord id f
  judge s id h := h.judge id
  tally s c r m d h := h.withStore rfl
  contexts s x hx h := h.withCorr rfl hx
  det s x _ h := h.withDet hon x
  ends s n h := h.withRef _
  edge s x view drive h := h.withMark view (.inr drive)

end Sys2Proof.Machine
end

section
/-! Every part of a stop, and each reader that may take a refresh within it, keeps the rest that
the blocks have come to; and each block comes to rest when it takes the stop (R184 to R187). -/

namespace Sys2Proof.Machine

variable {w : StationState} {on : Block → Prop} {s u : State}

namespace NoticeLink.Follows

variable {l x : NoticeLink}

/-- A link that keeps its station state, its transmitter's state and its queue. -/
theorem of_same (h : l.Follows w) (view : x.view = l.view) (tx : x.tx = l.tx)
    (queue : x.queue = l.queue) : x.Follows w :=
  ⟨view.trans h.view, by rw [tx, queue]; exact h.tx, by rw [queue]; exact h.queue⟩

/-- An attempt that begins or fails: the transmitter is not IDLE before it or after it. -/
theorem attempting (h : l.Follows w) (busy : l.tx ≠ .idle) (view : x.view = l.view)
    (tx : x.tx ≠ .idle) (queue : x.queue = l.queue) : x.Follows w :=
  ⟨view.trans h.view, by rw [queue]; exact ⟨fun e => absurd e tx, fun e => absurd (h.tx.2 e) busy⟩,
    by rw [queue]; exact h.queue⟩

theorem restingTx_idle (v : StationState) (q : List QueuedFrame) :
    restingTx v q = .idle ↔ q = [] ∨ v ≠ .run := by
  unfold restingTx
  split
  · next h => simp [h.1, h.2]
  · next h =>
    simp only [ne_eq, not_and, Decidable.not_not] at h
    simp only [true_iff]
    by_cases hv : v = .run
    · exact .inl (h hv)
    · exact .inr hv

theorem popHead (h : l.Follows w) : l.popHead.Follows w :=
  ⟨h.view, by rw [← h.view]; exact restingTx_idle _ _, fun hw => by
    simp only [NoticeLink.popHead, h.queue hw, List.tail_nil]⟩

theorem removeAt (h : l.Follows w) (i : Nat) : (l.removeAt i).Follows w := by
  unfold NoticeLink.removeAt
  split
  · exact h.popHead
  · next hi =>
    obtain ⟨j, rfl⟩ := Nat.exists_eq_succ_of_ne_zero hi
    have empty : l.queue.eraseIdx (j + 1) = [] ↔ l.queue = [] := by
      cases l.queue <;> simp
    exact ⟨h.view, h.tx.trans (or_congr_left empty.symm), fun hw => empty.2 (h.queue hw)⟩

/-- In RUN a frame placed in the queue keeps the transmitter from IDLE (R106). -/
theorem enqueue (h : l.Follows w) (run : l.view = .run) (f : QueuedFrame) :
    (l.enqueue f).Follows w := by
  have hw : w = .run := h.view.symm.trans run
  refine ⟨h.view, ?_, fun config => absurd (hw.symm.trans config) (by decide)⟩
  have resting := restingTx_idle l.view (l.queue ++ [f])
  simp only [NoticeLink.enqueue, hw, run] at resting ⊢
  split
  · simpa using resting
  · next busy => simpa using busy

theorem handPresent (h : l.Follows w) (run : l.view = .run) : l.handPresent.Follows w := by
  unfold NoticeLink.handPresent
  split
  · exact h.enqueue run _
  · exact h

end NoticeLink.Follows

theorem Rest.handVerdict (h : Rest w on s) (hon : ¬ on .det) (v : QueuedVerdict) :
    Rest w on (s.handVerdict v) := by
  have dropped := (Rest.calm hon).dropReport v.edge v.recordId h
  unfold State.handVerdict
  split
  · exact dropped
  next notRun =>
  have run : s.link.view = .run := by simpa using notRun
  split
  · exact h.withLink fun hl => hl.enqueue run _
  split
  · next i _ =>
    have same : (s.link.removeAt i).view = s.link.view := by
      unfold NoticeLink.removeAt
      split <;> rfl
    exact h.withLink fun hl => (hl.removeAt _).enqueue (same.trans run) _
  · exact dropped

theorem Rest.correlationTakes (h : Rest w on s) (hon : ¬ on .det) : Rest w on s.correlationTakes := by
  unfold State.correlationTakes
  split
  · exact h
  · refine foldl_keeps (fun u k hu => ?_) _ (h.withCorr rfl fun _ => .inl)
    unfold State.judgeContext
    split
    · exact hu
    · have judged (f : Context → Context) (v : QueuedVerdict) :=
        ((Rest.calm hon).editContext k f hu).handVerdict hon v
      exact ite_keeps (judged _ _) ((judged _ _).editRecord _ _)

theorem Rest.linkClearsPeers (h : Rest w on s) : Rest w on s.linkClearsPeers :=
  h.withLink fun hl => hl.of_same rfl rfl rfl

theorem Rest.writeInterval (h : Rest w on s) (i : Interval) (length : Nat) (isPartial : Bool)
    {next : Option Interval} (hn : s.agg.cur = none → next = none) :
    Rest w on (s.writeInterval i length isPartial next) :=
  (h.withAgg hn).raise .intervalDone 0

theorem Rest.aggregatorTakes (h : Rest w on s) : Rest w on s.aggregatorTakes := by
  unfold State.aggregatorTakes
  split
  · exact h
  · exact h.withAgg fun none => by rw [none]; rfl

theorem Rest.trackerTakes (h : Rest w on s) : Rest w on s.trackerTakes := by
  unfold State.trackerTakes
  split
  · exact h
  · exact h.withRef _

/-! Each block at a stop. -/

/-- A block that comes to rest, the others as they were. -/
theorem Rest.sets {b : Block} (h : Rest w on s) (only : onlyChanges [b] s u) (hb : b ≠ .cap)
    (rests : u.rests w b) : Rest w (fun c => on c ∨ c = b) u := by
  have cap : u.cap = s.cap := only.1 .cap (by simpa using hb.symm)
  refine h.of_only only ((Subsides.of_eq cap).oneFills h.one) (fun c hc => ?_) ?_
  · exact hc.elim .inr fun e => .inl (List.mem_singleton.2 e)
  · rintro c hc - -
    obtain rfl := List.mem_singleton.1 hc
    exact rests

theorem Rest.storeTakes (h : Rest w on s) : Rest w (fun c => on c ∨ c = .store) (s.storeTakes w) :=
  h.sets (s.storeTakes_frame w).only (by decide) rfl

variable {k : Stop}

theorem Stop.view_ne_run (k : Stop) : k.view ≠ .run := by cases k <;> simp [Stop.view]

theorem Rest.linkDropsQueue (h : Rest w on s) (hon : ¬ on .det) (v : StationState)
    (hv : on .link → s.link.view = v) : Rest w on (s.linkDropsQueue v) := by
  have reported := (Rest.calm hon).reportQueue h
  have link : s.reportQueue.link = s.link := (s.reportQueue_frame).only.1 .link (by decide)
  refine reported.of_block (State.withLink_frame _ _).only (by decide) fun hl hs => ?_
  exact ⟨((hv hl).symm.trans (by rw [← link])).trans hs.view,
    ⟨fun _ => .inl rfl, fun _ => rfl⟩, fun _ => rfl⟩

theorem Rest.linkStops (h : Rest k.view on s) (hon : ¬ on .det) :
    Rest k.view (fun c => on c ∨ c = .link) (s.linkStops k) := by
  have reported := (Rest.calm hon).reportQueue h
  have set {x : NoticeLink} (hx : x.Follows k.view) := reported.sets (State.withLink_frame _ x).only
    (by decide) hx
  match k with
  | .halt => exact set ⟨rfl, by simp [NoticeLink.leaveByte, NoticeLink.stopAttempt, Stop.view],
      fun hw => absurd hw (by decide)⟩
  | .restart _ _ =>
    have dropped : Rest _ _ (s.linkDropsQueue .config) := set ⟨rfl,
      by simp [NoticeLink.leaveByte, NoticeLink.stopAttempt], fun _ => rfl⟩
    exact ite_keeps dropped dropped.linkClearsPeers

theorem Rest.markStops (h : Rest k.view on s) :
    Rest k.view (fun c => on c ∨ c = .mark) (s.markStops k) :=
  h.sets (s.markStops_frame k).only (by decide) (by cases k <;> exact ⟨rfl, fun _ => rfl⟩)

theorem State.earlyClose_corr (s : State) (k : Fin 4) :
    (s.earlyClose k).corr = { s.corr with slots := s.corr.slots.set k none } := by
  have freed (u : State) (linked : Nat) (hu : u.corr = s.corr) :
      (u.freeContext k linked).corr = { s.corr with slots := s.corr.slots.set k none } := by
    rw [← hu]
    unfold State.freeContext
    split
    · rfl
    · exact (State.judge_frame _ _).only.1 .corr (by decide)
  unfold State.earlyClose
  split
  · next h =>
    have : s.corr.slots.set k none = s.corr.slots := by
      rw [← h]
      simp
    rw [this]
  · dsimp only
    split
    · exact freed _ _ rfl
    · exact freed _ _ rfl

/-- Every context is closed by a stop (R138). -/
theorem State.corrTakesStop_corr (s : State) (view : StationState) :
    (s.corrTakesStop view).corr = { s.corr with view := view, slots := Vector.replicate 4 none } := by
  have all : List.finRange 4 = [0, 1, 2, 3] := by decide
  simp only [State.corrTakesStop, all, List.foldl_cons, List.foldl_nil, State.earlyClose_corr,
    State.withCorr_corr]
  congr 1
  ext i hi
  interval_cases i <;> simp

theorem State.corrStops_corr (s : State) (k : Stop) :
    (s.corrStops k).corr = { s.corr with view := k.view, slots := Vector.replicate 4 none } := by
  rw [← State.corrTakesStop_corr]
  match k with
  | .halt => rfl
  | .restart _ true => rfl
  | .restart _ false => rfl

theorem State.capStops_subsides (s : State) (k : Stop) (j : Fin 8) (h : (s.capStops k).fills j) :
    (s.withCap { s.cap with view := k.view }).stopFill.fills j := by
  match k with
  | .halt => exact h
  | .restart low tableFirst =>
    simp only [State.capStops, State.capTakesRestart, State.fills, State.withCap_cap, Fin.getElem_fin,
      Vector.getElem_ofFn] at h
    split at h <;> exact h

theorem State.capStops_view (s : State) (k : Stop) : (s.capStops k).cap.view = k.view := by
  match k with
  | .halt => exact (State.stopFill_subsides _).view
  | .restart low tableFirst => exact (State.stopFill_subsides (s.withCap { s.cap with view := .config })).view

theorem Rest.capStops (h : Rest k.view on s) :
    Rest k.view (fun c => on c ∨ c = .cap) (s.capStops k) := by
  have still (j : Fin 8) : ¬ (s.capStops k).fills j := fun hj =>
    State.stopFill_still (s := s.withCap { s.cap with view := k.view }) h.one j
      (s.capStops_subsides k j hj)
  have frame := s.capStops_frame k
  refine h.of_only frame.only (fun i j hi => absurd hi (still i)) (fun c hc => ?_) fun b hb hon hs => ?_
  · exact hc.elim .inr fun e => .inl (by simp [e])
  · simp only [List.mem_cons, List.not_mem_nil, or_false] at hb
    rcases hb with rfl | rfl | rfl
    · exact ⟨s.capStops_view k, fun _ => still⟩
    · have hs := hs (hon.resolve_right (by decide))
      simp only [State.rests] at hs ⊢
      rw [(s.capStops_rewrites k).store]
      exact hs
    · obtain ⟨state, quiet⟩ := hs (hon.resolve_right (by decide))
      exact ⟨frame.steady.state.trans state, fun hw => frame.steady.presentExpiry.trans (quiet hw)⟩

theorem Rest.aggTakesStop (h : Rest w on s) :
    Rest w (fun c => on c ∨ c = .agg) s.aggTakesStop := by
  unfold State.aggTakesStop
  split
  · next none => exact h.sets (b := .agg) ⟨fun b _ => by cases b <;> rfl, rfl⟩ (by decide) fun _ => none
  · exact (h.sets (b := .agg) (State.withAgg_frame _ _).only (by decide) fun _ => rfl).raise .intervalDone 0

/-- What the parts of a stop keep. -/
theorem Rest.calmStop (hon : ¬ on .det) (k : Stop) : CalmStop (Rest k.view on) k where
  toCalm := Rest.calm hon
  handed _ _ h := h.withDet hon _
  store _ h := h.storeTakes.mono fun _ => .inl
  link _ h := (h.linkStops hon).mono fun _ => .inl
  clear _ _ h := h.linkClearsPeers
  mark _ h := h.markStops.mono fun _ => .inl
  corr s h := h.of_block (s.withCorr_frame _).only (by decide) fun _ hs => ⟨rfl, hs.2⟩
  cap _ h := h.capStops.mono fun _ => .inl
  agg _ h := h.aggTakesStop.mono fun _ => .inl
  tracker _ h := h.trackerTakes
  report _ h := ite_keeps h (h.withRef _)
  correlation _ h := h.correlationTakes hon
  aggregator _ h := h.aggregatorTakes
  free _ n h := h.withFree n

theorem Rest.corrStops (h : Rest k.view on s) (hon : ¬ on .det) :
    Rest k.view (fun c => on c ∨ c = .corr) (s.corrStops k) := by
  have kept := (Rest.calmStop hon k).corrStops h
  refine ⟨kept.one, fun b hb => ?_⟩
  by_cases hc : b = .corr
  · subst hc
    simp only [State.rests, State.corrStops_corr]
    exact ⟨trivial, fun _ j => by simp⟩
  · exact kept.rests b (hb.resolve_right hc)

end Sys2Proof.Machine
end

section
/-! After a stop every block is at rest: it has taken the stop before the readers take what waits,
or after (R184; log entry 3). -/

namespace Sys2Proof.Machine

variable {w : StationState} {on : Block → Prop} {s : State} {k : Stop}

/-- The blocks but the detector that take the stop in phase `p`. -/
def StopPhase.takes (p : StopPhase) : Block → Bool
  | .store => p.store
  | .link => p.link
  | .mark => p.mark
  | .corr => p.corr
  | .cap => p.cap
  | .agg => p.agg
  | .cfe | .rms | .ref | .det | .port | .ctl => false

/-- The blocks but the detector that take a stop. -/
def stopping : List Block := [.store, .link, .mark, .corr, .cap, .agg]

theorem StopPhase.others_takes {p : StopPhase} {b : Block} (hb : b ∈ stopping) :
    p.takes b = true ∨ p.others.takes b = true := by
  cases b <;> simp [stopping, StopPhase.takes, StopPhase.others] at hb ⊢

theorem Rest.when {b : Block} (h : Rest w on s) (c : Bool) {f : State → State}
    (hf : Rest w (fun x => on x ∨ x = b) (f s)) :
    Rest w (fun x => on x ∨ (x = b ∧ c = true)) (s.when c f) := by
  cases c with
  | false => exact h.mono fun x hx => hx.resolve_right (by simp)
  | true => exact hf.mono fun x hx => hx.imp_right And.left

theorem Rest.stopBlocks (h : Rest k.view on s) (hon : ¬ on .det) (p : StopPhase)
    (detectorFirst : Bool) :
    Rest k.view (fun b => on b ∨ p.takes b = true) (s.stopBlocks k p detectorFirst) := by
  have stored := h.when p.store (f := fun st => st.storeTakes k.view) h.storeTakes
  have linked := stored.when p.link (f := fun st => st.linkStops k) (stored.linkStops (by simp [hon]))
  have marked := linked.when p.mark (f := fun st => st.markStops k) linked.markStops
  have det {on : Block → Prop} {s : State} (h : Rest k.view on s) (hon : ¬ on .det) :
      Rest k.view on (s.when p.det State.detTakesStop) :=
    State.when_keeps s p.det State.detTakesStop h ((Rest.calm hon).detTakesStop h)
  have corr {on : Block → Prop} {s : State} (h : Rest k.view on s) (hon : ¬ on .det) :
      Rest k.view (fun x => on x ∨ (x = .corr ∧ p.corr = true)) (s.when p.corr fun st => st.corrStops k) :=
    h.when p.corr (h.corrStops hon)
  have closed := ite_keeps (c := detectorFirst = true)
    (corr (det marked (by simp [hon])) (by simp [hon])) (det (corr marked (by simp [hon])) (by simp [hon]))
  have held := closed.when p.cap (f := fun st => st.capStops k) closed.capStops
  refine (held.when p.agg (f := State.aggTakesStop) held.aggTakesStop).mono fun b hb => ?_
  rcases hb with hb | hb
  · simp [hb]
  · cases b <;> simp [StopPhase.takes] at hb <;> simp [hb]

/-- At the end of a stop all blocks but the detector are at rest, whatever the order. -/
theorem Rest.takeStop (one : s.OneFills) (o : StopOrder) (failed : Option (Fin 9))
    {act : State → State}
    (hact : ∀ {on : Block → Prop} {u : State}, ¬ on .det → Rest k.view on u → Rest k.view on (act u)) :
    Rest k.view (· ∈ stopping) (s.takeStop k o failed act) := by
  have start : Rest k.view (fun _ => False) s := ⟨one, fun _ h => h.elim⟩
  have early := start.stopBlocks (fun h => h) (earlyPhase o) o.detectorFirst
  have noDet : ¬ (False ∨ (earlyPhase o).takes .det = true) := by simp [StopPhase.takes]
  have acted := hact noDet early
  have readers := State.when_keeps _ (s.ctl.state == .run) (fun st => st.readersTake k o failed) acted
    ((Rest.calmStop noDet k).readersTake o failed acted)
  have late := readers.stopBlocks noDet (earlyPhase o).others o.detectorFirst
  refine (late.mono fun b hb => ?_).withFree _
  rcases StopPhase.others_takes (p := earlyPhase o) hb with early | late
  · exact .inl (.inr early)
  · exact .inr late

/-! The detector. -/

theorem State.detTakesStop_det (s : State) :
    s.detTakesStop.det = { s.det with mode := .watch, cond := allBack } := by
  have watch (u : State) (hu : u.det = s.det) :
      u.toWatch.det = { s.det with mode := .watch, cond := allBack } := by rw [← hu]; rfl
  unfold State.detTakesStop
  split
  · rfl
  · exact watch _ ((State.finishEvent_frame _ _ _ _ _ _ _).only.1 .det (by decide))
  · refine watch _ ?_
    split
    · exact ((State.addRecord_frame _ _ _).comp (State.judge_frame _ _)).only.1 .det (by decide)
    · rfl

theorem State.stopBlocks_det (s : State) (k : Stop) (p : StopPhase) (detectorFirst : Bool) :
    (s.stopBlocks k p detectorFirst).det =
      if p.det then { s.det with mode := .watch, cond := allBack } else s.det := by
  have det (u : State) : (u.when p.det State.detTakesStop).det =
      if p.det then { u.det with mode := .watch, cond := allBack } else u.det := by
    cases p.det
    · rfl
    · exact u.detTakesStop_det
  have corr (u : State) : (u.when p.corr fun st => st.corrStops k).det = u.det :=
    (u.when_frame p.corr fun x => x.corrStops_frame k).only.1 .det (by decide)
  have first : (((s.when p.store fun st => st.storeTakes k.view).when p.link
      fun st => st.linkStops k).when p.mark fun st => st.markStops k).det = s.det :=
    (((s.when_frame p.store fun u => u.storeTakes_frame k.view).comp
      (State.when_frame _ p.link fun u => u.linkStops_frame k)).comp
      (State.when_frame _ p.mark fun u => u.markStops_frame k)).only.1 .det (by simp)
  have last (u : State) :
      ((u.when p.cap fun st => st.capStops k).when p.agg State.aggTakesStop).det = u.det :=
    ((u.when_frame p.cap fun x => x.capStops_frame k).comp
      (State.when_frame _ p.agg State.aggTakesStop_frame)).only.1 .det (by simp)
  refine (last _).trans ?_
  split
  · rw [corr, det, first]
  · rw [det, corr, first]

/-- The readers but the detector leave the detector alone. -/
theorem State.readersTake_det {o : StopOrder} (h : o.detEarly = true) (s : State) (k : Stop)
    (failed : Option (Fin 9)) : (s.readersTake k o failed).det = s.det := by
  have corr (u : State) : (u.when (o.corrTakes && !o.corrEarly && u.corr.view == .run)
      State.correlationTakes).det = u.det :=
    (u.when_frame _ State.correlationTakes_frame).only.1 .det (by decide)
  have tracked : (s.when o.trackerTakes State.trackerTakes).det = s.det :=
    (s.when_frame _ State.trackerTakes_frame).only.1 .det (by decide)
  have last (u : State) : ((u.when o.reportTakes State.trackerTakesReport).when
      (o.aggTakes && !o.aggEarly) State.aggregatorTakes).det = u.det :=
    ((u.when_frame o.reportTakes State.trackerTakesReport_frame).comp
      (State.when_frame _ (o.aggTakes && !o.aggEarly) State.aggregatorTakes_frame)).only.1 .det (by simp)
  refine (last _).trans ?_
  simp only [h, Bool.not_true, Bool.and_false]
  split
  · exact (corr _).trans tracked
  · exact (corr _).trans tracked

/-- At the end of a stop the detector is in WATCH (R63, R64). -/
theorem State.takeStop_watch (s : State) (k : Stop) (o : StopOrder) (failed : Option (Fin 9))
    {act : State → State} (hact : ∀ u, (act u).det.mode = u.det.mode) :
    (s.takeStop k o failed act).det.mode = .watch := by
  have early : (earlyPhase o).det = o.detEarly := rfl
  have late : (earlyPhase o).others.det = !o.detEarly := rfl
  unfold State.takeStop
  dsimp only [State.withFree]
  rw [State.stopBlocks_det, late]
  cases h : o.detEarly with
  | false => rfl
  | true =>
    have acted : (act (s.stopBlocks k (earlyPhase o) o.detectorFirst)).det.mode = .watch := by
      rw [hact, State.stopBlocks_det, early, h]
      rfl
    simp only [Bool.not_true, Bool.false_eq_true, if_false]
    cases s.ctl.state == .run
    · exact acted
    · exact (congrArg Detector.mode (State.readersTake_det h _ k failed)).trans acted

end Sys2Proof.Machine
end

section
/-! The station state as the blocks hold it: a command other than START, RESTART and a halting close
leaves every block as it rests, START brings all to RUN, and a stop all to CONFIG or HALTED. -/

namespace Sys2Proof.Machine

variable {s u : State} {w : StationState}

/-- Every block but the detector. -/
def butDet (b : Block) : Prop := b ≠ .det

theorem not_det : ¬ butDet .det := fun h => h rfl

/-- All blocks but the detector rest. -/
abbrev Resting (w : StationState) (s : State) : Prop := Rest w butDet s

namespace Rest

/-- The blocks that take no part in what rests. -/
theorem of_restless (h : Resting w s) (kept : onlyChanges [.cfe, .rms, .ref, .det, .port] s u) :
    Resting w u := by
  have cap : u.cap = s.cap := kept.1 .cap (by decide)
  refine h.of_only kept ((Subsides.of_eq cap).oneFills h.one) (fun _ => .inr) fun b hb hon _ => ?_
  simp only [List.mem_cons, List.not_mem_nil, or_false] at hb
  rcases hb with rfl | rfl | rfl | rfl | rfl
  · trivial
  · trivial
  · trivial
  · exact absurd rfl hon
  · trivial

theorem of_command {i : Instr} {s' : State} (h : Resting w s)
    (hb : ∀ b ∈ touches i, b ∈ [Block.cfe, .rms, .ref, .det, .port]) (he : exec i s = .next s') :
    Resting w s' :=
  h.of_restless (onlyChanges_mono (commandsKeepWhatIsNotTheirs i s s' he).1 hb)

theorem linkView (h : Resting w s) : s.link.view = w := (h.rests .link (by simp [butDet])).view
theorem state (h : Resting w s) : s.ctl.state = w := (h.rests .ctl (by simp [butDet])).1

/-- The frame that leaves the queue, or an attempt that ends: what it reports leaves the link. -/
theorem reported (h : Resting w s) (f : QueuedFrame) {x : NoticeLink}
    (hx : ∀ {v}, s.link.Follows v → x.Follows v) : Resting w ((s.reportFrame f).withLink x) := by
  have same : (s.reportFrame f).link = s.link := (s.reportFrame_frame f).only.1 .link (by decide)
  exact ((Rest.calm not_det).reportFrame f h).withLink fun hl => hx (same ▸ hl)

theorem windowExpiry (h : Resting w s) (edge : Ms) : Resting w (s.windowExpiry edge) := by
  unfold State.windowExpiry
  split
  · exact h
  · refine ite_keeps (h.reported _ fun hl => ⟨hl.view, ?_, fun hw => ?_⟩)
      (h.reported _ fun hl => hl.removeAt _)
    · have empty : s.link.queue.modify 0 QueuedFrame.withdraw = [] ↔ s.link.queue = [] := by
        cases s.link.queue <;> simp
      exact hl.tx.trans (or_congr_left empty.symm)
    · simp only [hl.queue hw, List.modify_nil]

theorem memoryError (h : Resting w s) (k : Fin 8) : Resting w (s.memoryError k) :=
  h.capture (s.memoryError_frame k) (s.memoryError_rewrites k) (.nothing (s.memoryError_subsides k))

theorem setPeer (h : Resting w s) (a : Fin 16) (p : Peer) : Resting w (s.setPeer a p) :=
  h.withLink fun hl => hl.of_same rfl rfl rfl

theorem judgeFrame (h : Resting w s) : Resting w s.judgeFrame := by
  unfold State.judgeFrame
  split
  · exact Rest.raise (s := s.withLink (s.link.dropFrame s.time))
      (h.withLink fun hl => hl.of_same rfl rfl rfl) _ _
  · next n _ =>
    have ended : Resting w (s.withLink s.link.endFrame) := h.withLink fun hl => hl.of_same rfl rfl rfl
    refine ite_keeps ended (ite_keeps (ended.raise _ _) ?_)
    have heard : Resting w ((s.withLink s.link.endFrame).updatePeer n s.link.rxLeader) :=
      ite_keeps (ended.setPeer _ _) (Rest.raise (ended.setPeer _ _) _ _)
    unfold State.takeNotice
    split
    · exact heard
    · refine ite_keeps ?_ heard
      unfold State.matchVerdict
      split
      · next k _ =>
        exact (Rest.calm not_det).editContext k _ heard
      · exact heard.setPeer _ _

theorem storeItem (h : Resting w s) (i : Fin 30) (x : Int) : Resting w (s.storeItem i x) := by
  obtain ⟨ref, attn, eq, -⟩ := s.storeItem_eq i x
  rw [eq]
  exact (h.withRef ref).of_block (State.withCtl_onlyChanges _ _) (by decide) fun _ hs => hs

theorem removeHead (h : Resting w s) (r : Record) : Resting w (s.removeHead r) := by
  have dropped (k : Fin 8) : Resting w (s.dropHold k) :=
    h.capture ((s.dropHold_frame k).mono (by simp)) (.of_eq rfl) (.nothing (s.setSlot_subsides k fun hx => by
      split at hx
      · exact absurd hx (by simp)
      · exact hx))
  unfold State.removeHead
  dsimp only
  split
  · exact (dropped _).withStore rfl
  · exact h.withStore rfl

theorem measured (h : Resting w s) : Resting w s.measured := by
  have raised : Resting w (s.elapse s.closeMoment).raiseOverruns := by
    unfold State.raiseOverruns
    split
    · exact h.elapse _
    · exact ite_keeps (((h.elapse _).raise _ _).raise _ _) ((h.elapse _).raise _ _)
  exact ite_keeps (((raised.withRms _).withCfe _).raise _ _) ((raised.withRms _).withCfe _)

end Rest

/-- A refresh handed to the correlation unit and to the aggregator (R27). -/
theorem Rest.handed {on : Block → Prop} {l m : List Refresh} (h : Rest w on s) :
    Rest w on ((s.withCorr { s.corr with handed := l }).withAgg { s.agg with handed := m }) := by
  have told : Rest w on (s.withCorr { s.corr with handed := l }) := h.withCorr rfl fun _ => .inl
  exact told.withAgg (x := { s.agg with handed := m }) fun hn => hn

/-- The events of a position close leave what rests. -/
theorem Rest.eventsOf {on : Block → Prop} (checks : CloseChecks) (hon : ¬ on .det) (h : Rest w on u) :
    Rest w on (s.eventsOf checks u) := by
  have locked : Rest w on (u.handLockedCycle (u.ctl.state == .run) s.closedCycle) := by
    unfold State.handLockedCycle State.takeLockedCycle
    split
    · exact h
    · exact ite_keeps (h.withAgg fun none => by simp only [none, Option.map_none]) h
  have ended : Rest w on (u.handLockedCycle (u.ctl.state == .run) s.closedCycle).halfCycleEnd := by
    have cleared := locked.withCfe (u.handLockedCycle (u.ctl.state == .run) s.closedCycle).cfe.clearFlags
    refine ite_keeps (cleared.withRms _) ?_
    exact (((cleared.withRms _).withRef _).withDet hon _).handed
  refine ite_keeps (ite_keeps ?_ ended) locked
  exact ended.capture (State.fillCopy_frame _ _ _) (State.fillCopy_rewrites _ _ _)
    (.nothing (State.fillCopy_subsides _ _ _))

/-- The events of a position close leave the detector's state. -/
theorem State.eventsOf_mode (s : State) (checks : CloseChecks) (u : State) :
    (s.eventsOf checks u).det.mode = u.det.mode := by
  have locked : (u.handLockedCycle (u.ctl.state == .run) s.closedCycle).det = u.det :=
    (u.handLockedCycle_frame _ _).only.1 .det (by decide)
  have ended : (u.handLockedCycle (u.ctl.state == .run) s.closedCycle).halfCycleEnd.det.mode =
      u.det.mode := by
    rw [← locked]
    unfold State.halfCycleEnd
    dsimp only
    split <;> rfl
  have filled (v : State) (m : RefIndex) (fails : Bool) : (v.fillCopy m fails).det = v.det :=
    (v.fillCopy_frame m fails).only.1 .det (by decide)
  unfold State.eventsOf State.closeEvents
  dsimp only
  split
  · split
    · exact (congrArg _ (filled _ _ _)).trans ended
    · exact ended
  · exact congrArg _ locked

/-- Every command but those that change the station state keeps the rest of all blocks but the
detector. -/
theorem exec_resting {i : Instr} {s' : State} (h : Resting w s) (he : exec i s = .next s')
    (hp : ∀ straps low psel, i ≠ .pinReset straps low psel) (hs : ∀ t, i ≠ .start t)
    (hr : ∀ t low, i ≠ .restart t low) (hc : ∀ checks, i = .positionClose checks → s.halts = false) :
    Resting w s' := by
  have out {u : State} (e : exec i s = .next u) (hu : Resting w u) : Resting w s' := by
    rw [e] at he
    injection he with e
    exact e ▸ hu
  have calm := Rest.calm (w := w) not_det
  cases i with
  | pinReset straps low psel => exact absurd rfl (hp _ _ _)
  | start t => exact absurd rfl (hs t)
  | restart t low => exact absurd rfl (hr t low)
  | positionClose checks =>
    exact out (exec_positionClose_of_runs (hc checks rfl) checks) (h.measured.eventsOf checks not_det)
  | cycleTimeout t =>
    refine out rfl ?_
    split
    · exact h.elapse t
    · exact ite_keeps (ite_keeps (((h.elapse t).withCfe _).raise _ _) ((h.elapse t).withCfe _)) (h.elapse t)
  | detectorTakesRefresh t failed =>
    exact out rfl (calm.detectorTakes failed (fun _ hu => hu) (fun _ _ hu => hu.withDet not_det _) (h.elapse t))
  | maxOpenExpiry t =>
    refine out rfl ?_
    split
    · exact h.elapse t
    · exact h.elapse t
    · refine ite_keeps ?_ (h.elapse t)
      exact Rest.withDet (Rest.withRef (calm.finishEvent _ _ _ _ _ _ (h.elapse t)) _) not_det _
  | correlationTakesRefresh t => exact out rfl ((h.elapse t).correlationTakes not_det)
  | aggregatorTakesRefresh t => exact out rfl (h.elapse t).aggregatorTakes
  | markFallingEdge t failed =>
    exact out rfl (ite_keeps (h.elapse t) (calm.takeFallingEdge failed (h.elapse t)))
  | markRelease t =>
    exact out rfl (ite_keeps ((h.elapse t).withMark rfl (.inr (.inl rfl))) (h.elapse t))
  | pulseEnd t => exact out rfl (ite_keeps ((h.elapse t).withMark rfl (.inl rfl)) (h.elapse t))
  | stuckExpiry t =>
    have stuck : Resting w ((s.elapse t).withMark { s.mark with stuckExpiry := none, stuck := true }) :=
      (h.elapse t).withMark rfl (.inr (.inl rfl))
    exact out rfl (ite_keeps (stuck.raise _ _) (h.elapse t))
  | recoveryExpiry t =>
    exact out rfl (ite_keeps ((h.elapse t).withMark rfl (.inr (.inl rfl))) (h.elapse t))
  | presentPeriodExpiry t =>
    refine out rfl ?_
    split
    · exact h.elapse t
    · split
      · next due =>
        have run : w = .run := h.state.symm.trans (beq_iff_eq.1 (Bool.and_eq_true _ _ ▸ due).1)
        have handed : Resting w ((s.elapse t).withLink s.link.handPresent) :=
          (h.elapse t).withLink fun hl => hl.handPresent (h.linkView.trans run)
        exact handed.of_block (State.withCtl_onlyChanges _ _) (by decide) fun _ hs =>
          ⟨hs.1, fun hw => absurd run hw⟩
      · exact h.elapse t
  | attemptStart t =>
    refine out rfl ?_
    split
    · exact h.elapse t
    · split
      · next ready =>
        have waiting : s.link.tx = .waiting := by
          simp only [State.elapse_link, Bool.and_eq_true, beq_iff_eq] at ready
          exact ready.1.2
        exact (h.elapse t).withLink fun hl => hl.attempting (by rw [State.elapse_link, waiting]; simp) rfl (by simp [NoticeLink.seeEdge]) rfl
      · exact h.elapse t
  | readbackMismatch t =>
    refine out rfl ?_
    split
    · exact h.elapse t
    · split
      · next sent =>
        have sending : s.link.tx = .sending := by
          simp only [State.elapse_link, Bool.and_eq_true, beq_iff_eq] at sent
          exact sent.1
        have popped {v : StationState} (hl : s.link.Follows v) :
            (s.link.popHead.leaveByte (s.elapse t).time).Follows v := hl.popHead.of_same rfl rfl rfl
        refine ite_keeps ((h.elapse t).withLink popped) (ite_keeps ((h.elapse t).reported _ popped) ?_)
        exact (h.elapse t).withLink fun hl => hl.attempting (by rw [State.elapse_link, sending]; simp) rfl (by simp [NoticeLink.leaveByte]) rfl
      · exact h.elapse t
  | attemptSuccess t =>
    exact out rfl (ite_keeps ((h.elapse t).withLink fun hl => hl.popHead.of_same rfl rfl rfl) (h.elapse t))
  | frameMalformed t fault =>
    have dropped : Resting w ((s.elapse t).withLink (s.link.dropFrame (s.elapse t).time)) :=
      (h.elapse t).withLink fun hl => hl.of_same rfl rfl rfl
    exact out rfl (ite_keeps (dropped.raise _ _) (h.elapse t))
  | frameComplete t => exact out rfl (ite_keeps (h.elapse t).judgeFrame (h.elapse t))
  | receiverRecovered t =>
    exact out rfl (ite_keeps ((h.elapse t).withLink fun hl => hl.of_same rfl rfl rfl) (h.elapse t))
  | noticeFallingEdge t e =>
    obtain ⟨hq, -, -, ht, hv⟩ := s.link.takeEdge_keeps (s.elapse t).time (s.elapse t).now e
    exact out rfl (ite_keeps ((h.elapse t).withLink fun hl => hl.of_same hv ht hq) (h.elapse t))
  | peerAgingExpiry t a =>
    exact out rfl (ite_keeps (Rest.raise ((h.elapse t).setPeer a _) _ _) (h.elapse t))
  | contextClose t k =>
    refine out rfl ?_
    split
    · exact h.elapse t
    · refine ite_keeps ?_ (h.elapse t)
      have expired := (h.elapse t).windowExpiry
      dsimp only
      split
      · exact expired _
      · exact calm.freeContext _ _ (ite_keeps (expired _) (calm.edit _ _ _ (State.copyResults_edited _ _ _) (expired _)))
  | scrubComplete t k =>
    refine out rfl (ite_keeps ?_ (h.elapse t))
    exact (h.elapse t).capture ((State.setSlot_frame _ _ _).mono (by simp)) (.of_eq rfl)
      (.nothing (State.setSlot_subsides _ k (by simp)))
  | scrubLocationError t k => exact out rfl (ite_keeps ((h.elapse t).memoryError k) (h.elapse t))
  | intervalBoundary t =>
    refine out rfl ?_
    split
    · exact h.elapse t
    · next i hi =>
      exact ite_keeps ((h.elapse t).writeInterval _ _ _ fun none => absurd (hi.symm.trans none) (by simp))
        (h.elapse t)
  | release t =>
    refine out rfl ?_
    split
    · split
      · exact (h.elapse t).answer _ _
      · exact ite_keeps (ite_keeps ((h.elapse t).answer _ _) (((h.elapse t).removeHead _).answer _ _))
          (ite_keeps ((h.elapse t).answer _ _) ((h.elapse t).answer _ _))
    · exact h.elapse t
  | wave t fails =>
    refine out rfl ?_
    split
    · split
      · exact (h.elapse t).answer _ _
      · next k _ =>
        exact ite_keeps (((h.elapse t).memoryError k).answer _ _) ((h.elapse t).answer _ _)
    · exact h.elapse t
  | tally t =>
    have cleared : Resting w ((s.elapse t).withStore { s.store with tally := Vector.replicate 5 tallyClear }) :=
      (h.elapse t).withStore rfl
    exact out rfl (ite_keeps (cleared.answer _ _) (h.elapse t))
  | causes t =>
    have cleared : Resting w ((s.elapse t).withCtl { s.ctl with
        causes := causesClear, attn := attnOf causesClear s.attnMask }) :=
      (h.elapse t).of_block (State.withCtl_onlyChanges _ _) (by decide) fun _ hs => hs
    exact out rfl (ite_keeps (cleared.answer _ _) (h.elapse t))
  | set t =>
    refine out rfl ?_
    split
    · split
      · exact ite_keeps ((h.elapse t).answer _ _) (((h.elapse t).storeItem _ _).answer _ _)
      · exact (h.elapse t).answer _ _
    · exact h.elapse t
  | linkReset t low =>
    refine out rfl (ite_keeps (Rest.answer ?_ _ _) (h.elapse t))
    have reset : Resting w ((s.elapse t).linkTakesReset s.link.view) :=
      ((h.elapse t).linkDropsQueue not_det s.link.view fun _ => rfl).linkClearsPeers
    have mark : ((s.elapse t).linkTakesReset s.link.view).mark = s.mark :=
      (State.linkTakesReset_frame _ _).only.1 .mark (by decide)
    exact reset.withMark (by rw [mark]; rfl) (.inl rfl)
  | _ => exact h.of_command (by simp [touches]) he


/-! The detector. -/

/-- Outside RUN a command leaves the detector's state as it is. -/
theorem exec_watch {i : Instr} {s' : State} (h : s.ctl.state ≠ .run) (hw : s.det.mode = .watch)
    (he : exec i s = .next s') (hp : ∀ straps low psel, i ≠ .pinReset straps low psel)
    (hr : ∀ t low, i ≠ .restart t low) : s'.det.mode = .watch := by
  have out {u : State} (e : exec i s = .next u) (hu : u.det.mode = .watch) : s'.det.mode = .watch := by
    rw [e] at he
    injection he with e
    exact e ▸ hu
  have untouched (hb : Block.det ∉ touches i) : s'.det.mode = .watch := by
    have same : s'.det = s.det := (commandsKeepWhatIsNotTheirs i s s' he).1.1 .det hb
    rw [same]
    exact hw
  cases i with
  | pinReset straps low psel => exact absurd rfl (hp _ _ _)
  | restart t low => exact absurd rfl (hr t low)
  | positionClose checks =>
    have runs : s.halts = false := by
      simp [State.halts, h]
    refine out (exec_positionClose_of_runs runs checks) ?_
    have measured : s.measured.det = s.det := s.measured_frame.only.1 .det (by decide)
    rw [s.eventsOf_mode, measured]
    exact hw
  | detectorTakesRefresh t failed =>
    refine out rfl ?_
    unfold State.detectorTakes
    split
    · exact hw
    · rw [if_neg]
      · exact hw
      · exact h
  | maxOpenExpiry t =>
    refine out rfl ?_
    rw [show (s.elapse t).det.mode = .watch from hw]
    exact hw
  | _ => exact untouched (by simp [touches])

end Sys2Proof.Machine
end

section
/-! Outside RUN nothing is in progress (O8). -/

namespace Sys2Proof.Machine

variable {s : State} {w : StationState}

/-- All blocks hold one station state, and outside RUN nothing is in progress. -/
structure Quiet (w : StationState) (s : State) : Prop where
  blocks : Resting w s
  watch : w ≠ .run → s.det.mode = .watch

theorem Quiet.state (h : Quiet w s) : s.ctl.state = w := h.blocks.state

/-- The four invariants are those of the blocks. -/
theorem quiet_iff (s : State) :
    (s.viewsAgree ∧ s.oneFilling ∧ s.quietOutsideRun ∧ s.transmitterFollowsQueue) ↔
      Quiet s.ctl.state s := by
  constructor
  · rintro ⟨⟨cap, mark, link, corr, store⟩, one, quiet, tx, queue⟩
    refine ⟨⟨State.fillings_le_one.1 one, fun b hb => ?_⟩, fun hw => (quiet hw).1⟩
    cases b with
    | det => exact absurd rfl hb
    | cap => exact ⟨cap, fun hw => State.fillings_eq_zero.1 (quiet hw).2.2.1⟩
    | mark => exact ⟨mark, fun hw => (quiet hw).2.2.2.2.2.1⟩
    | link => exact ⟨link, link ▸ tx, link ▸ queue⟩
    | corr => exact ⟨corr, fun hw => (quiet hw).2.1⟩
    | store => exact store
    | agg => exact fun hw => (quiet hw).2.2.2.1
    | ctl => exact ⟨rfl, fun hw => (quiet hw).2.2.2.2.1⟩
    | _ => trivial
  · rintro ⟨⟨one, rests⟩, watch⟩
    obtain ⟨cap, still⟩ := rests .cap (by simp [butDet])
    obtain ⟨mark, off⟩ := rests .mark (by simp [butDet])
    obtain ⟨link, tx, queue⟩ := rests .link (by simp [butDet])
    obtain ⟨corr, closed⟩ := rests .corr (by simp [butDet])
    obtain ⟨-, present⟩ := rests .ctl (by simp [butDet])
    have store : s.store.view = s.ctl.state := rests .store (by simp [butDet])
    have agg : s.ctl.state ≠ .run → s.agg.cur = none := rests .agg (by simp [butDet])
    refine ⟨⟨cap, mark, link, corr, store⟩, State.fillings_le_one.2 one, fun hw => ?_, ?_⟩
    · exact ⟨watch hw, closed hw, State.fillings_eq_zero.2 (still hw), agg hw, present hw, off hw,
        tx.2 (.inr hw)⟩
    · exact ⟨link ▸ tx, link ▸ queue⟩

theorem afterPinReset_quiet (straps : Straps) (low psel : Bool) (free : Nat) (q : List Instr) :
    Quiet .config (State.afterPinReset straps low psel free q) := by
  have still (k : Fin 8) : ¬ (State.afterPinReset straps low psel free q).fills k := by
    simp [State.fills, State.afterPinReset, capReset, slotReset]
  refine ⟨⟨fun j k hj => absurd hj (still j), fun b hb => ?_⟩, fun _ => rfl⟩
  cases b with
  | det => exact absurd rfl hb
  | cap => exact ⟨rfl, fun _ => still⟩
  | mark => exact ⟨rfl, fun _ => rfl⟩
  | link => exact ⟨rfl, ⟨fun _ => .inl rfl, fun _ => rfl⟩, fun _ => rfl⟩
  | corr => exact ⟨rfl, fun _ k => by simp [State.afterPinReset, corrReset]⟩
  | store => rfl
  | agg => exact fun _ => rfl
  | ctl => exact ⟨rfl, fun _ => rfl⟩
  | _ => trivial

/-- START brings every block to RUN (R185). -/
theorem Rest.takeStart (h : Resting .config s) : Resting .run s.takeStart := by
  refine ⟨h.one, fun b hb => ?_⟩
  have link := h.rests .link (by simp [butDet])
  have run : ({ s.link with view := .run } : NoticeLink).Follows .run :=
    ⟨rfl, ⟨fun _ => .inl (link.queue rfl), fun _ => link.tx.2 (.inl (link.queue rfl))⟩,
      fun hw => absurd hw (by decide)⟩
  cases b with
  | det => exact absurd rfl hb
  | cap => exact ⟨rfl, fun hw => absurd rfl hw⟩
  | mark => exact ⟨rfl, fun hw => absurd rfl hw⟩
  | link => exact run.handPresent rfl
  | corr => exact ⟨rfl, fun hw => absurd rfl hw⟩
  | store => rfl
  | agg => exact fun hw => absurd rfl hw
  | ctl => exact ⟨rfl, fun hw => absurd rfl hw⟩
  | _ => trivial

theorem Quiet.takeStart (h : Quiet .config s) : Quiet .run s.takeStart :=
  ⟨h.blocks.takeStart, fun hw => absurd rfl hw⟩

/-- The blocks at rest after a stop, and the controller. -/
theorem Rest.of_stopping (h : Rest w (· ∈ stopping) s) (ctl : s.rests w .ctl) : Resting w s := by
  refine ⟨h.one, fun b hb => ?_⟩
  cases b with
  | det => exact absurd rfl hb
  | ctl => exact ctl
  | cap | mark | link | corr | store | agg => exact h.rests _ (by simp [stopping])
  | cfe | rms | ref | port => trivial

/-- RESTART brings every block to CONFIG, with nothing in progress (R186). -/
theorem State.takeRestart_quiet (one : s.OneFills) (low : Bool) : Quiet .config (s.takeRestart low) := by
  have stopped := Rest.takeStop (k := .restart low s.order.tableFirst) one s.order s.order.checkFails
    (act := id) fun _ h => h
  have watch := s.takeStop_watch (.restart low s.order.tableFirst) s.order s.order.checkFails
    (act := id) fun _ => rfl
  refine ⟨.of_stopping ?_ ⟨rfl, fun _ => rfl⟩, fun _ => watch⟩
  refine Rest.of_block (b := .ctl) ?_ (State.withCtl_onlyChanges _ _) (by decide)
    fun hc => absurd hc (by simp [stopping])
  exact (Rest.withRef (Rest.withRef stopped _) _)

/-- HALT brings every block to HALTED, with nothing in progress (R187). -/
theorem halt_quiet (one : s.OneFills) (checks : CloseChecks) :
    Quiet .halted
      (s.measured.takeStop .halt s.order checks.failed (s.eventsOf checks)).enterHalted := by
  have measured : s.measured.cap = s.cap := s.measured_frame.only.1 .cap (by decide)
  have stopped := Rest.takeStop (k := .halt) (s := s.measured) ((Subsides.of_eq measured).oneFills one)
    s.order checks.failed (act := s.eventsOf checks) fun hon h => h.eventsOf checks hon
  have watch := s.measured.takeStop_watch .halt s.order checks.failed fun u => s.eventsOf_mode checks u
  refine ⟨.of_stopping ?_ ⟨rfl, fun _ => rfl⟩, fun _ => watch⟩
  exact Rest.of_block (b := .ctl) (stopped.raise .halt 0) (State.withCtl_onlyChanges _ _) (by decide)
    fun hc => absurd hc (by simp [stopping])

theorem Quiet.of_state {v : StationState} (h : Quiet v s) : Quiet s.ctl.state s := by
  rw [h.state]
  exact h

theorem Quiet.answer (h : Quiet w s) (st : Status) (p : List Byte) : Quiet w (s.answer st p) :=
  ⟨h.blocks.answer st p, h.watch⟩

theorem Quiet.elapse (h : Quiet w s) (t : Nat) : Quiet w (s.elapse t) :=
  ⟨Rest.elapse h.blocks t, h.watch⟩

/-- Every command but those that change the station state. -/
theorem Quiet.of_standing {i : Instr} {s' : State} (h : Quiet w s) (he : exec i s = .next s')
    (hp : ∀ straps low psel, i ≠ .pinReset straps low psel) (hs : ∀ t, i ≠ .start t)
    (hr : ∀ t low, i ≠ .restart t low) (hc : ∀ checks, i = .positionClose checks → s.halts = false) :
    Quiet w s' :=
  ⟨exec_resting h.blocks he hp hs hr hc,
    fun hw => exec_watch (by rw [h.state]; exact hw) (h.watch hw) he hp hr⟩

/-- After every command all blocks hold one station state, with nothing in progress outside RUN. -/
theorem exec_quiet {i : Instr} {s' : State} (h : Quiet s.ctl.state s) (he : exec i s = .next s') :
    Quiet s'.ctl.state s' := by
  have out {v : StationState} {u : State} (e : exec i s = .next u) (hu : Quiet v u) :
      Quiet s'.ctl.state s' := by
    rw [e] at he
    injection he with e
    exact e ▸ hu.of_state
  cases i with
  | pinReset straps low psel => exact out rfl (afterPinReset_quiet _ _ _ _ _)
  | restart t low =>
    have restarted := (State.takeRestart_quiet (s := s.elapse t) h.blocks.one low).answer .done []
    exact out (exec_restart t low s)
      (ite_keeps (P := fun u => Quiet u.ctl.state u) restarted.of_state (h.elapse t).of_state)
  | positionClose checks =>
    cases hh : s.halts with
    | true => exact out (exec_positionClose_of_halts hh checks) (halt_quiet h.blocks.one checks)
    | false => exact (h.of_standing he (by simp) (by simp) (by simp) fun _ _ => hh).of_state
  | start t =>
    obtain rfl : (if (s.elapse t).port.inService = some .start then _ else s.elapse t) = s' :=
      Host.Outcome.next.inj he
    have told (st : Status) := ((h.elapse t).answer st []).of_state
    refine ite_keeps (P := fun u => Quiet u.ctl.state u) ?_ (h.elapse t).of_state
    split
    · next config =>
      have config : s.ctl.state = .config := config
      rw [config] at h
      exact ite_keeps (P := fun u => Quiet u.ctl.state u) (told _)
        ((Quiet.takeStart (h.elapse t)).answer .done []).of_state
    · exact told _
    · exact told _
  | _ => exact (h.of_standing he (by simp) (by simp) (by simp) (by simp)).of_state

/-- Settles O8: every block keeps the station state that it holds and its rest, START brings all to
RUN, and a stop leaves each at rest in whatever order they take it. -/
theorem nothingRunsOutsideRun : Obligations.NothingRunsOutsideRun := by
  unfold Obligations.NothingRunsOutsideRun
  intro s s' h step
  rw [quiet_iff] at h ⊢
  exact step_keeps (P := fun u => Quiet u.ctl.state u)
    (fun u q hu => ⟨⟨hu.blocks.one, hu.blocks.rests⟩, hu.watch⟩) (fun _ _ _ => exec_quiet) h step

end Sys2Proof.Machine
end

section
/-! The samples, their sums of squares and the one-cycle values (ch. 1, ch. 2): only the front end's
own commands and a position close change them. -/

namespace Sys2Proof.Machine

/-! Sums over a ring. -/

/-- The sum of `g` over the 128 ring positions before `p`. -/
def ringSum (g : Fin 640 → Nat) (p : Fin 640) : Nat :=
  ((List.finRange 128).map fun j => g (p - 1 - Fin.ofNat 640 j.val)).sum

theorem ringSum_eq (g : Fin 640 → Nat) (p : Fin 640) :
    ringSum g p = ∑ j : Fin 128, g (p - 1 - Fin.ofNat 640 j.val) :=
  (Fin.sum_univ_def _).symm

/-- The position 128 before the one written lies outside the sum after it, and is the last of the
sum before it. -/
theorem ringSum_advance (g h : Fin 640 → Nat) (p : Fin 640) (same : ∀ i, i ≠ p → h i = g i) :
    ringSum h (p + 1) + g (leavingPos p) = ringSum g p + h p := by
  rw [ringSum_eq, ringSum_eq, Fin.sum_univ_succ, Fin.sum_univ_castSucc (n := 127)]
  have first : p + 1 - 1 - Fin.ofNat 640 (0 : Fin 128).val = p := by
    apply Fin.ext
    simp only [Fin.sub_def, Fin.add_def, Fin.ofNat]
    have := p.isLt
    simp
    omega
  have last : p - 1 - Fin.ofNat 640 (Fin.last 127).val = leavingPos p := by
    apply Fin.ext
    simp only [Fin.sub_def, Fin.add_def, Fin.ofNat, leavingPos]
    have := p.isLt
    simp
    omega
  have middle (j : Fin 127) : h (p + 1 - 1 - Fin.ofNat 640 j.succ.val) =
      g (p - 1 - Fin.ofNat 640 j.castSucc.val) := by
    have place : p + 1 - 1 - Fin.ofNat 640 j.succ.val = p - 1 - Fin.ofNat 640 j.castSucc.val := by
      apply Fin.ext
      simp only [Fin.sub_def, Fin.add_def, Fin.ofNat, Fin.val_succ, Fin.val_castSucc]
      have := p.isLt
      have := j.isLt
      simp
      omega
    rw [place]
    refine same _ fun e => ?_
    have e := congrArg Fin.val e
    simp only [Fin.sub_def, Fin.ofNat, Fin.val_castSucc] at e
    have := p.isLt
    have := j.isLt
    simp at e
    omega
  rw [first, last, Finset.sum_congr rfl fun j _ => middle j]
  omega

theorem ringSum_le {g : Fin 640 → Nat} {n : Nat} (h : ∀ i, g i ≤ n) (p : Fin 640) :
    ringSum g p ≤ 128 * n := by
  rw [ringSum_eq]
  exact (Finset.sum_le_card_nsmul _ _ n fun j _ => h _).trans (by simp)

/-! What front end and RMS engine hold. -/

/-- Each sum of squares is that of the last 128 samples (R17). -/
def SumsMatch (c : FrontEnd) (r : RmsEngine) : Prop :=
  ∀ q : Fin 11, r.sums[q] = ringSum (fun p => square c.rings[q][p]) c.pos

/-- Every sample lies within -32767..32767 (R3, R4, R5). -/
structure FrontEnd.InRange (c : FrontEnd) : Prop where
  channels : ∀ k : Fin 8, c.ch[k].lastScaled.natAbs ≤ 32767
  quantities : ∀ k : Fin 3, c.dq[k].lastScaled.natAbs ≤ 32767
  rings : ∀ (q : Fin 11) (p : Fin 640), c.rings[q][p].natAbs ≤ 32767

/-- The samples in range, the sums those of the samples, and the one-cycle values in range. -/
structure Sampled (c : FrontEnd) (r : RmsEngine) : Prop where
  range : c.InRange
  sums : SumsMatch c r
  values : ∀ e ∈ r.history, ∀ q : Fin 11, e.value[q] ≤ 32767

theorem clampSample_range (x : Int) : (clampSample x).natAbs ≤ 32767 := by
  unfold clampSample clampInt
  split_ifs <;> omega

theorem square_le {x : Int} (h : x.natAbs ≤ 32767) : square x ≤ 32767 * 32767 := Nat.mul_le_mul h h

/-- A one-cycle value of samples in range is in range (R21). -/
theorem Sampled.root_le {c : FrontEnd} {r : RmsEngine} (range : c.InRange) (sums : SumsMatch c r)
    (q : Fin 11) : isqrt (r.sums[q] / 128) ≤ 32767 := by
  have total : r.sums[q] ≤ 128 * (32767 * 32767) := by
    rw [sums q]
    exact ringSum_le (fun p => square_le (range.rings q p)) _
  obtain ⟨root, -⟩ := isqrt_spec (r.sums[q] / 128)
  have mean : r.sums[q] / 128 ≤ 32767 * 32767 := by omega
  by_contra big
  have := Nat.mul_self_le_mul_self (Nat.lt_of_not_ge big)
  omega

/-! The settling of a position (R4, R5). -/

theorem FrontEnd.settle_rings (c : FrontEnd) (w : Wiring) (q : Fin 11) (p : Fin 640) :
    (c.settle w).rings[q][p] =
      if p = c.pos then ({ c with dq := Vector.ofFn fun k => c.formD w k } : FrontEnd).sample q
      else c.rings[q][p] :=
  FrontEnd.writeRings_read { c with dq := Vector.ofFn fun k => c.formD w k } q p

theorem FrontEnd.formD_range {c : FrontEnd} (h : c.InRange) (w : Wiring) (k : Fin 3) :
    (c.formD w k).lastScaled.natAbs ≤ 32767 := by
  cases w with
  | star => exact h.channels _
  | delta => exact clampSample_range _

theorem FrontEnd.sample_range {c : FrontEnd} (h : c.InRange) (q : Fin 11) :
    (c.sample q).natAbs ≤ 32767 := by
  unfold FrontEnd.sample
  split
  · next hq => exact h.channels ⟨q.val, hq⟩
  · exact h.quantities ⟨q.val - 8, by have := q.isLt; omega⟩

theorem FrontEnd.InRange.settle {c : FrontEnd} (h : c.InRange) (w : Wiring) :
    (c.settle w).InRange := by
  have formed (k : Fin 3) := FrontEnd.formD_range h w k
  have settled : ({ c with dq := Vector.ofFn fun k => c.formD w k } : FrontEnd).InRange :=
    ⟨h.channels, fun k => by simpa using formed k, h.rings⟩
  refine ⟨fun k => ?_, settled.quantities, fun q p => ?_⟩
  · simpa [FrontEnd.settle, Channel.closed] using h.channels k
  · rw [FrontEnd.settle_rings]
    split
    · exact FrontEnd.sample_range settled q
    · exact h.rings q p

theorem leavingPos_ne (p : Fin 640) : leavingPos p ≠ p := fun e =>
  absurd (add_eq_left.1 e) (by decide)

theorem RmsEngine.takePosition_sums (r : RmsEngine) (c : FrontEnd) (q : Fin 11) :
    (r.takePosition c).sums[q] =
      r.sums[q] + square c.rings[q][c.pos] - square c.rings[q][leavingPos c.pos] :=
  Vector.getElem_ofFn q.isLt

/-- The RMS engine follows the ring: the square of the new sample enters, that of the one 128
positions back leaves (R17). -/
theorem SumsMatch.closePosition {c : FrontEnd} {r : RmsEngine} (h : SumsMatch c r) (straps : Straps) :
    SumsMatch (c.closePosition straps) (r.takePosition (c.settle straps.wiring)) := by
  intro q
  have advance := ringSum_advance (fun p => square c.rings[q][p])
    (fun p => square (c.settle straps.wiring).rings[q][p]) c.pos
    (fun i hi => congrArg square ((c.settle_rings straps.wiring q i).trans (if_neg hi)))
  have leaving : (c.settle straps.wiring).rings[q][leavingPos c.pos] = c.rings[q][leavingPos c.pos] := by
    rw [FrontEnd.settle_rings, if_neg (leavingPos_ne _)]
  have rings : (c.closePosition straps).rings = (c.settle straps.wiring).rings := rfl
  have next : (c.closePosition straps).pos = c.pos + 1 := rfl
  have sums : (r.takePosition (c.settle straps.wiring)).sums[q] =
      r.sums[q] + square (c.settle straps.wiring).rings[q][c.pos] -
        square c.rings[q][leavingPos c.pos] := by
    rw [← leaving]
    exact r.takePosition_sums (c.settle straps.wiring) q
  rw [sums, rings, next, h q]
  omega

theorem FrontEnd.InRange.closePosition {c : FrontEnd} (h : c.InRange) (straps : Straps) :
    (c.closePosition straps).InRange := by
  obtain ⟨channels, quantities, rings⟩ := h.settle straps.wiring
  exact ⟨channels, quantities, rings⟩

theorem FrontEnd.InRange.clearFlags {c : FrontEnd} (h : c.InRange) : c.clearFlags.InRange :=
  ⟨fun k => by simpa [FrontEnd.clearFlags] using h.channels k,
    fun k => by simpa [FrontEnd.clearFlags] using h.quantities k, h.rings⟩

/-! The end of a position close. -/

/-- Front end and RMS engine at the end of a position close, with the moment and the detector state
that a refresh is emitted with (R6, R20). -/
def FrontEnd.ended (c : FrontEnd) (ends : Bool) : FrontEnd := if ends then c.clearFlags else c

/-- The RMS engine at the end of a position close. -/
def RmsEngine.ended (r : RmsEngine) (c : FrontEnd) (ends : Bool) (stamp : Ms) (det : DetState) :
    RmsEngine :=
  if ends then
    if r.fill < 128 then
      { r with prevClip := Vector.ofFn c.clipOf, prevFreeRun := c.freeRunSeen }
    else r.emit (r.build (Vector.ofFn c.clipOf) c.freeRunSeen stamp det) (Vector.ofFn c.clipOf)
      c.freeRunSeen
  else r

theorem State.halfCycleEnd_cfe (s : State) : s.halfCycleEnd.cfe = s.cfe.clearFlags := by
  unfold State.halfCycleEnd
  dsimp only
  split <;> rfl

theorem State.halfCycleEnd_rms (s : State) :
    s.halfCycleEnd.rms = s.rms.ended s.cfe true s.now s.det.mode.state := by
  unfold State.halfCycleEnd RmsEngine.ended
  dsimp only
  split
  · rfl
  · rfl

theorem State.eventsOf_frontEnd (s : State) (checks : CloseChecks) (u : State) :
    (s.eventsOf checks u).cfe = u.cfe.ended (endsSegment s.cfe.pos) ∧
    (s.eventsOf checks u).rms = u.rms.ended u.cfe (endsSegment s.cfe.pos) u.now u.det.mode.state := by
  have locked := u.handLockedCycle_frame (u.ctl.state == .run) s.closedCycle
  have cfe : (u.handLockedCycle (u.ctl.state == .run) s.closedCycle).cfe = u.cfe :=
    locked.only.1 .cfe (by decide)
  have rms : (u.handLockedCycle (u.ctl.state == .run) s.closedCycle).rms = u.rms :=
    locked.only.1 .rms (by decide)
  have det : (u.handLockedCycle (u.ctl.state == .run) s.closedCycle).det = u.det :=
    locked.only.1 .det (by decide)
  have now : (u.handLockedCycle (u.ctl.state == .run) s.closedCycle).now = u.now := by
    simp only [State.now, locked.steady.time]
  have filled (v : State) (m : RefIndex) (fails : Bool) :
      (v.fillCopy m fails).cfe = v.cfe ∧ (v.fillCopy m fails).rms = v.rms :=
    ⟨(v.fillCopy_frame m fails).only.1 .cfe (by decide), (v.fillCopy_frame m fails).only.1 .rms (by decide)⟩
  have ended : ∀ v : State, v = (u.handLockedCycle (u.ctl.state == .run) s.closedCycle).halfCycleEnd →
      v.cfe = u.cfe.ended true ∧ v.rms = u.rms.ended u.cfe true u.now u.det.mode.state := by
    rintro v rfl
    rw [State.halfCycleEnd_cfe, State.halfCycleEnd_rms, cfe, rms, det, now]
    exact ⟨rfl, rfl⟩
  unfold State.eventsOf State.closeEvents
  dsimp only
  cases endsSegment s.cfe.pos
  · exact ⟨cfe, rms⟩
  · rw [if_pos rfl]
    split
    · rw [(filled _ _ _).1, (filled _ _ _).2]
      exact ended _ rfl
    · exact ended _ rfl

theorem State.measured_cfe (s : State) : s.measured.cfe = s.cfe.closePosition s.ctl.straps := by
  have raised := (s.elapse s.closeMoment).raiseOverruns_frame
  have cfe : (s.elapse s.closeMoment).raiseOverruns.cfe = s.cfe := raised.only.1 .cfe (by decide)
  have straps : (s.elapse s.closeMoment).raiseOverruns.ctl.straps = s.ctl.straps := raised.steady.straps
  have measure (u : State) : u.measurePosition.cfe = u.cfe.closePosition u.ctl.straps :=
    (State.raiseFreeRun_frame _ _ _).only.1 .cfe (by decide)
  unfold State.measured
  rw [measure, cfe, straps]

theorem State.measured_rms (s : State) :
    s.measured.rms = s.rms.takePosition (s.cfe.settle s.ctl.straps.wiring) := by
  have raised := (s.elapse s.closeMoment).raiseOverruns_frame
  have cfe : (s.elapse s.closeMoment).raiseOverruns.cfe = s.cfe := raised.only.1 .cfe (by decide)
  have rms : (s.elapse s.closeMoment).raiseOverruns.rms = s.rms := raised.only.1 .rms (by decide)
  have straps : (s.elapse s.closeMoment).raiseOverruns.ctl.straps = s.ctl.straps := raised.steady.straps
  have measure (u : State) : u.measurePosition.rms = u.rms.takePosition (u.cfe.settle u.ctl.straps.wiring) :=
    (State.raiseFreeRun_frame _ _ _).only.1 .rms (by decide)
  unfold State.measured
  rw [measure, cfe, rms, straps]

/-- The state in which the events of a position close come: where it halts the station, some blocks
have taken the HALT (log entry 3). -/
def State.beforeEvents (s : State) : State :=
  if s.halts then s.measured.stopBlocks .halt (earlyPhase s.order) s.order.detectorFirst else s.measured

/-- What follows the events of a position close: where it halts the station, the readers that take a
refresh, and the HALT of the other blocks. -/
def State.afterEvents (s : State) (checks : CloseChecks) (u : State) : State :=
  if s.halts then (((u.when (s.measured.ctl.state == .run) fun st =>
    st.readersTake .halt s.order checks.failed).stopBlocks .halt (earlyPhase s.order).others
      s.order.detectorFirst).withFree (s.measured.free + 1)).enterHalted
  else u

/-- A position close is what precedes its events, the events and what follows them. -/
theorem exec_positionClose_events (checks : CloseChecks) (s : State) :
    exec (.positionClose checks) s =
      .next (s.afterEvents checks (s.eventsOf checks s.beforeEvents)) := by
  rw [exec_positionClose]
  unfold State.afterEvents State.beforeEvents
  cases s.halts <;> rfl

theorem State.beforeEvents_frame (s : State) :
    Frame [.det, .cap, .mark, .link, .corr, .store, .agg, .ctl] s.measured s.beforeEvents :=
  .ite (State.stopBlocks_frame _ _ _ _) (.refl _ _)

/-- The HALT may take the detector to WATCH before a refresh is emitted. -/
theorem State.beforeEvents_det (s : State) : s.beforeEvents.det = s.det ∨
    s.halts = true ∧ s.beforeEvents.det = { s.det with mode := .watch, cond := allBack } := by
  have measured : s.measured.det = s.det := s.measured_frame.only.1 .det (by decide)
  unfold State.beforeEvents
  cases s.halts with
  | false => exact .inl measured
  | true =>
    rw [if_pos rfl, State.stopBlocks_det, measured]
    split
    · exact .inr ⟨rfl, rfl⟩
    · exact .inl rfl

/-- The station state and what follows it aside, a steady change of all but clock, front end and RMS
engine. -/
theorem State.afterEvents_frontEnd (s : State) (checks : CloseChecks) (u : State) :
    (s.afterEvents checks u).time = u.time ∧ (s.afterEvents checks u).cfe = u.cfe ∧
    (s.afterEvents checks u).rms = u.rms := by
  unfold State.afterEvents
  cases s.halts with
  | false => exact ⟨rfl, rfl, rfl⟩
  | true =>
    have late := (u.when_frame (s.measured.ctl.state == .run) fun st =>
      st.readersTake_frame .halt s.order checks.failed).trans
        ((State.stopBlocks_frame _ .halt (earlyPhase s.order).others s.order.detectorFirst).mono (by simp))
    exact ⟨late.steady.time, late.only.1 .cfe (by decide), late.only.1 .rms (by decide)⟩

/-- Clock, front end and RMS engine after a position close, halting or not: the HALT touches none of
them. -/
theorem exec_positionClose_frontEnd (checks : CloseChecks) (s : State) : ∃ s',
    exec (.positionClose checks) s = .next s' ∧ s'.time = (s.elapse s.closeMoment).time ∧
    s'.cfe = (s.cfe.closePosition s.ctl.straps).ended (endsSegment s.cfe.pos) ∧
    s'.rms = (s.rms.takePosition (s.cfe.settle s.ctl.straps.wiring)).ended
      (s.cfe.closePosition s.ctl.straps) (endsSegment s.cfe.pos) s'.now
      s.beforeEvents.det.mode.state := by
  have before := s.beforeEvents_frame
  obtain ⟨cfe, rms⟩ := s.eventsOf_frontEnd checks s.beforeEvents
  obtain ⟨time, cfe', rms'⟩ := s.afterEvents_frontEnd checks (s.eventsOf checks s.beforeEvents)
  rw [show s.beforeEvents.cfe = s.measured.cfe from before.only.1 .cfe (by decide),
    State.measured_cfe] at cfe rms
  rw [show s.beforeEvents.rms = s.measured.rms from before.only.1 .rms (by decide),
    State.measured_rms] at rms
  have same := (s.eventsOf_frame checks s.beforeEvents).steady.time
  refine ⟨_, exec_positionClose_events checks s, ?_, cfe'.trans cfe, rms'.trans (rms.trans ?_)⟩
  · rw [time, same, before.steady.time, s.measured_frame.steady.time]
  · simp only [State.now, time, same]

/-! Every command. -/

/-- What front end and RMS engine keep at pin reset, at each result, at each cycle timeout and at each
position close, every command keeps. -/
theorem exec_keeps_frontEnd {Q : FrontEnd → RmsEngine → Prop} {i : Instr} {s s' : State}
    (reset : ∀ f, Q (frontEndReset f) rmsReset)
    (result : ∀ (c : FrontEnd) r (ch : Fin 8) raw gain offset, Q c r →
      Q { c with ch := c.ch.set ch (c.ch[ch].takeResult raw gain offset) } r)
    (timeout : ∀ (c : FrontEnd) r trk, Q c r → Q { c with trk := trk } r)
    (close : ∀ (c : FrontEnd) r straps ends stamp det, Q c r → Q ((c.closePosition straps).ended ends)
      ((r.takePosition (c.settle straps.wiring)).ended (c.closePosition straps) ends stamp det))
    (h : Q s.cfe s.rms) (he : exec i s = .next s') : Q s'.cfe s'.rms := by
  have untouched (hc : Block.cfe ∉ touches i) (hr : Block.rms ∉ touches i) : Q s'.cfe s'.rms := by
    obtain ⟨kept, -⟩ := commandsKeepWhatIsNotTheirs i s s' he
    rw [show s'.cfe = s.cfe from kept.1 .cfe hc, show s'.rms = s.rms from kept.1 .rms hr]
    exact h
  have out {u : State} (e : exec i s = .next u) (hu : Q u.cfe u.rms) : Q s'.cfe s'.rms := by
    rw [e] at he
    injection he with e
    exact e ▸ hu
  cases i with
  | pinReset straps low psel => exact out rfl (reset _)
  | takeResult t ch code => exact out rfl (result _ _ _ _ _ _ h)
  | positionClose checks =>
    obtain ⟨u, next, -, cfe, rms⟩ := exec_positionClose_frontEnd checks s
    refine out next ?_
    rw [cfe, rms]
    exact close _ _ _ _ _ _ h
  | cycleTimeout t =>
    refine out rfl ?_
    split
    · exact h
    · split
      · exact ite_keeps (P := fun u : State => Q u.cfe u.rms) (timeout _ _ _ h) (timeout _ _ _ h)
      · exact h
  | _ => exact untouched (by simp [touches]) (by simp [touches])

theorem SumsMatch.ended {c : FrontEnd} {r : RmsEngine} (h : SumsMatch c r) (ends : Bool) (stamp : Ms)
    (det : DetState) : SumsMatch (c.ended ends) (r.ended c ends stamp det) := by
  unfold FrontEnd.ended RmsEngine.ended
  cases ends
  · exact h
  · simp only [if_true]
    split <;> exact h

theorem sampled_reset (f : Freq) : Sampled (frontEndReset f) rmsReset := by
  refine ⟨⟨?_, ?_, ?_⟩, fun q => ?_, ?_⟩
  · simp [frontEndReset, channelReset]
  · simp [frontEndReset]
  · simp [frontEndReset]
  · rw [ringSum_eq]
    simp [frontEndReset, rmsReset, square]
  · simp [rmsReset]

theorem exec_sumsMatch {i : Instr} {s s' : State} (h : SumsMatch s.cfe s.rms)
    (he : exec i s = .next s') : SumsMatch s'.cfe s'.rms := by
  exact exec_keeps_frontEnd (fun f => (sampled_reset f).sums) (fun _ _ _ _ _ _ h => h)
    (fun _ _ _ h => h) (fun _ _ _ _ _ _ h => (h.closePosition _).ended _ _ _) h he

theorem Channel.takeResult_range {c : Channel} (h : c.lastScaled.natAbs ≤ 32767) (raw gain offset : Int) :
    (c.takeResult raw gain offset).lastScaled.natAbs ≤ 32767 := by
  unfold Channel.takeResult
  split
  · exact h
  · split
    · exact h
    · exact clampSample_range _

theorem Sampled.ended {c : FrontEnd} {r : RmsEngine} (h : Sampled c r) (ends : Bool) (stamp : Ms)
    (det : DetState) : Sampled (c.ended ends) (r.ended c ends stamp det) := by
  refine ⟨?_, h.sums.ended ends stamp det, ?_⟩
  · cases ends
    · exact h.range
    · exact h.range.clearFlags
  · unfold RmsEngine.ended
    cases ends
    · exact h.values
    · simp only [if_true]
      split
      · exact h.values
      · intro e he q
        rcases List.mem_cons.1 (List.mem_of_mem_take he) with rfl | old
        · simpa [RmsEngine.build] using Sampled.root_le h.range h.sums q
        · exact h.values e old q

theorem exec_sampled {i : Instr} {s s' : State} (h : Sampled s.cfe s.rms)
    (he : exec i s = .next s') : Sampled s'.cfe s'.rms := by
  refine exec_keeps_frontEnd sampled_reset
    (fun c r ch raw gain offset h => ⟨⟨fun k => ?_, h.range.quantities, h.range.rings⟩, h.sums, h.values⟩)
    (fun _ _ _ h => ⟨⟨h.range.channels, h.range.quantities, h.range.rings⟩, h.sums, h.values⟩)
    (fun _ _ _ _ _ _ h => Sampled.ended
      ⟨h.range.closePosition _, h.sums.closePosition _, h.values⟩ _ _ _) h he
  simp only [Fin.getElem_fin]
  by_cases hk : k = ch
  · subst hk
    rw [Vector.getElem_set_self]
    exact Channel.takeResult_range (h.range.channels k) _ _ _
  · rw [Vector.getElem_set_ne (h := Ne.symm (Fin.val_ne_of_ne hk))]
    exact h.range.channels k

/-- Settles O10: only the front end's commands and a position close change samples, sums and values,
and a close moves the sums along the ring by the square that enters and the one that leaves. -/
theorem sumsSamplesAndValuesFit : Obligations.SumsSamplesAndValuesFit := by
  unfold Obligations.SumsSamplesAndValuesFit
  constructor
  · intro s s' h
    exact step_keeps (P := fun u => SumsMatch u.cfe u.rms) (fun _ _ h => h) (fun _ _ _ => exec_sumsMatch) h
  · rintro s s' ⟨⟨channels, quantities, rings⟩, sums, values⟩ step
    have kept := step_keeps (P := fun u => Sampled u.cfe u.rms) (fun _ _ h => h)
      (fun _ _ _ => exec_sampled) ⟨⟨channels, quantities, rings⟩, sums, values⟩ step
    exact ⟨⟨kept.range.channels, kept.range.quantities, kept.range.rings⟩, kept.values⟩

end Sys2Proof.Machine
end

section
/-! The front end's commands (ch. 1): a result taken, and what a position close writes. -/

namespace Sys2Proof.Machine

theorem clampSample_eq (x : Int) : clampSample x = max (-32767) (min 32767 x) :=
  clampInt_eq _ _ _ (by decide)

/-- The clamping changes exactly the values out of range. -/
theorem clampSample_ne (x : Int) : (clampSample x != x) = true ↔ x < -32767 ∨ 32767 < x := by
  rw [bne_iff_ne, clampSample_eq]
  omega

theorem scaleSample_eq (raw gain offset : Int) :
    scaleSample raw gain offset = (raw * gain + 8192) / 16384 + offset := by
  rw [scaleSample, Int.fdiv_eq_ediv_of_nonneg _ (by decide)]

/-- The result of a position is taken where none is late or has been taken (R1, R2, R3). -/
theorem Channel.takeResult_taken {c : Channel} (late : c.late = 0) (taken : c.taken = false)
    (raw gain offset : Int) : c.takeResult raw gain offset = { c with
      lastRaw := raw
      lastScaled := clampSample ((raw * gain + 8192) / 16384 + offset)
      clip := c.clip || (clampSample ((raw * gain + 8192) / 16384 + offset) !=
        (raw * gain + 8192) / 16384 + offset)
      taken := true
      clampedNow := clampSample ((raw * gain + 8192) / 16384 + offset) !=
        (raw * gain + 8192) / 16384 + offset } := by
  rw [← scaleSample_eq]
  exact (if_neg (not_not.2 late)).trans (if_neg (taken ▸ Bool.false_ne_true))

/-- Settles O19: the three cases are those of the definition of a result taken. -/
theorem resultIsScaledAndClamped : Obligations.ResultIsScaledAndClamped := by
  unfold Obligations.ResultIsScaledAndClamped
  intro t ch code s
  refine ⟨_, rfl, fun late => if_pos late,
    fun late taken => (if_neg (not_not.2 late)).trans (if_pos taken), fun late taken => ?_⟩
  have result := Channel.takeResult_taken (c := s.cfe.ch[ch]) late taken code.toInt
    (s.item (gainItem ch)) (s.item (offsetItem ch))
  change let x := _; ((s.cfe.ch[ch]).takeResult _ _ _).lastRaw = _ ∧ _
  dsimp only [State.elapse_cfe]
  rw [show (s.elapse t).item (gainItem ch) = s.item (gainItem ch) from rfl,
    show (s.elapse t).item (offsetItem ch) = s.item (offsetItem ch) from rfl, result]
  exact ⟨rfl, clampSample_eq _, by rw [Bool.or_eq_true, clampSample_ne], clampSample_ne _, rfl, rfl, late⟩

/-! What a position close leaves of the channels and the rings. -/

variable (c : FrontEnd) (straps : Straps) (ends : Bool)

/-- The front end after a close, half-cycle end or not. -/
def FrontEnd.after : FrontEnd := (c.closePosition straps).ended ends

theorem FrontEnd.after_pos : (c.after straps ends).pos = c.pos + 1 := by cases ends <;> rfl
theorem FrontEnd.after_rings : (c.after straps ends).rings = (c.settle straps.wiring).rings := by
  cases ends <;> rfl
theorem FrontEnd.after_trk : (c.after straps ends).trk = (c.closePosition straps).trk := by
  cases ends <;> rfl

theorem FrontEnd.after_ch (k : Fin 8) : (c.after straps ends).ch[k] =
    { c.ch[k].closed with clip := !ends && c.ch[k].clip } := by
  cases ends <;>
    simp [FrontEnd.after, FrontEnd.ended, FrontEnd.closePosition, FrontEnd.settle, FrontEnd.clearFlags,
      FrontEnd.writeRings, Channel.closed]

theorem FrontEnd.after_dq (k : Fin 3) : (c.after straps ends).dq[k] =
    { c.formD straps.wiring k with clip := !ends && (c.formD straps.wiring k).clip } := by
  cases ends <;>
    simp [FrontEnd.after, FrontEnd.ended, FrontEnd.closePosition, FrontEnd.settle, FrontEnd.clearFlags,
      FrontEnd.writeRings]

/-- Settles O20: the samples written are those of the settled channels and of the quantities formed
from them. -/
theorem positionCloseWritesTheSamples : Obligations.PositionCloseWritesTheSamples := by
  unfold Obligations.PositionCloseWritesTheSamples
  intro checks s
  obtain ⟨s', next, time, cfe, -⟩ := exec_positionClose_frontEnd checks s
  have cfe : s'.cfe = s.cfe.after s.ctl.straps (endsSegment s.cfe.pos) := cfe
  have written (q : Fin 11) (p : Fin 640) :
      s'.cfe.rings[q][p] = if p = s.cfe.pos then
        ({ s.cfe with dq := Vector.ofFn fun k => s.cfe.formD s.ctl.straps.wiring k } : FrontEnd).sample q
      else s.cfe.rings[q][p] := by
    rw [cfe, FrontEnd.after_rings]
    exact s.cfe.settle_rings s.ctl.straps.wiring q p
  refine ⟨s', next, time, ?_, fun k => ?_, fun k => ⟨fun star => ?_, fun delta => ?_⟩,
    fun q p hp => (written q p).trans (if_neg hp), fun k => ?_, fun k => ?_⟩
  · rw [cfe, FrontEnd.after_pos]
    exact Fin.val_add _ _
  · rw [cfe, FrontEnd.after_ch]
    exact ⟨rfl, rfl, rfl⟩
  · rw [cfe, FrontEnd.after_dq, star]
    exact ⟨rfl, rfl⟩
  · rw [cfe, FrontEnd.after_dq, delta]
    exact ⟨rfl, clampSample_eq _⟩
  · refine ((written ⟨k.val, by omega⟩ s.cfe.pos).trans (if_pos rfl)).trans ?_
    exact dif_pos k.isLt
  · refine ((written (dIndex k) s.cfe.pos).trans (if_pos rfl)).trans ?_
    rw [cfe, FrontEnd.after_dq]
    simp [FrontEnd.sample, dIndex]

end Sys2Proof.Machine
end

section
/-! Which causes an operation may raise (R189): every other cause is as it was. -/

namespace Sys2Proof.Machine

variable {s t u : State} {cs : List (Fin 13)}

/-- No cause outside the list has changed. -/
def Raises (cs : List (Fin 13)) (s u : State) : Prop :=
  ∀ b, b ∉ cs → u.ctl.causes[b] = s.ctl.causes[b]

theorem Raises.refl (cs : List (Fin 13)) (s : State) : Raises cs s s := fun _ _ => rfl

theorem Raises.trans (h : Raises cs s t) (h' : Raises cs t u) : Raises cs s u :=
  fun b hb => (h' b hb).trans (h b hb)

/-- An operation that leaves the controller alone. -/
theorem Raises.of_frame {bs : List Block} (h : Frame bs s u) (hb : Block.ctl ∉ bs) : Raises cs s u := by
  have ctl : u.ctl = s.ctl := h.only.1 .ctl hb
  exact fun b _ => by rw [ctl]

theorem Raises.of_eq (h : u.ctl = s.ctl) : Raises cs s u := fun b _ => by rw [h]

/-- The same from a state with the same controller. -/
theorem Raises.after (h : Raises cs t u) (e : t.ctl = s.ctl) : Raises cs s u :=
  (Raises.of_eq e).trans h

theorem Raises.ite {c : Prop} [Decidable c] (ht : Raises cs s t) (hu : Raises cs s u) :
    Raises cs s (if c then t else u) := by split <;> assumption

theorem Raises.foldl {α : Type} {f : State → α → State} (h : ∀ s a, Raises cs s (f s a))
    (l : List α) (s : State) : Raises cs s (l.foldl f s) := by
  induction l generalizing s with
  | nil => exact .refl _ s
  | cons a l ih => exact (h s a).trans (ih _)

theorem Raises.mono {ds : List (Fin 13)} (h : Raises cs s u) (sub : ∀ b ∈ cs, b ∈ ds) : Raises ds s u :=
  fun b hb => h b fun hc => hb (sub b hc)

theorem State.raise_raises (s : State) (c : Cause) (n : Nat) (hc : c.bit ∈ cs) :
    Raises cs s (s.raise c n) := fun b hb => by
  rw [State.raise_causes, if_neg]
  rintro rfl
  exact hb hc

theorem State.judge_raises (s : State) (id : Nat) : Raises [8] s (s.judge id) := by
  rcases s.judge_cases id with e | ⟨r, -, -, -, e⟩
  · rw [e]; exact .refl _ s
  · rw [e]
    exact (State.raise_raises _ .recordClosed 0 (by decide)).after rfl

theorem State.judgeAll_raises (s : State) (ids : List Nat) : Raises [8] s (s.judgeAll ids) :=
  .foldl State.judge_raises ids s

theorem State.addRecord_raises (s : State) (r : Record) (x : Ms) : Raises [9] s (s.addRecord r x) := by
  simp only [State.addRecord]
  split
  · exact (State.raise_raises _ .storeFull 0 (by decide)).after rfl
  · exact .of_eq rfl

theorem State.stopFill_raises (s : State) : Raises [8] s s.stopFill := by
  unfold State.stopFill
  split
  · exact .refl _ s
  · exact (State.judgeAll_raises _ _).after rfl

theorem State.spoilSlot_raises (s : State) (k : Fin 8) (e : Option Ms) :
    Raises [8] s (s.spoilSlot k e) :=
  .ite ((State.judgeAll_raises _ _).after rfl) (.refl _ s)

theorem State.memoryError_raises (s : State) (k : Fin 8) : Raises [2, 3, 8] s (s.memoryError k) := by
  have spoiled (u : State) (e : Option Ms) : Raises [2, 3, 8] u (u.spoilSlot k e) :=
    (u.spoilSlot_raises k e).mono (by decide)
  have error : Raises [2, 3, 8] s (s.raise .slotError k.val) := s.raise_raises _ _ (by decide)
  unfold State.memoryError
  split
  · exact error.trans (spoiled _ _)
  · split
    · have double := error.trans (State.raise_raises _ .captureOff k.val (by decide))
      refine (double.trans (spoiled _ none)).trans ?_
      exact ((State.stopFill_raises _).mono (by decide)).after rfl
    · exact error.trans (spoiled _ _)

theorem State.copyPosition_raises (s : State) (k : Fin 8) (j : Nat) (hc : HalfCycle) (fails : Bool) :
    Raises [2, 3, 8] s (s.copyPosition k j hc fails) :=
  .ite (.ite ((State.memoryError_raises _ k).after rfl) (.of_eq rfl)) (.refl _ s)

theorem State.captureRequest_raises (s : State) (id : Nat) (a : RefIndex) (failed : Option (Fin 9)) :
    Raises [2, 3, 8] s (s.captureRequest id a failed) := by
  unfold State.captureRequest
  refine .ite (.of_eq rfl) ?_
  split
  · exact .of_eq rfl
  split
  · exact .ite (.of_eq rfl) (.of_eq rfl)
  split
  · exact (Raises.foldl (fun st j => st.copyPosition_raises _ j _ _) _ _).after rfl
  · exact .of_eq rfl

theorem State.fillCopy_raises (s : State) (m : RefIndex) (fails : Bool) :
    Raises [2, 3, 8] s (s.fillCopy m fails) := by
  unfold State.fillCopy
  split
  · exact .refl _ s
  · have copied (k : Fin 8) (j : Nat) (hc : HalfCycle) := s.copyPosition_raises k j hc fails
    exact .ite (.ite ((copied _ _ _).trans ((State.stopFill_raises _).mono (by decide)))
      (copied _ _ _)) (.refl _ s)

theorem State.capStops_raises (s : State) (k : Stop) : Raises [8] s (s.capStops k) := by
  match k with
  | .halt => exact (State.stopFill_raises _).after rfl
  | .restart _ _ =>
    exact ((State.stopFill_raises (s.withCap { s.cap with view := .config })).after rfl).trans (.of_eq rfl)

theorem State.aggTakesStop_raises (s : State) : Raises [10] s s.aggTakesStop := by
  unfold State.aggTakesStop
  split
  · exact .refl _ s
  · exact (State.raise_raises _ .intervalDone 0 (by decide)).after rfl

/-- The detector's work raises the causes of the capture unit and of the store alone. -/
theorem Raises.calm (s : State) : Calm (Raises [2, 3, 8, 9] s) where
  capture u id a failed h := h.trans ((u.captureRequest_raises id a failed).mono (by decide))
  add u r x _ h := h.trans ((u.addRecord_raises r x).mono (by decide))
  edit u id f _ h := h.trans (.of_eq rfl)
  judge u id h := h.trans ((u.judge_raises id).mono (by decide))
  tally u c r m d h := h.trans (.of_eq rfl)
  contexts u x _ h := h.trans (.of_eq rfl)
  det u x _ h := h.trans (.of_eq rfl)
  ends u n h := h.trans (.of_eq rfl)
  edge u x _ _ h := h.trans (.of_eq rfl)

/-- And so does all that comes within a stop, but for the interval that ends. -/
theorem Raises.calmStop (s : State) (k : Stop) : CalmStop (Raises [2, 3, 8, 9, 10] s) k where
  capture u id a failed h := h.trans ((u.captureRequest_raises id a failed).mono (by decide))
  add u r x _ h := h.trans ((u.addRecord_raises r x).mono (by decide))
  edit u id f _ h := h.trans (.of_eq rfl)
  judge u id h := h.trans ((u.judge_raises id).mono (by decide))
  tally u c r m d h := h.trans (.of_eq rfl)
  contexts u x _ h := h.trans (.of_eq rfl)
  det u x _ h := h.trans (.of_eq rfl)
  ends u n h := h.trans (.of_eq rfl)
  edge u x _ _ h := h.trans (.of_eq rfl)
  handed u l h := h.trans (.of_eq rfl)
  store u h := h.trans (.of_eq rfl)
  link u h := h.trans (.of_frame (u.linkStops_frame k) (by decide))
  clear _ u h := h.trans (.of_eq rfl)
  mark u h := h.trans (.of_frame (u.markStops_frame k) (by decide))
  corr u h := h.trans (.of_eq rfl)
  cap u h := h.trans ((u.capStops_raises k).mono (by decide))
  agg u h := h.trans (u.aggTakesStop_raises.mono (by decide))
  tracker u h := h.trans (.of_frame u.trackerTakes_frame (by decide))
  report u h := h.trans (.of_frame u.trackerTakesReport_frame (by decide))
  correlation u h := h.trans (.of_frame u.correlationTakes_frame (by decide))
  aggregator u h := h.trans (.of_frame u.aggregatorTakes_frame (by decide))
  free u n h := h.trans (.of_eq rfl)

theorem State.halfCycleEnd_ctl (s : State) : s.halfCycleEnd.ctl = s.ctl :=
  s.halfCycleEnd_frame.only.1 .ctl (by decide)

theorem State.eventsOf_raises (s : State) (checks : CloseChecks) (u : State) :
    Raises [2, 3, 8] u (s.eventsOf checks u) := by
  have locked := u.handLockedCycle_frame (u.ctl.state == .run) s.closedCycle
  have ended : Raises [2, 3, 8] u
      (u.handLockedCycle (u.ctl.state == .run) s.closedCycle).halfCycleEnd :=
    .of_eq ((State.halfCycleEnd_ctl _).trans (locked.only.1 .ctl (by decide)))
  exact .ite (.ite (ended.trans (State.fillCopy_raises _ _ _)) ended) (.of_frame locked (by decide))

/-- A position close raises what its measurement does, the causes of the capture unit, the store and
the aggregator, and HALT. -/
theorem exec_positionClose_raises {checks : CloseChecks} {s s' : State}
    (h : exec (.positionClose checks) s = .next s') : Raises [2, 3, 7, 8, 9, 10] s.measured s' := by
  have events (u : State) : Raises [2, 3, 8, 9, 10] u (s.eventsOf checks u) :=
    (s.eventsOf_raises checks u).mono (by decide)
  rw [exec_positionClose] at h
  obtain rfl := Host.Outcome.next.inj h
  refine .ite ?_ ((events _).mono (by decide))
  have stopped := (Raises.calmStop s.measured .halt).takeStop s.order checks.failed
    (act := s.eventsOf checks) (fun u hu => hu.trans (events u)) (.refl _ _)
  exact (stopped.mono (by decide)).trans ((State.raise_raises _ .halt 0 (by decide)).trans fun _ _ => rfl)

end Sys2Proof.Machine
end

section
/-! The position that closes (R6 to R8, R17 to R27): the overruns and the refresh it emits. -/

namespace Sys2Proof.Machine

/-- The lowest channel that overran heads the list of them (R7). -/
theorem FrontEnd.overruns_cons {c : FrontEnd} {k : Fin 8} (hk : c.ch[k].taken = false)
    (lower : ∀ j : Fin 8, j < k → c.ch[j].taken = true) : ∃ l, c.overruns = k :: l := by
  have mem (j : Fin 8) : j ∈ c.overruns ↔ c.ch[j].taken = false := by simp [FrontEnd.overruns]
  have sorted : c.overruns.Pairwise (· < ·) := (List.pairwise_lt_finRange 8).filter _
  cases h : c.overruns with
  | nil => exact absurd (h ▸ (mem k).2 hk) (List.not_mem_nil)
  | cons j l =>
    rw [h] at sorted mem
    have hj := (mem j).1 List.mem_cons_self
    have le : ¬ j < k := fun lt => Bool.false_ne_true (hj.symm.trans (lower j lt))
    rcases List.mem_cons.1 ((mem k).2 hk) with e | later
    · exact ⟨l, by rw [e]⟩
    · exact absurd ((List.pairwise_cons.1 sorted).1 k later) le

theorem FrontEnd.overruns_nil {c : FrontEnd} (h : ∀ k : Fin 8, c.ch[k].taken = true) :
    c.overruns = [] := by
  simpa [FrontEnd.overruns, List.filter_eq_nil_iff] using h

theorem FrontEnd.holdRunning_iff (c : FrontEnd) :
    c.holdRunning = true ↔ ∃ j : Fin 8, 0 < c.ch[j].hold := by
  simp [FrontEnd.holdRunning]

/-- The causes OVERRUN and DOUBLE_OVERRUN where a channel overran, the lowest one being `k`. -/
theorem State.raiseOverruns_causes {s : State} {k : Fin 8} {l : List (Fin 8)}
    (h : s.cfe.overruns = k :: l) :
    s.raiseOverruns.ctl.causes[(0 : Fin 13)] = ⟨true, k.val, false⟩ ∧
    s.raiseOverruns.ctl.causes[(1 : Fin 13)] =
      if s.cfe.holdRunning then ⟨true, k.val, false⟩ else s.ctl.causes[(1 : Fin 13)] := by
  unfold State.raiseOverruns
  rw [h]
  dsimp only
  cases s.cfe.holdRunning with
  | true =>
    rw [if_pos rfl, if_pos rfl]
    exact ⟨State.raise_causes _ .overrun _ 0, (State.raise_causes _ .overrun _ 1).trans
      (State.raise_causes s .doubleOverrun _ 1)⟩
  | false =>
    rw [if_neg Bool.false_ne_true, if_neg Bool.false_ne_true]
    exact ⟨State.raise_causes s .overrun _ 0, State.raise_causes s .overrun _ 1⟩

/-- The measurement of a position raises FREE_RUN alone. -/
theorem State.measurePosition_raises (s : State) : Raises [12] s s.measurePosition :=
  .ite ((State.raise_raises _ .freeRun 0 (by decide)).after rfl) (.of_eq rfl)

/-- The causes 0 and 1 after a position close are those of its overruns. -/
theorem exec_positionClose_overruns {checks : CloseChecks} {s s' : State}
    (h : exec (.positionClose checks) s = .next s') {b : Fin 13} (hb : b = 0 ∨ b = 1) :
    s'.ctl.causes[b] = (s.elapse s.closeMoment).raiseOverruns.ctl.causes[b] := by
  have measured := State.measurePosition_raises (s.elapse s.closeMoment).raiseOverruns
  rcases hb with rfl | rfl
  · exact (exec_positionClose_raises h 0 (by decide)).trans (measured 0 (by decide))
  · exact (exec_positionClose_raises h 1 (by decide)).trans (measured 1 (by decide))

/-- Settles O21: a close loads and counts the holds, and its overruns name the lowest channel. -/
theorem overrunIsRaisedAndHeld : Obligations.OverrunIsRaisedAndHeld := by
  unfold Obligations.OverrunIsRaisedAndHeld
  intro checks s
  obtain ⟨s', next, -, cfe, -⟩ := exec_positionClose_frontEnd checks s
  have channel (k : Fin 8) : s'.cfe.ch[k] =
      { s.cfe.ch[k].closed with clip := !endsSegment s.cfe.pos && s.cfe.ch[k].clip } := by
    rw [cfe]
    exact s.cfe.after_ch s.ctl.straps _ k
  have cause (b : Fin 13) (hb : b = 0 ∨ b = 1) := exec_positionClose_overruns next hb
  have closed (k : Fin 8) : s'.cfe.ch[k].hold = (s.cfe.ch[k].closed).hold ∧
      s'.cfe.ch[k].late = (s.cfe.ch[k].closed).late ∧ s'.cfe.ch[k].taken = false := by
    rw [channel k]
    exact ⟨rfl, rfl, rfl⟩
  have missed {k : Fin 8} (hk : s.cfe.ch[k].taken = false) (x y : Nat) :
      (if s.cfe.ch[k].taken then x else y) = y := if_neg (hk ▸ Bool.false_ne_true)
  refine ⟨s', next, fun k hk => ?_, fun k hk => ?_, fun k => (closed k).2.2, fun k hk lower => ?_,
    fun all => ?_⟩
  · obtain ⟨hold, late, -⟩ := closed k
    exact ⟨hold.trans (missed hk _ _), late.trans (missed hk _ _)⟩
  · obtain ⟨hold, late, -⟩ := closed k
    exact ⟨hold.trans (if_pos hk), late.trans (if_pos hk)⟩
  · obtain ⟨l, overran⟩ := FrontEnd.overruns_cons hk lower
    obtain ⟨single, double⟩ := State.raiseOverruns_causes (s := s.elapse s.closeMoment) overran
    refine ⟨(cause 0 (.inl rfl)).trans single, (cause 1 (.inr rfl)).trans (double.trans ?_)⟩
    simp only [← FrontEnd.holdRunning_iff]
    rfl
  · have none : (s.elapse s.closeMoment).raiseOverruns = s.elapse s.closeMoment := by
      unfold State.raiseOverruns
      rw [State.elapse_cfe, FrontEnd.overruns_nil all]
    rw [none] at cause
    exact ⟨cause 0 (.inl rfl), cause 1 (.inr rfl)⟩

end Sys2Proof.Machine
end

section
/-! The refreshes handed to the four readers (R27): a half-cycle end hands one on, and within a halt
each reader may take one (R29; log entry 3). -/

namespace Sys2Proof.Machine

/-- The refreshes handed to the readers that they have not yet taken. -/
structure Queues where
  ref : List Refresh
  det : List Refresh
  corr : List Refresh
  agg : List Refresh

def State.queues (s : State) : Queues := ⟨s.ref.handed, s.det.handed, s.corr.handed, s.agg.handed⟩

/-- The queue is as it was, or its oldest refresh has been taken. -/
def Stays (old new : List Refresh) : Prop := new = old ∨ new = old.tail

/-- Each reader has taken at most one refresh. -/
structure Queues.Stay (p q : Queues) : Prop where
  ref : Stays p.ref q.ref
  det : Stays p.det q.det
  corr : Stays p.corr q.corr
  agg : Stays p.agg q.agg

/-- The same refresh handed to all four. -/
def Queues.push (p : Queues) (e : Refresh) : Queues :=
  ⟨p.ref ++ [e], p.det ++ [e], p.corr ++ [e], p.agg ++ [e]⟩

/-- An operation of none of the readers. -/
theorem queues_of_frame {bs : List Block} {s u : State} (h : Frame bs s u) (ref : Block.ref ∉ bs)
    (det : Block.det ∉ bs) (corr : Block.corr ∉ bs) (agg : Block.agg ∉ bs) : u.queues = s.queues := by
  unfold State.queues
  rw [show u.ref = s.ref from h.only.1 .ref ref, show u.det = s.det from h.only.1 .det det,
    show u.corr = s.corr from h.only.1 .corr corr, show u.agg = s.agg from h.only.1 .agg agg]

/-- What the detector's work and the blocks at a stop keep of the queues. -/
theorem queues_calm (x : Queues) : Calm fun u => u.queues = x where
  capture u id a failed h :=
    (queues_of_frame (u.captureRequest_frame id a failed) (by decide) (by decide) (by decide) (by decide)).trans h
  add u r x _ h :=
    (queues_of_frame (u.addRecord_frame r x) (by decide) (by decide) (by decide) (by decide)).trans h
  edit u id f _ h := h
  judge u id h :=
    (queues_of_frame (u.judge_frame id) (by decide) (by decide) (by decide) (by decide)).trans h
  tally u c r m d h := h
  contexts u x _ h := h
  det u x same h := by
    rw [← h]
    exact congrArg (fun l => (⟨u.ref.handed, l, u.corr.handed, u.agg.handed⟩ : Queues)) same
  ends u n h := h
  edge u x _ _ h := h

theorem queues_calmBlocks (x : Queues) (k : Stop) : CalmBlocks (fun u => u.queues = x) k where
  toCalm := queues_calm x
  store u h := h
  link u h := by
    match k with
    | .halt => exact (queues_calm x).reportQueue h
    | .restart _ _ => exact ite_keeps (P := fun v => State.queues v = x) ((queues_calm x).reportQueue h) ((queues_calm x).reportQueue h)
  clear _ u h := h
  mark u h :=
    (queues_of_frame (u.markStops_frame k) (by decide) (by decide) (by decide) (by decide)).trans h
  corr u h := h
  cap u h := (queues_of_frame (u.capStops_frame k) (by decide) (by decide) (by decide) (by decide)).trans h
  agg u h := by
    rw [← h]
    unfold State.aggTakesStop
    split <;> rfl

theorem State.stopBlocks_queues (s : State) (k : Stop) (p : StopPhase) (detectorFirst : Bool) :
    (s.stopBlocks k p detectorFirst).queues = s.queues :=
  (queues_calmBlocks s.queues k).stopBlocks p detectorFirst rfl

/-! Each reader takes a refresh off its own queue. -/

theorem State.trackerTakes_queues (s : State) :
    s.trackerTakes.queues = { s.queues with ref := s.ref.handed.tail } := by
  unfold State.trackerTakes State.queues
  split
  · next h => simp [h]
  · next h => simp [h]

theorem State.trackerTakesReport_queues (s : State) : s.trackerTakesReport.queues = s.queues :=
  ite_keeps (P := fun u => State.queues u = s.queues) rfl rfl

theorem State.aggregatorTakes_queues (s : State) :
    s.aggregatorTakes.queues = { s.queues with agg := s.agg.handed.tail } := by
  unfold State.aggregatorTakes State.queues
  split
  · next h => simp [h]
  · next h => simp [h]

theorem State.detectorTakes_queues (s : State) (failed : Option (Fin 9)) {between : State → State}
    (hb : ∀ u x, u.queues = x → (between u).queues = x) :
    (s.detectorTakes failed between).queues = { s.queues with det := s.det.handed.tail } := by
  unfold State.detectorTakes
  split
  · next h => simp [State.queues, h]
  · next e rest h =>
    have taken : (s.withDet { s.det with handed := rest }).queues =
        { s.queues with det := s.det.handed.tail } := by simp [State.queues, h]
    exact ite_keeps (P := fun u => State.queues u = _)
      ((queues_calm _).judgeRefresh e failed (fun u hu => hb u _ hu) taken) taken

theorem State.handVerdict_queues (s : State) (v : QueuedVerdict) : (s.handVerdict v).queues = s.queues := by
  have dropped := (queues_calm s.queues).dropReport v.edge v.recordId rfl
  unfold State.handVerdict
  split
  · exact dropped
  split
  · rfl
  split
  · rfl
  · exact dropped

theorem State.judgeContext_queues (s : State) (e : Refresh) (k : Fin 4) :
    (s.judgeContext e k).queues = s.queues := by
  unfold State.judgeContext
  split
  · rfl
  · dsimp only
    split
    · exact State.handVerdict_queues _ _
    · exact State.handVerdict_queues _ _

theorem State.correlationTakes_queues (s : State) :
    s.correlationTakes.queues = { s.queues with corr := s.corr.handed.tail } := by
  unfold State.correlationTakes
  split
  · next h => simp [State.queues, h]
  · next e rest h =>
    have taken : (s.withCorr { s.corr with handed := rest }).queues =
        { s.queues with corr := s.corr.handed.tail } := by simp [State.queues, h]
    exact foldl_keeps (P := fun u => State.queues u = _)
      (fun u k hu => (u.judgeContext_queues e k).trans hu) _ taken

/-- A reader that may take, by the free value. -/
theorem State.when_queues (s : State) (c : Bool) {f : State → State} {set : List Refresh → Queues}
    {l : List Refresh} (none : set l = s.queues) (taken : (f s).queues = set l.tail) :
    ∃ m, Stays l m ∧ (s.when c f).queues = set m := by
  cases c
  · exact ⟨l, .inl rfl, none.symm⟩
  · exact ⟨l.tail, .inr rfl, taken⟩

theorem State.readersTake_queues (s : State) (k : Stop) (o : StopOrder) (failed : Option (Fin 9)) :
    s.queues.Stay (s.readersTake k o failed).queues := by
  have within (x : Queues) (v : State) (hv : v.queues = x) :
      (v.when (o.corrWithin && !o.corrEarly) fun y => y.corrStops k).queues = x :=
    State.when_keeps (P := fun w => State.queues w = x) v _ _ hv ((queues_calmBlocks x k).corrStops hv)
  have det (u : State) : ∃ l, Stays u.queues.det l ∧
      (u.when (o.detTakes && !o.detEarly) fun x => x.detectorTakes failed fun st =>
        st.when (o.corrWithin && !o.corrEarly) fun y => y.corrStops k).queues =
        { u.queues with det := l } :=
    u.when_queues _ (set := fun l => { u.queues with det := l }) rfl
      (u.detectorTakes_queues failed fun v x => within x v)
  have corr (u : State) : ∃ l, Stays u.queues.corr l ∧
      (u.when (o.corrTakes && !o.corrEarly && u.corr.view == .run) State.correlationTakes).queues =
        { u.queues with corr := l } :=
    u.when_queues _ (set := fun l => { u.queues with corr := l }) rfl u.correlationTakes_queues
  have agg (u : State) : ∃ l, Stays u.queues.agg l ∧
      (u.when (o.aggTakes && !o.aggEarly) State.aggregatorTakes).queues = { u.queues with agg := l } :=
    u.when_queues _ (set := fun l => { u.queues with agg := l }) rfl u.aggregatorTakes_queues
  have report (u : State) : (u.when o.reportTakes State.trackerTakesReport).queues = u.queues :=
    State.when_keeps (P := fun w => State.queues w = u.queues) u _ _ rfl u.trackerTakesReport_queues
  obtain ⟨a, ha, tracked⟩ : ∃ l, Stays s.queues.ref l ∧
      (s.when o.trackerTakes State.trackerTakes).queues = { s.queues with ref := l } :=
    s.when_queues _ (set := fun l => { s.queues with ref := l }) rfl s.trackerTakes_queues
  unfold State.readersTake
  dsimp only
  cases o.corrBeforeDet with
  | true =>
    obtain ⟨c, hc, judged⟩ := corr (s.when o.trackerTakes State.trackerTakes)
    rw [if_pos rfl]
    obtain ⟨d, hd, measured⟩ := det ((s.when o.trackerTakes State.trackerTakes).when
      (o.corrTakes && !o.corrEarly && (s.when o.trackerTakes State.trackerTakes).corr.view == .run)
      State.correlationTakes)
    obtain ⟨g, hg, last⟩ := agg (State.when _ o.reportTakes State.trackerTakesReport)
    rw [last, report, measured, judged, tracked]
    rw [report, measured, judged, tracked] at hg
    rw [judged, tracked] at hd
    rw [tracked] at hc
    exact ⟨ha, hd, hc, hg⟩
  | false =>
    rw [if_neg Bool.false_ne_true]
    obtain ⟨d, hd, measured⟩ := det (s.when o.trackerTakes State.trackerTakes)
    obtain ⟨c, hc, judged⟩ := corr ((s.when o.trackerTakes State.trackerTakes).when
      (o.detTakes && !o.detEarly) fun x => x.detectorTakes failed fun st =>
        st.when (o.corrWithin && !o.corrEarly) fun y => y.corrStops k)
    obtain ⟨g, hg, last⟩ := agg (State.when _ o.reportTakes State.trackerTakesReport)
    rw [last, report, judged, measured, tracked]
    rw [report, judged, measured, tracked] at hg
    rw [measured, tracked] at hc
    rw [tracked] at hd
    exact ⟨ha, hd, hc, hg⟩

end Sys2Proof.Machine
end

section
/-! The refresh that a position close emits (R20 to R27). -/

namespace Sys2Proof.Machine

variable (s : State) (checks : CloseChecks)

theorem State.halts_iff : s.halts = true ↔ s.haltsNext := by
  unfold State.halts State.doubleOverrun State.haltsNext
  rw [Bool.and_eq_true, Bool.and_eq_true, beq_iff_eq, FrontEnd.holdRunning_iff]
  have overran : (!s.cfe.overruns.isEmpty) = true ↔ ∃ k : Fin 8, s.cfe.ch[k].taken = false := by
    simp [FrontEnd.overruns]
  rw [overran]
  exact ⟨fun ⟨⟨a, b⟩, c⟩ => ⟨c, a, b⟩, fun ⟨c, a, b⟩ => ⟨⟨a, b⟩, c⟩⟩

/-- The refresh that is emitted in the state `u`. -/
def State.emitted (u : State) : Refresh :=
  u.rms.build (Vector.ofFn u.cfe.clipOf) u.cfe.freeRunSeen u.now u.det.mode.state

theorem State.halfCycleEnd_queues (u : State) : u.halfCycleEnd.queues =
    if u.rms.fill < 128 then u.queues else u.queues.push u.emitted := by
  unfold State.halfCycleEnd
  dsimp only
  split <;> rfl

theorem State.eventsOf_queues (u : State) : (s.eventsOf checks u).queues =
    if endsSegment s.cfe.pos = true ∧ ¬ u.rms.fill < 128 then u.queues.push u.emitted else u.queues := by
  have locked := u.handLockedCycle_frame (u.ctl.state == .run) s.closedCycle
  have same : (u.handLockedCycle (u.ctl.state == .run) s.closedCycle).queues = u.queues := by
    unfold State.handLockedCycle State.takeLockedCycle
    split
    · rfl
    · split <;> rfl
  have emitted : (u.handLockedCycle (u.ctl.state == .run) s.closedCycle).emitted = u.emitted := by
    unfold State.emitted State.now
    rw [locked.steady.time, show (u.handLockedCycle (u.ctl.state == .run) s.closedCycle).rms = u.rms from
      locked.only.1 .rms (by decide), show (u.handLockedCycle (u.ctl.state == .run) s.closedCycle).cfe =
      u.cfe from locked.only.1 .cfe (by decide), show (u.handLockedCycle (u.ctl.state == .run)
      s.closedCycle).det = u.det from locked.only.1 .det (by decide)]
  have ended : (u.handLockedCycle (u.ctl.state == .run) s.closedCycle).halfCycleEnd.queues =
      if u.rms.fill < 128 then u.queues else u.queues.push u.emitted := by
    rw [State.halfCycleEnd_queues, same, emitted, show (u.handLockedCycle (u.ctl.state == .run)
      s.closedCycle).rms = u.rms from locked.only.1 .rms (by decide)]
  have filled (v : State) (m : RefIndex) (fails : Bool) : (v.fillCopy m fails).queues = v.queues :=
    queues_of_frame (v.fillCopy_frame m fails) (by decide) (by decide) (by decide) (by decide)
  unfold State.eventsOf State.closeEvents
  dsimp only
  cases endsSegment s.cfe.pos with
  | false => rw [if_neg Bool.false_ne_true, if_neg fun h => Bool.false_ne_true h.1, same]
  | true =>
    simp only [if_true, true_and, ite_not]
    rw [← ended]
    split
    · exact filled _ _ _
    · rfl

/-- After the events of a close each reader has what it was handed, but where the close halts. -/
theorem State.afterEvents_queues (u : State) :
    (s.afterEvents checks u).queues = u.queues ∨
    s.halts = true ∧ u.queues.Stay (s.afterEvents checks u).queues := by
  unfold State.afterEvents
  cases s.halts with
  | false => exact .inl rfl
  | true =>
    right
    refine ⟨rfl, ?_⟩
    have last (v : State) := v.stopBlocks_queues .halt (earlyPhase s.order).others s.order.detectorFirst
    have read : u.queues.Stay
        (u.when (s.measured.ctl.state == .run) fun st => st.readersTake .halt s.order checks.failed).queues := by
      cases s.measured.ctl.state == .run
      · exact ⟨.inl rfl, .inl rfl, .inl rfl, .inl rfl⟩
      · exact u.readersTake_queues _ _ _
    exact (congrArg (Queues.Stay u.queues) (last _)).mpr read

/-! The flags of the half-cycle. -/

theorem State.formD_clip (k : Fin 3) :
    (s.cfe.formD s.ctl.straps.wiring k).clip = true ↔ s.clipSeen k := by
  unfold State.clipSeen FrontEnd.formD
  cases s.ctl.straps.wiring with
  | star => simp [deltaPair]
  | delta =>
    have clamp (x : Int) : (clampSample x != x) = true ↔ 32767 < x.natAbs := by
      rw [clampSample_ne]
      omega
    simp only [Bool.or_eq_true, clamp, deltaPair, true_and]
    constructor
    · rintro (((h | h) | h) | h)
      exacts [.inl h, .inr (.inr (.inr h)), .inr (.inl h), .inr (.inr (.inl h))]
    · rintro (h | h | h | h)
      exacts [.inl (.inl (.inl h)), .inl (.inr h), .inr h, .inl (.inl (.inr h))]

/-- The front end that a close leaves before its flags are handed on. -/
theorem FrontEnd.closePosition_clipOf (c : FrontEnd) (straps : Straps) :
    (∀ k : Fin 8, (Vector.ofFn (c.closePosition straps).clipOf)[k.val] = c.ch[k].clip) ∧
    ∀ k : Fin 3, (Vector.ofFn (c.closePosition straps).clipOf)[dIndex k] =
      (c.formD straps.wiring k).clip := by
  refine ⟨fun k => ?_, fun k => ?_⟩
  · simp [FrontEnd.clipOf, FrontEnd.closePosition, FrontEnd.settle, FrontEnd.writeRings, Channel.closed]
  · simp [FrontEnd.clipOf, FrontEnd.closePosition, FrontEnd.settle, FrontEnd.writeRings, dIndex]

theorem State.closed_freeRun {s' : State} (h : s'.cfe.trk = (s.cfe.closePosition s.ctl.straps).trk) :
    (s.cfe.closePosition s.ctl.straps).freeRunSeen = true ↔ freeRunSeen s s' := by
  unfold freeRunSeen
  rw [h]
  simp [FrontEnd.closePosition, or_assoc]

theorem endsSegment_iff (p : Fin 640) : endsSegment p = true ↔ p.val % 64 = 63 := beq_iff_eq

/-- The refresh of a close, or none: what each reader has been handed after it. -/
theorem exec_positionClose_queues : ∃ s', exec (.positionClose checks) s = .next s' ∧
    let q := if s.emitsNext then s.queues.push s.beforeEvents.emitted else s.queues
    s'.queues = q ∨ s.haltsNext ∧ q.Stay s'.queues := by
  refine ⟨_, exec_positionClose_events checks s, ?_⟩
  have before : s.beforeEvents.queues = s.queues := by
    have measured : s.measured.queues = s.queues :=
      queues_of_frame (s := s.elapse s.closeMoment) s.measured_frame (by decide) (by decide) (by decide) (by decide)
    unfold State.beforeEvents
    split
    · rw [State.stopBlocks_queues, measured]
    · exact measured
  have fill : s.beforeEvents.rms.fill = min (s.rms.fill + 1) 128 := by
    rw [show s.beforeEvents.rms = s.measured.rms from s.beforeEvents_frame.only.1 .rms (by decide),
      State.measured_rms]
    rfl
  have emits : (endsSegment s.cfe.pos = true ∧ ¬ s.beforeEvents.rms.fill < 128) ↔ s.emitsNext := by
    rw [endsSegment_iff, fill]
    exact and_congr_right fun _ => by omega
  have events : (s.eventsOf checks s.beforeEvents).queues =
      if s.emitsNext then s.queues.push s.beforeEvents.emitted else s.queues := by
    rw [State.eventsOf_queues, before]
    simp only [emits]
  rw [← events, ← State.halts_iff]
  exact s.afterEvents_queues checks _

/-! The RMS engine at the end of a close. -/

section
variable (r : RmsEngine) (c : FrontEnd) (stamp : Ms) (det : DetState)

theorem RmsEngine.ended_flags : (r.ended c true stamp det).prevClip = Vector.ofFn c.clipOf ∧
    (r.ended c true stamp det).prevFreeRun = c.freeRunSeen := by
  unfold RmsEngine.ended
  rw [if_pos rfl]
  split <;> exact ⟨rfl, rfl⟩

theorem RmsEngine.ended_sums (ends : Bool) : (r.ended c ends stamp det).sums = r.sums ∧
    (r.ended c ends stamp det).fill = r.fill := by
  unfold RmsEngine.ended
  split
  · split <;> exact ⟨rfl, rfl⟩
  · exact ⟨rfl, rfl⟩

theorem RmsEngine.ended_history {ends : Bool} (h : ¬ (ends = true ∧ 128 ≤ r.fill)) :
    (r.ended c ends stamp det).history = r.history ∧
    (r.ended c ends stamp det).nextIndex = r.nextIndex := by
  unfold RmsEngine.ended
  split
  · next he =>
    rw [if_pos (Nat.lt_of_not_ge fun full => h ⟨he, full⟩)]
    exact ⟨rfl, rfl⟩
  · exact ⟨rfl, rfl⟩

theorem RmsEngine.ended_emits (full : 128 ≤ r.fill) : r.ended c true stamp det =
    r.emit (r.build (Vector.ofFn c.clipOf) c.freeRunSeen stamp det) (Vector.ofFn c.clipOf)
      c.freeRunSeen := by
  unfold RmsEngine.ended
  rw [if_pos rfl, if_neg (Nat.not_lt.2 full)]

end

/-- The refresh that a close emits is built from its own samples and flags. -/
theorem State.beforeEvents_emitted {now : Ms} (h : s.beforeEvents.now = now) :
    s.beforeEvents.emitted = (s.rms.takePosition (s.cfe.settle s.ctl.straps.wiring)).build
      (Vector.ofFn (s.cfe.closePosition s.ctl.straps).clipOf)
      (s.cfe.closePosition s.ctl.straps).freeRunSeen now s.beforeEvents.det.mode.state := by
  unfold State.emitted
  rw [h, show s.beforeEvents.rms = s.measured.rms from s.beforeEvents_frame.only.1 .rms (by decide),
    show s.beforeEvents.cfe = s.measured.cfe from s.beforeEvents_frame.only.1 .cfe (by decide),
    State.measured_rms, State.measured_cfe]

/-- Settles O22: the flags are handed on at a half-cycle end, and the refresh that is built from them
and from the sums heads the history and each reader's queue. -/
theorem halfCycleEndEmitsARefresh : Obligations.HalfCycleEndEmitsARefresh := by
  unfold Obligations.HalfCycleEndEmitsARefresh
  intro checks s
  obtain ⟨s', next, time, cfe, rms⟩ := exec_positionClose_frontEnd checks s
  obtain ⟨_, next', queues⟩ := exec_positionClose_queues s checks
  obtain rfl := Host.Outcome.next.inj (next.symm.trans next')
  have trk : s'.cfe.trk = (s.cfe.closePosition s.ctl.straps).trk := by
    rw [cfe]
    exact s.cfe.after_trk s.ctl.straps _
  have ch (k : Fin 8) : s'.cfe.ch[k].clip = (!endsSegment s.cfe.pos && s.cfe.ch[k].clip) := by
    rw [cfe]
    exact congrArg Channel.clip (s.cfe.after_ch s.ctl.straps _ k)
  have dq (k : Fin 3) : s'.cfe.dq[k].clip =
      (!endsSegment s.cfe.pos && (s.cfe.formD s.ctl.straps.wiring k).clip) := by
    rw [cfe]
    exact congrArg DetQuantity.clip (s.cfe.after_dq s.ctl.straps _ k)
  have freeRun := s.closed_freeRun trk
  obtain ⟨clips, dclips⟩ := s.cfe.closePosition_clipOf s.ctl.straps
  have filled : (s.rms.takePosition (s.cfe.settle s.ctl.straps.wiring)).fill = min (s.rms.fill + 1) 128 := rfl
  obtain ⟨sums, fill⟩ := (s.rms.takePosition (s.cfe.settle s.ctl.straps.wiring)).ended_sums
    (s.cfe.closePosition s.ctl.straps) s'.now s.beforeEvents.det.mode.state (endsSegment s.cfe.pos)
  rw [← rms] at sums fill
  refine ⟨s', next, fun ends => ?_, fun ends => ?_, fill, fun quiet => ?_, fun emits => ?_⟩
  · rw [(endsSegment_iff _).2 ends] at ch dq cfe rms
    obtain ⟨prevClip, prevFreeRun⟩ := (s.rms.takePosition (s.cfe.settle s.ctl.straps.wiring)).ended_flags
      (s.cfe.closePosition s.ctl.straps) s'.now s.beforeEvents.det.mode.state
    rw [← rms] at prevClip prevFreeRun
    rw [prevClip, prevFreeRun]
    refine ⟨fun k => ⟨ch k, clips k⟩, fun k => ⟨dq k, ?_⟩, by rw [cfe]; rfl, freeRun⟩
    rw [dclips k]
    exact s.formD_clip k
  · have quiet : endsSegment s.cfe.pos = false := Bool.eq_false_iff.2 fun h => ends ((endsSegment_iff _).1 h)
    rw [quiet] at ch dq cfe rms
    refine ⟨ch, fun k => ?_, by rw [cfe]; exact freeRun, by rw [rms]; rfl, by rw [rms]; rfl⟩
    rw [dq k]
    exact s.formD_clip k
  · have idle : ¬ (endsSegment s.cfe.pos = true ∧
        128 ≤ (s.rms.takePosition (s.cfe.settle s.ctl.straps.wiring)).fill) := fun ⟨ends, full⟩ =>
      quiet ⟨(endsSegment_iff _).1 ends, by rw [filled] at full; omega⟩
    obtain ⟨history, index⟩ := RmsEngine.ended_history _ (s.cfe.closePosition s.ctl.straps) s'.now
      s.beforeEvents.det.mode.state idle
    rw [← rms] at history index
    rw [if_neg quiet] at queues
    refine ⟨history, index, ?_⟩
    rcases queues with same | ⟨halts, stay⟩
    · exact ⟨.inl (congrArg Queues.ref same), .inl (congrArg Queues.det same),
        .inl (congrArg Queues.corr same), .inl (congrArg Queues.agg same)⟩
    · exact ⟨stay.ref.imp_right (.intro halts), stay.det.imp_right (.intro halts),
        stay.corr.imp_right (.intro halts), stay.agg.imp_right (.intro halts)⟩
  · have full : 128 ≤ (s.rms.takePosition (s.cfe.settle s.ctl.straps.wiring)).fill := by
      have := emits.2
      rw [filled]
      omega
    have emitted := s.beforeEvents_emitted (now := s'.now) (by
      simp only [State.now, time, s.beforeEvents_frame.steady.time, s.measured_frame.steady.time])
    rw [(endsSegment_iff _).2 emits.1, RmsEngine.ended_emits _ _ _ _ full, ← emitted] at rms
    rw [if_pos emits] at queues
    refine ⟨s.beforeEvents.emitted, by rw [rms]; rfl, by rw [emitted]; rfl, by rw [rms]; rfl,
      by rw [emitted]; rfl, fun q => ?_, fun q => ?_, by rw [emitted, rms]; rfl, ?_, ?_⟩
    · have value : s.beforeEvents.emitted.value[q] = isqrt (s'.rms.sums[q] / 128) := by
        rw [emitted, sums]
        simp [RmsEngine.build]
      rw [value]
      exact isqrt_spec _
    · have clip : s.beforeEvents.emitted.clip[q] =
          ((Vector.ofFn (s.cfe.closePosition s.ctl.straps).clipOf)[q] || s.rms.prevClip[q]) := by
        rw [emitted]
        simp [RmsEngine.build, RmsEngine.takePosition]
      rw [clip, rms]
      rfl
    · rw [emitted]
      rcases s.beforeEvents_det with same | ⟨halts, watch⟩
      · exact .inl (by rw [same]; rfl)
      · exact .inr ⟨s.halts_iff.1 halts, by rw [watch]; rfl⟩
    · rcases queues with same | ⟨halts, stay⟩
      · exact ⟨.inl (congrArg Queues.ref same), .inl (congrArg Queues.det same),
          .inl (congrArg Queues.corr same), .inl (congrArg Queues.agg same)⟩
      · exact ⟨stay.ref.imp_right (.intro halts), stay.det.imp_right (.intro halts),
          stay.corr.imp_right (.intro halts), stay.agg.imp_right (.intro halts)⟩

end Sys2Proof.Machine
end

section
/-! The cycles of the frequency tracker (R9 to R13). -/

namespace Sys2Proof.Machine

namespace FreqTracker

variable (k : FreqTracker) (f : Freq) (sa sb : Int)

theorem isCrossing_iff : k.isCrossing sa sb = true ↔ k.armed = true ∧ sa < 0 ∧ 0 ≤ sb := by
  simp [isCrossing, and_assoc]

/-- A cycle of `p` ticks judged by its frequency and its peak (R10). -/
theorem cycleValid_iff (p peak : Nat) : cycleValid f p peak = true ↔
    (match f with
      | .hz50 => 45000 ≤ 10000000000 / p ∧ 10000000000 / p ≤ 55000
      | .hz60 => 54000 ≤ 10000000000 / p ∧ 10000000000 / p ≤ 66000) ∧ 500 ≤ peak := by
  rw [cycleValid, Bool.and_eq_true, decide_eq_true_iff, decide_eq_true_iff]
  cases f <;> exact Iff.rfl

/-- The tracker at a crossing: the cycle in progress is judged, and the next one begins (R9, R10). -/
theorem takeSample_crossing (h : k.isCrossing sa sb = true) : k.takeSample f sa sb =
    { (match k.start with
        | none => k
        | some t0 =>
          if cycleValid f (crossingTime k.prevInstant k.instant sa sb - t0) (max k.peak sb.natAbs) then
            k.endValid (crossingTime k.prevInstant k.instant sa sb - t0)
          else k.endInvalid f) with
      armed := false, start := some (crossingTime k.prevInstant k.instant sa sb), peak := 0 } :=
  if_pos h

theorem takeSample_quiet (h : ¬ k.isCrossing sa sb = true) : k.takeSample f sa sb =
    { k with armed := k.armed || decide (sb ≤ -50), peak := max k.peak sb.natAbs } :=
  if_neg h

theorem endValid_locked (p : Nat) :
    (k.endValid p).state = .locked ↔ k.state = .locked ∨ 4 ≤ k.validCount := by
  unfold endValid
  dsimp only
  split
  · next full => exact ⟨fun _ => .inr (by omega), fun _ => rfl⟩
  · next short => exact ⟨.inl, fun h => h.resolve_right (by omega)⟩

/-- Only a valid cycle that a crossing ends while the tracker is LOCKED is handed on (R13). -/
theorem lockedCycle_none (h : ¬ (k.isCrossing sa sb = true ∧ k.state = .locked ∧
    ∃ t0, k.start = some t0 ∧
      cycleValid f (crossingTime k.prevInstant k.instant sa sb - t0) (max k.peak sb.natAbs) = true)) :
    k.lockedCycle f sa sb = none := by
  unfold lockedCycle
  split
  · next hc =>
    rw [Bool.and_eq_true, beq_iff_eq] at hc
    split
    · rfl
    · next t0 ht => exact if_neg fun valid => h ⟨hc.1, hc.2, t0, ht, valid⟩
  · rfl

theorem lockedCycle_some {t0 : Nat} (crossing : k.isCrossing sa sb = true) (locked : k.state = .locked)
    (start : k.start = some t0)
    (valid : cycleValid f (crossingTime k.prevInstant k.instant sa sb - t0) (max k.peak sb.natAbs) = true) :
    k.lockedCycle f sa sb = some (frequencyOf (crossingTime k.prevInstant k.instant sa sb - t0)) := by
  unfold lockedCycle
  rw [if_pos (by rw [crossing, locked]; rfl), start]
  exact if_pos valid

end FreqTracker

theorem FrontEnd.settle_dq (c : FrontEnd) (w : Wiring) (k : Fin 3) :
    (c.settle w).dq[k] = c.formD w k := by
  simp [FrontEnd.settle, FrontEnd.writeRings]

/-! A position close. -/

/-- An interval with a locked cycle added, in RUN (R161). -/
def State.cycleAdded (s : State) (f : Nat) : Option Interval :=
  if s.ctl.state = .run then s.agg.cur.map fun i => { i with acc := { i.acc with
    freqSum := i.acc.freqSum + f, locked := i.acc.locked + 1 } }
  else s.agg.cur

/-- A close that does not halt leaves the interval but for the locked cycle that ends with it. -/
theorem exec_positionClose_cur {checks : CloseChecks} {s s' : State} (h : ¬ s.haltsNext)
    (he : exec (.positionClose checks) s = .next s') : s'.agg.cur =
      match s.closedCycle with
      | none => s.agg.cur
      | some f => s.cycleAdded f := by
  have runs : s.halts = false := Bool.eq_false_iff.2 fun hh => h (s.halts_iff.1 hh)
  rw [exec_positionClose_of_runs runs] at he
  obtain rfl := Host.Outcome.next.inj he
  have agg : s.measured.agg = s.agg := s.measured_frame.only.1 .agg (by decide)
  have state : s.measured.ctl.state = s.ctl.state := s.measured_frame.steady.state
  have locked : (s.measured.handLockedCycle (s.measured.ctl.state == .run) s.closedCycle).agg.cur =
      match s.closedCycle with
      | none => s.agg.cur
      | some f => s.cycleAdded f := by
    unfold State.handLockedCycle State.takeLockedCycle State.cycleAdded
    rw [state, ← agg]
    cases s.closedCycle with
    | none => rfl
    | some f =>
      dsimp only
      by_cases run : s.ctl.state = .run
      · rw [if_pos (beq_iff_eq.2 run), if_pos run]
        rfl
      · rw [if_neg (by simpa using run), if_neg run]
  rw [← locked]
  have ended (v : State) : v.halfCycleEnd.agg.cur = v.agg.cur := by
    unfold State.halfCycleEnd
    dsimp only
    split <;> rfl
  have filled (v : State) (m : RefIndex) (fails : Bool) : (v.fillCopy m fails).agg = v.agg :=
    (v.fillCopy_frame m fails).only.1 .agg (by decide)
  unfold State.eventsOf State.closeEvents
  dsimp only
  split
  · split
    · rw [filled, ended]
    · exact ended _
  · rfl

/-- The tracker after a close, from the D1 samples before it and with it. -/
theorem exec_positionClose_trk {checks : CloseChecks} {s s' : State}
    (he : exec (.positionClose checks) s = .next s') :
    s'.cfe.trk = { s.cfe.trk.takeSample s.ctl.straps.freq s.cfe.dq[0].lastScaled
        s'.cfe.dq[0].lastScaled with
      prevInstant := s.cfe.trk.instant
      instant := s.cfe.trk.next
      next := s.cfe.trk.next + s.cfe.trk.spacing } ∧
    s.closedCycle = s.cfe.trk.lockedCycle s.ctl.straps.freq s.cfe.dq[0].lastScaled
      s'.cfe.dq[0].lastScaled := by
  obtain ⟨u, next, -, cfe, -⟩ := exec_positionClose_frontEnd checks s
  obtain rfl := Host.Outcome.next.inj (next.symm.trans he)
  have sample : u.cfe.dq[(0 : Fin 3)].lastScaled =
      (s.cfe.settle s.ctl.straps.wiring).dq[(0 : Fin 3)].lastScaled := by
    rw [cfe]
    exact (congrArg DetQuantity.lastScaled (s.cfe.after_dq s.ctl.straps _ 0)).trans
      (congrArg DetQuantity.lastScaled (s.cfe.settle_dq s.ctl.straps.wiring 0)).symm
  have sample : u.cfe.dq[0].lastScaled = (s.cfe.settle s.ctl.straps.wiring).dq[0].lastScaled := sample
  rw [sample]
  refine ⟨?_, rfl⟩
  rw [cfe]
  exact s.cfe.after_trk s.ctl.straps _

/-- FREE_RUN is raised at a close where the tracker leaves LOCKED (R11). -/
theorem exec_positionClose_freeRun {checks : CloseChecks} {s s' : State}
    (he : exec (.positionClose checks) s = .next s') (before : s.cfe.trk.state = .locked)
    (after : s'.cfe.trk.state = .freeRun) : s'.ctl.causes[(12 : Fin 13)] = ⟨true, 0, false⟩ := by
  obtain ⟨u, next, -, cfe, -⟩ := exec_positionClose_frontEnd checks s
  obtain rfl := Host.Outcome.next.inj (next.symm.trans he)
  have trk : (s.cfe.closePosition s.ctl.straps).trk.state = .freeRun := by
    rw [← after, cfe]
    exact congrArg FreqTracker.state (s.cfe.after_trk s.ctl.straps _).symm
  have raised := (s.elapse s.closeMoment).raiseOverruns_frame
  have start : (s.elapse s.closeMoment).raiseOverruns.cfe = s.cfe := raised.only.1 .cfe (by decide)
  have straps : (s.elapse s.closeMoment).raiseOverruns.ctl.straps = s.ctl.straps := raised.steady.straps
  rw [exec_positionClose_raises he 12 (by decide)]
  unfold State.measured State.measurePosition State.raiseFreeRun
  rw [start, straps, if_pos ⟨before, trk⟩]
  exact State.raise_causes _ .freeRun 0 12

/-- Settles O24: a crossing ends the cycle in progress by its period and its peak, and CYCLE_TIMEOUT
as invalid. -/
theorem cyclesEnd : Obligations.CyclesEnd := by
  unfold Obligations.CyclesEnd
  constructor
  · intro checks s
    obtain ⟨s', he, -⟩ := exec_positionClose_frontEnd checks s
    obtain ⟨trk, cycle⟩ := exec_positionClose_trk he
    have cur (h : ¬ s.haltsNext) := exec_positionClose_cur h he
    have freeRun := exec_positionClose_freeRun he
    refine ⟨s', he, ?_⟩
    generalize s'.cfe.trk = next at *
    generalize s'.cfe.dq[0].lastScaled = sb at *
    generalize s.cfe.dq[0].lastScaled = sa at *
    refine ⟨by rw [trk], by rw [trk], by rw [trk], fun armed low high => ?_, fun quiet => ?_⟩
    · have crossing : s.cfe.trk.isCrossing sa sb = true :=
        (FreqTracker.isCrossing_iff _ _ _).2 ⟨armed, low, high⟩
      rw [FreqTracker.takeSample_crossing _ _ _ _ crossing] at trk
      have noCycle (h : ¬ (s.cfe.trk.state = .locked ∧ ∃ t0, s.cfe.trk.start = some t0 ∧
          cycleValid s.ctl.straps.freq (crossingTime s.cfe.trk.prevInstant s.cfe.trk.instant sa sb - t0)
            (max s.cfe.trk.peak sb.natAbs) = true)) (runs : ¬ s.haltsNext) : s'.agg.cur = s.agg.cur := by
        rw [cur runs, cycle, FreqTracker.lockedCycle_none _ _ _ _ fun hc => h hc.2]
      refine ⟨by rw [trk], by rw [trk]; rfl, by rw [trk], fun none => ?_,
        fun t0 start => ⟨fun valid => ?_, fun invalid => ?_⟩⟩
      · rw [none] at trk
        subst trk
        exact ⟨rfl, rfl, rfl, rfl, noCycle fun ⟨_, t0, ht, _⟩ => by simp [none] at ht⟩
      · have valid : cycleValid s.ctl.straps.freq
            (crossingTime s.cfe.trk.prevInstant s.cfe.trk.instant sa sb - t0)
            (max s.cfe.trk.peak sb.natAbs) = true := (FreqTracker.cycleValid_iff _ _ _).2 valid
        rw [start] at trk
        dsimp only at trk
        rw [if_pos valid] at trk
        subst trk
        refine ⟨rfl, rfl, ?_, rfl, fun free => noCycle fun ⟨locked, _⟩ => ?_, fun locked runs => ?_⟩
        · exact s.cfe.trk.endValid_locked (crossingTime s.cfe.trk.prevInstant s.cfe.trk.instant sa sb - t0)
        · exact absurd (free.symm.trans locked) (by decide)
        · rw [cur runs, cycle, FreqTracker.lockedCycle_some _ _ _ _ crossing locked start valid]
          rfl
      · have invalid : ¬ cycleValid s.ctl.straps.freq
            (crossingTime s.cfe.trk.prevInstant s.cfe.trk.instant sa sb - t0)
            (max s.cfe.trk.peak sb.natAbs) = true := fun h => invalid ((FreqTracker.cycleValid_iff _ _ _).1 h)
        rw [start] at trk
        dsimp only at trk
        rw [if_neg invalid] at trk
        subst trk
        refine ⟨rfl, rfl, rfl, rfl, noCycle fun ⟨_, t, ht, valid⟩ => ?_, fun locked => ?_⟩
        · obtain rfl := Option.some.inj (start.symm.trans ht)
          exact invalid valid
        · exact freeRun locked rfl
    · have quiet : ¬ s.cfe.trk.isCrossing sa sb = true := fun h =>
        quiet ((FreqTracker.isCrossing_iff _ _ _).1 h)
      rw [FreqTracker.takeSample_quiet _ _ _ _ quiet] at trk
      subst trk
      refine ⟨?_, rfl, rfl, rfl, rfl, rfl, rfl, fun runs => ?_⟩
      · rw [Bool.or_eq_true, decide_eq_true_iff]
      · rw [cur runs, cycle, FreqTracker.lockedCycle_none _ _ _ _ fun hc => quiet hc.1]
  · intro t t0 s start due
    refine ⟨_, rfl, ?_⟩
    have due : t0 + cycleTimeout s.ctl.straps.freq ≤ (s.elapse t).time := by
      unfold cycleTimeout
      exact due
    rw [State.elapse_cfe, start]
    dsimp only
    rw [State.elapse_ctl, if_pos due]
    unfold State.raiseFreeRun
    split
    · next left =>
      rw [if_pos left.1]
      exact ⟨rfl, State.raise_causes _ .freeRun 0 12⟩
    · next kept =>
      rw [if_neg fun locked => kept ⟨locked, rfl⟩]
      exact ⟨rfl, rfl⟩

end Sys2Proof.Machine
end

section
/-! Pin reset (the reset tables) and the reference tracker's two commands (ch. 3). -/

namespace Sys2Proof.Machine

/-- Settles O17: each block is what its reset table gives. -/
theorem pinResetSetsEveryBlock : Obligations.PinResetSetsEveryBlock := by
  unfold Obligations.PinResetSetsEveryBlock
  intro straps low psel s
  refine ⟨_, rfl, ?now, ?channels, ?quantities, rfl, rfl, ?rings, rfl, rfl, rfl, rfl, rfl, rfl, ?sums,
    rfl, rfl, rfl, ?flags, rfl, rfl, rfl, rfl, rfl, rfl, ?references, rfl, ?conditions, ?slots, rfl,
    rfl, rfl, rfl, rfl, rfl, rfl, ?stuck, rfl, rfl, rfl, rfl, rfl, rfl, rfl, rfl, rfl, ?peers,
    ?contexts, rfl, rfl, rfl, rfl, ?tally, rfl, rfl, rfl, rfl, rfl, rfl, rfl, rfl, rfl, rfl, rfl, rfl,
    rfl, rfl, rfl, rfl, rfl, rfl, rfl, ?causes, rfl⟩
  case now =>
    have start : (State.afterPinReset straps low psel s.free s.pending).time / Config.ticksPerMs = 0 :=
      Nat.zero_div _
    simp [State.now, start]
  case stuck => cases low <;> rfl
  case references =>
    intro k
    have seeded : (State.afterPinReset straps low psel s.free s.pending).ref.d[k] =
        seededReference defaultItems := by simp [State.afterPinReset, refReset]
    rw [seeded]
    exact ⟨rfl, rfl, rfl, rfl⟩
  all_goals
    intros
    simp [State.afterPinReset, frontEndReset, channelReset, rmsReset, detReset, allBack, capReset,
      slotReset, clearedContents, linkReset, peerReset, corrReset, storeReset, tallyClear, ctlReset,
      causesClear]

/-- Settles O18: the blocks at pin reset are at rest, their counts in range, and the store and the
context slots empty. -/
theorem pinResetMeetsTheInvariants : Obligations.PinResetMeetsTheInvariants := by
  unfold Obligations.PinResetMeetsTheInvariants
  intro straps low psel free pending s
  have noContext (k : Fin 4) : s.corr.slots[k] = none := by simp [s, State.afterPinReset, corrReset]
  have noRecord (r : Record) : r ∉ s.store.queue := List.not_mem_nil
  have attn : s.attnFollowsCauses := by
    have clear (b : Fin 13) : s.ctl.causes[b].isSet = false := by
      simp [s, State.afterPinReset, ctlReset, causesClear]
    exact ⟨fun h => absurd h Bool.false_ne_true, fun ⟨b, hb, _⟩ => absurd ((clear b).symm.trans hb) (by decide)⟩
  obtain ⟨views, one, quiet, tx⟩ := (quiet_iff s).2 (afterPinReset_quiet straps low psel free pending).of_state
  have fits := s.withinCapacity_iff.2 (afterPinReset_fits straps low psel free pending)
  obtain ⟨items, band⟩ := afterPinReset_ranged straps low psel free pending
  obtain ⟨⟨channels, quantities, rings⟩, sums, values⟩ := sampled_reset straps.freq
  have slot (k : Fin 8) : s.cap.slots[k] = slotReset := by simp [s, State.afterPinReset, capReset]
  have holders : s.holdersCountRecords := by
    refine ⟨fun k => ?_, fun k => ?_⟩
    · rw [slot k]
      rfl
    · rw [slot k]
      exact ⟨fun _ => rfl, fun _ => rfl⟩
  have peers : s.peersSound :=
    ⟨fun k c hc => absurd ((noContext k).symm.trans hc) (by simp), fun r hr => absurd hr (noRecord r),
      by simp [s, State.afterPinReset, linkReset, peerReset]⟩
  have linked : s.linkedAreOpen :=
    ⟨fun k c hc => absurd ((noContext k).symm.trans hc) (by simp),
      fun j k c d _ hc => absurd ((noContext j).symm.trans hc) (by simp)⟩
  exact ⟨attn, rfl, views, one, quiet, tx, fits, items, sums, ⟨channels, quantities, rings⟩, values, band,
    holders, fun r hr => absurd hr (noRecord r), fun i => i.elim0, fun r hr => absurd hr (noRecord r),
    fun r hr => absurd hr (noRecord r), linked, fun _ => Nat.zero_le _, peers, .nil,
    ⟨Nat.one_lt_two_pow (by decide), fun i => i.elim0⟩, fun j k c d _ hc => absurd ((noContext j).symm.trans hc) (by simp)⟩

/-- A per-mille item with what hysteresis adds or takes, as a threshold (R38). -/
theorem scaled_cast (r : Nat) {x : Int} (h : 0 ≤ x) :
    ((scaled r x.toNat : Nat) : Int) = (r : Int) * x / 1000 := by
  rw [scaled]
  push_cast
  rw [Int.toNat_of_nonneg h]

/-- Dk's reference after refresh `e` is taken (R32, R33). -/
def State.tracked (s : State) (e : Refresh) (k : Fin 3) : Reference :=
  if s.ctl.state ≠ .run then s.ref.d[k]
  else if s.sliding then
    s.slideReference { s.ref.d[k] with inForce := s.ref.d[k].following } e.det e.value[dIndex k]
  else { s.ref.d[k] with inForce := s.ref.d[k].following }

theorem State.trackerTakes_cons {s : State} {e : Refresh} {rest : List Refresh}
    (h : s.ref.handed = e :: rest) : s.trackerTakes = s.withRef { s.ref with
      handed := rest, d := Vector.ofFn fun k => s.tracked e k } := by
  unfold State.trackerTakes
  rw [h]
  rfl

theorem State.sliding_iff (s : State) : s.sliding = true ↔ s.item 1 = 1 := beq_iff_eq

theorem Reference.mayMove_iff (x : Reference) (det : DetState) (u band : Nat) :
    x.mayMove det u band = true ↔
      det = .watch ∧ x.settle = 0 ∧ ((u : Int) - (x.rf / 65536 : Nat)).natAbs ≤ band := by
  rw [Reference.mayMove, Bool.and_eq_true, Bool.and_eq_true, beq_iff_eq, beq_iff_eq,
    decide_eq_true_iff, and_assoc]
  rfl

theorem bandLow_le_bandHigh (d : Nat) : bandLow d ≤ bandHigh d :=
  (bandLow_le_declared d).trans (declared_le_bandHigh d)

/-- The moved reference as R34 and R35 have it. -/
theorem movedRf_cast (declared rf u : Nat) : (movedRf declared rf u : Int) =
    max (bandLow declared : Int) (min (bandHigh declared : Int)
      ((rf : Int) + Int.tdiv ((u : Int) * 65536 - (rf : Int)) 8192)) := by
  have order : (bandLow declared : Int) ≤ bandHigh declared := by exact_mod_cast bandLow_le_bandHigh declared
  have low : (0 : Int) ≤ bandLow declared := Int.natCast_nonneg _
  unfold movedRf
  dsimp only
  rw [clampInt_eq _ _ _ order, Int.toNat_of_nonneg (low.trans (le_max_left _ _))]

/-- Settles O25: the cases of a refresh taken, and the thresholds as floors. -/
theorem trackerTakesRefreshesAndReports : Obligations.TrackerTakesRefreshesAndReports := by
  unfold Obligations.TrackerTakesRefreshesAndReports
  refine ⟨fun t e rest s handed => ?_, fun items r dip int hyst swell => ?_, fun t s reports => ?_⟩
  · obtain ⟨s', he, ref⟩ : ∃ s', exec (.trackerTakesRefresh t) s = .next s' ∧
        s'.ref = ((s.elapse t).withRef { s.ref with
          handed := rest, d := Vector.ofFn fun k => s.tracked e k }).ref :=
      ⟨_, rfl, congrArg State.ref (State.trackerTakes_cons (s := s.elapse t) handed)⟩
    refine ⟨s', he, (commandsKeepWhatIsNotTheirs _ s s' he).1, by rw [ref]; rfl, by rw [ref]; rfl,
      fun k => ?_⟩
    have moved : s'.ref.d[k] = s.tracked e k := by
      rw [ref]
      exact Vector.getElem_ofFn k.isLt
    dsimp only
    generalize s'.ref.d[k] = y at moved
    unfold State.tracked at moved
    by_cases run : s.ctl.state = .run
    · rw [if_neg (not_not.2 run)] at moved
      by_cases slides : s.item 1 = 1
      · rw [if_pos (s.sliding_iff.2 slides)] at moved
        have may := Reference.mayMove_iff s.ref.d[k] e.det e.value[dIndex k] s.motionBand
        subst moved
        refine ⟨(if_pos run).symm, fun h => ?_, fun h => ?_, ?_, rfl⟩
        · have mayMove := may.2 h.2
          exact (congrArg Int.ofNat (if_pos mayMove)).trans (movedRf_cast _ _ _)
        · exact if_neg fun mayMove => h ⟨⟨run, slides⟩, may.1 mayMove⟩
        · exact if_congr (by simp [run, slides]) rfl rfl
      · rw [if_neg fun h => slides (s.sliding_iff.1 h)] at moved
        subst moved
        exact ⟨(if_pos run).symm, fun h => absurd h.1.2 slides, fun _ => rfl,
          (if_neg fun h => slides h.1.2).symm, (if_pos rfl).symm⟩
    · rw [if_pos run] at moved
      subst moved
      exact ⟨(if_neg run).symm, fun h => absurd h.1.1 run, fun _ => rfl,
        (if_neg fun h => run h.1.1).symm, (if_pos rfl).symm⟩
  · have swell0 : 0 ≤ items[3] := hyst.trans swell
    have sum {a b : Int} (ha : 0 ≤ a) (hb : 0 ≤ b) : a.toNat + b.toNat = (a + b).toNat :=
      (Int.toNat_add ha hb).symm
    have diff : items[3].toNat - items[5].toNat = (items[3] - items[5]).toNat := by omega
    refine ⟨rfl, scaled_cast r dip, ?_, scaled_cast r swell0, ?_, scaled_cast r int, ?_⟩
    · rw [← scaled_cast r (add_nonneg dip hyst), ← sum dip hyst]
      rfl
    · rw [← scaled_cast r (sub_nonneg.2 swell), ← diff]
      rfl
    · rw [← scaled_cast r (add_nonneg int hyst), ← sum int hyst]
      rfl
  · have taken : (s.elapse t).trackerTakesReport = (s.elapse t).withRef { s.ref with
        endReports := s.ref.endReports - 1
        d := Vector.ofFn fun k => if s.ctl.state = .run ∧ s.sliding = true then
          { s.ref.d[k] with settle := 100 } else s.ref.d[k] } := if_neg reports
    refine ⟨_, rfl, (commandsKeepWhatIsNotTheirs (.trackerTakesEndReport t) s _ rfl).1, ?_⟩
    rw [taken]
    refine ⟨rfl, rfl, fun k => ?_⟩
    exact (Vector.getElem_ofFn k.isLt).trans
      (if_congr (and_congr_right fun _ => s.sliding_iff) rfl rfl)

end Sys2Proof.Machine
end


section
/-! The bytes of the record port: numbers in one, two, four and six bytes, the payloads and a record
field by field (R175 to R178), and their lengths. -/

namespace Sys2Proof.Machine

/-! Numbers in bytes. -/

theorem bigEndian_one (x : Nat) : bigEndian 1 x = u8 x := by simp [bigEndian, u8]

theorem bigEndian_two (x : Nat) : bigEndian 2 x = u16 x := by simp [bigEndian, u16]

theorem bigEndian_four (x : Nat) : bigEndian 4 x = u32 x := by
  simp [bigEndian, u32, u16, Nat.div_div_eq_div_mul]

theorem bigEndian_six (x : Nat) : bigEndian 6 x = u48 x := by
  simp [bigEndian, u48, u32, u16, Nat.div_div_eq_div_mul]

theorem signedBytes_two (x : Int) : signedBytes 2 x = i16 x := bigEndian_two _

theorem signedBytes_four (x : Int) : signedBytes 4 x = i32 x := bigEndian_four _

/-- Four bytes hold a number modulo 2^32. -/
theorem u32_mod (x : Nat) : u32 (x % 2 ^ 32) = u32 x := by
  simp only [u32, u16, List.cons_append, List.nil_append, List.cons.injEq, and_true]
  refine ⟨?_, ?_, ?_, ?_⟩ <;>
  · apply BitVec.eq_of_toNat_eq
    simp only [BitVec.toNat_ofNat]
    omega

/-- Flags packed from bit 0 up are the sum of their bits. -/
theorem bitsOf_finRange (n : Nat) (f : Fin n → Bool) :
    bitsOf ((List.finRange n).map f) =
      ((List.finRange n).map fun b => bit (f b) (2 ^ b.val)).sum := by
  induction n with
  | zero => rfl
  | succ n ih =>
    have double (b : Bool) (k : Nat) : bit b (2 ^ (k + 1)) = 2 * bit b (2 ^ k) := by
      cases b
      · rfl
      · exact (pow_succ' 2 k)
    rw [List.finRange_succ, List.map_cons, List.map_cons, List.map_map, List.map_map, List.sum_cons]
    refine congrArg₂ (· + ·) rfl ?_
    rw [show (fun b : Fin (n + 1) => bit (f b) (2 ^ b.val)) ∘ Fin.succ =
      fun b : Fin n => 2 * bit (f b.succ) (2 ^ b.val) from funext fun b => double _ _,
      List.sum_map_mul_left]
    exact congrArg (2 * ·) (ih (f ∘ Fin.succ))

/-! The payloads. -/

/-- The time since START and the frozen time base are station time (R146, R176). -/
theorem State.stationTimeBytes_now (s : State) : stationTimeBytes (s.stationTime s.now) =
    (let ms := if atOrAfter s.now s.store.startTime then (s.now - s.store.startTime).toNat else 0
     let base := match s.store.frozenBase with
       | some b => b
       | none => s.timeBase
     u32 (base + ms / 1000) ++ u16 (ms % 1000)) := by
  have elapsed : (s.elapsedAt s.now).toNat =
      if atOrAfter s.now s.store.startTime then (s.now - s.store.startTime).toNat else 0 := by
    unfold State.elapsedAt isBefore
    cases atOrAfter s.now s.store.startTime <;> rfl
  have base : s.stationBase = match s.store.frozenBase with
      | some b => b
      | none => s.timeBase := by
    unfold State.stationBase
    cases s.store.frozenBase <;> rfl
  simp only [stationTimeBytes, State.stationTime, bigEndian_four, bigEndian_two, u32_mod, elapsed,
    base]

theorem State.headClosed_byte (s : State) : s.headClosed = match s.store.queue with
    | [] => 1
    | r :: _ => if r.isOpen then 0 else 1 := by
  unfold State.headClosed
  cases s.store.queue with
  | nil => rfl
  | cons r rest => cases h : r.isOpen <;> simp [h, flagNat]

/-- The last samples of a channel, or of a detection quantity, as LIVE returns them (R14, R176). -/
theorem State.lastSamples_bytes (s : State) (q : Fin 11) :
    signedBytes 4 (s.lastSamples q).1 ++ signedBytes 2 (s.lastSamples q).2.1 ++
      bigEndian 1 (flagNat (s.lastSamples q).2.2) =
    if h : q.val < 8 then
      i32 s.cfe.ch[q.val].lastRaw ++ i16 s.cfe.ch[q.val].lastScaled ++
        u8 (bit s.cfe.ch[q.val].clip 1)
    else
      let d := s.cfe.dq[q.val - 8]'(by have := q.isLt; omega)
      i32 d.lastRaw ++ i16 d.lastScaled ++ u8 (bit d.clip 1) := by
  unfold State.lastSamples
  rw [signedBytes_four, signedBytes_two, bigEndian_one]
  split
  · rfl
  · rfl

/-- An interval entry, field by field (R176). -/
theorem IntervalEntry.payload_eq (e : IntervalEntry) : e.payload =
    u32 e.seq ++ u32 e.start.sec ++ u16 e.start.ms ++ u16 e.length ++ u32 e.count ++
    u16 e.rms[0] ++ u16 e.dmin[0] ++ u16 e.dmax[0] ++ u16 e.rms[1] ++ u16 e.dmin[1] ++
    u16 e.dmax[1] ++ u16 e.rms[2] ++ u16 e.dmin[2] ++ u16 e.dmax[2] ++ u16 e.rms[3] ++
    u16 e.dmin[3] ++ u16 e.dmax[3] ++ u16 e.rms[4] ++ u16 e.rms[5] ++ u16 e.rms[6] ++
    u16 e.rms[7] ++ u32 e.meanFreq ++
    u8 (bit e.isPartial 1 + bit e.flagged 2 + bit e.freeRun 4 + bit e.clipped 8) := by
  have flags : bitsOf [e.isPartial, e.flagged, e.freeRun, e.clipped] =
      bit e.isPartial 1 + bit e.flagged 2 + bit e.freeRun 4 + bit e.clipped 8 := by
    cases e.isPartial <;> cases e.flagged <;> cases e.freeRun <;> cases e.clipped <;> rfl
  unfold IntervalEntry.payload stationTimeBytes
  rw [flags]
  simp only [bigEndian_one, bigEndian_two, bigEndian_four, List.finRange_succ, List.finRange_zero]
  simp [List.append_assoc]

theorem Peer.payload_eq (p : Peer) : p.payload =
    u8 (bit p.present 1 + bit p.lastHeard.isSome 2) ++
    u8 (p.level.elim 255 Fin.val) ++
    u8 (match p.wiring with
      | none => 255
      | some .star => 0
      | some .delta => 1) ++
    u8 (match p.freq with
      | none => 255
      | some .hz50 => 0
      | some .hz60 => 1) ++
    u48 (p.lastHeard.elim 0 BitVec.toNat) ++ u8 p.unmatched := by
  have flags : bitsOf [p.present, p.lastHeard.isSome] =
      bit p.present 1 + bit p.lastHeard.isSome 2 := by
    cases p.present <;> cases p.lastHeard.isSome <;> rfl
  have level : [unknownByte (p.level.map Fin.val)] = u8 (p.level.elim 255 Fin.val) := by
    cases p.level <;> rfl
  have wiring : [unknownByte (p.wiring.map Wiring.code)] = u8 (match p.wiring with
      | none => 255
      | some .star => 0
      | some .delta => 1) := by
    rcases p.wiring with _ | _ | _ <;> rfl
  have freq : [unknownByte (p.freq.map Freq.code)] = u8 (match p.freq with
      | none => 255
      | some .hz50 => 0
      | some .hz60 => 1) := by
    rcases p.freq with _ | _ | _ <;> rfl
  unfold Peer.payload
  rw [flags, ← level, ← wiring, ← freq]
  simp only [bigEndian_one, bigEndian_six]
  simp [List.append_assoc]

theorem TallySet.payload_eq (x : TallySet) : x.payload =
    if x.count = 0 then u16 0 ++ u16 0 ++ u16 0 ++ u32 0
    else u16 x.count ++ u16 (x.residual.getD 0) ++ u16 (x.maximum.getD 0) ++
      u32 (x.duration.getD 0) := by
  unfold TallySet.payload
  simp only [bigEndian_two, bigEndian_four]
  by_cases h : x.count = 0
  · simp only [h, if_true]
  · simp only [h, if_false]

theorem CauseEntry.detail_eq (c : CauseEntry) : c.detail = bit c.ext 128 + c.num % 16 := by
  unfold CauseEntry.detail
  cases c.ext <;> rfl

/-- Settles O53, a lemma for each payload. -/
theorem payloadsAreLaidOut : Obligations.PayloadsAreLaidOut := by
  unfold Obligations.PayloadsAreLaidOut
  refine ⟨fun s => ?status, fun s q => ?live, IntervalEntry.payload_eq, fun s => ?peers,
    fun s => ?tally, fun causes => ?causes⟩
  case status =>
    have state : s.ctl.state.code = match s.ctl.state with
        | .config => 0
        | .run => 1
        | .halted => 2 := by
      cases s.ctl.state <;> rfl
    have freq : s.ctl.straps.freq.code = if s.ctl.straps.freq = .hz60 then 1 else 0 := by
      cases s.ctl.straps.freq <;> rfl
    have wiring : s.ctl.straps.wiring.code = if s.ctl.straps.wiring = .delta then 1 else 0 := by
      cases s.ctl.straps.wiring <;> rfl
    have off : flagNat (!s.cap.on) = if s.cap.on then 0 else 1 := by
      cases s.cap.on <;> rfl
    have track : s.cfe.trk.state.code = if s.cfe.trk.state = .locked then 0 else 1 := by
      cases s.cfe.trk.state <;> rfl
    unfold State.statusPayload
    rw [state, freq, wiring, off, track, s.stationTimeBytes_now, s.headClosed_byte]
    simp only [bigEndian_one, bigEndian_two, bigEndian_four] <;> rfl
  case live =>
    have entry : s.livePayload q = (match s.rms.history with
        | [] => bigEndian 1 0 ++ bigEndian 6 0 ++ bigEndian 6 0 ++ bigEndian 2 0
        | e :: _ =>
          bigEndian 1 1 ++ bigEndian 6 e.index.toNat ++ bigEndian 6 e.stamp.toNat ++
            bigEndian 2 e.value[q]) ++
        (signedBytes 4 (s.lastSamples q).1 ++ signedBytes 2 (s.lastSamples q).2.1 ++
          bigEndian 1 (flagNat (s.lastSamples q).2.2)) := by
      unfold State.livePayload
      cases s.rms.history <;> simp only [List.append_assoc]
    rw [entry, s.lastSamples_bytes q]
    cases s.rms.history <;> simp only [bigEndian_one, bigEndian_two, bigEndian_six]
  case peers =>
    exact congrArg (List.flatMap · _) (funext fun a => Peer.payload_eq _)
  case tally =>
    exact congrArg (List.flatMap · _) (funext fun c => TallySet.payload_eq _)
  case causes =>
    unfold causesPayload
    rw [bigEndian_two, bitsOf_finRange]
    simp only [bigEndian_one, CauseEntry.detail_eq]

/-! The record. -/

theorem RecordFlags.word_eq (f : RecordFlags) : f.word =
    bit f.mixed 1 + bit f.ongoing 2 + bit f.upgraded 4 + bit f.clipped 8 + bit f.freeRun 16 +
      bit f.preDisturbed 32 + bit f.unsent 64 + bit f.aborted 128 + bit f.unanchored 256 +
      bit f.waveLost 512 := by
  have weigh (b : Bool) (n : Nat) : bit b n = n * flagNat b := by
    cases b
    · rfl
    · exact (mul_one n).symm
  unfold RecordFlags.word bitsOf
  simp only [weigh, List.foldr_cons, List.foldr_nil]
  omega

theorem Record.parts_eq (r : Record) : r.parts =
    bit r.verdict.isSome 1 + bit r.locus.isSome 2 +
      (match r.wave with
        | .present _ _ => 4
        | .absent _ => 0) +
      (if r.cls = .continuation then 8 else 0) := by
  unfold Record.parts
  cases r.verdict.isSome <;> cases r.locus.isSome <;> cases r.wave <;> cases r.cls <;> rfl

theorem PeerVerdict.bytes_eq (p : PeerVerdict) : p.bytes =
    u8 p.addr.val ++ u8 p.level.val ++
      u8 (match p.verdict with
        | .upstream => 0
        | .downstream => 1
        | .indeterminate => 2) ++
      u8 (p.k.val + 1) ++
      u8 (match p.origin with
        | .triggered => 0
        | .sympathetic => 1) ++
      i16 p.dU ++ i16 p.dI := by
  unfold PeerVerdict.bytes
  simp only [bigEndian_one, signedBytes_two]
  cases p.verdict <;> cases p.origin <;> rfl

theorem verdictBytes_eq (v : Option VerdictBlock) : verdictBytes v = match v with
    | none => List.replicate 6 0
    | some v =>
      u8 (match v.verdict with
        | .upstream => 0
        | .downstream => 1
        | .indeterminate => 2) ++ u8 (v.k.val + 1) ++ i16 v.dU ++ i16 v.dI := by
  cases v with
  | none => rfl
  | some v =>
    unfold verdictBytes
    simp only [bigEndian_one, signedBytes_two]
    cases v.verdict <;> rfl

theorem locusBytes_eq (l : Option Locus) : locusBytes l = match l with
    | none => List.replicate 6 0
    | some l =>
      u8 (match l.kind with
        | .above => 0
        | .below => 1
        | .unknown => 2) ++
      u8 l.level ++ u8 l.addr ++ u8 (bit l.ambiguous 1) ++ u8 l.reporters ++ u8 l.silent := by
  cases l with
  | none => rfl
  | some l =>
    unfold locusBytes
    simp only [bigEndian_one]
    cases l.kind <;> rfl

theorem State.waveBytes_eq (s : State) (w : WavePart) : s.waveBytes w = match w with
    | .present k offset => u8 k.val ++ u8 offset ++ u8 s.cap.slots[k].filled ++ u8 0
    | .absent why => u8 0 ++ u8 0 ++ u8 0 ++ u8 (match why with
      | .noSlot => 1
      | .waveBusy => 2
      | .captureOff => 3
      | .waveLost => 4) := by
  unfold State.waveBytes
  cases w with
  | present k offset => simp only [bigEndian_one]
  | absent why => cases why <;> rfl

/-- Settles O54, a lemma for each part of a record. -/
theorem recordIsLaidOut : Obligations.RecordIsLaidOut := by
  unfold Obligations.RecordIsLaidOut
  intro s r
  have cls : r.cls.code = match r.cls with
      | .dip => 0
      | .swell => 1
      | .interruption => 2
      | .sympathetic => 3
      | .continuation => 4 := by
    cases r.cls <;> rfl
  unfold State.recordBytes stationTimeBytes RecordMeasure.bytes Record.linkBytes
  rw [cls, Record.parts_eq, RecordFlags.word_eq, verdictBytes_eq, locusBytes_eq, s.waveBytes_eq]
  simp only [bigEndian_one, bigEndian_two, bigEndian_four,
    show PeerVerdict.bytes = _ from funext PeerVerdict.bytes_eq, List.append_assoc] <;> rfl

/-! The lengths. -/

theorem State.statusPayload_length (s : State) : s.statusPayload.length = 24 := by
  simp [State.statusPayload, stationTimeBytes]

theorem State.livePayload_length (s : State) (q : Fin 11) : (s.livePayload q).length = 22 := by
  unfold State.livePayload
  cases s.rms.history <;> simp

theorem IntervalEntry.payload_length (e : IntervalEntry) : e.payload.length = 53 := by
  simp [IntervalEntry.payload, stationTimeBytes, List.length_flatMap]

theorem State.peersPayload_length (s : State) : s.peersPayload.length = 176 := by
  have one (p : Peer) : p.payload.length = 11 := by simp [Peer.payload]
  rw [State.peersPayload, List.length_flatMap]
  simp only [one, List.map_const', List.length_finRange, List.sum_replicate, smul_eq_mul]

theorem State.tallyPayload_length (s : State) : s.tallyPayload.length = 50 := by
  have one (x : TallySet) : x.payload.length = 10 := by simp [TallySet.payload]
  simp [State.tallyPayload, List.length_flatMap, one]

theorem causesPayload_length (causes : Vector CauseEntry 13) :
    (causesPayload causes).length = 15 := by
  simp [causesPayload, List.length_flatMap]

theorem Thresholds.payload_eq (th : Thresholds) : th.payload =
    [th.ref, th.dipStart, th.dipEnd, th.swellStart, th.swellEnd, th.intStart, th.intEnd].flatMap
      fun x => [BitVec.ofNat 8 (x / 256), BitVec.ofNat 8 x] := by
  simp [Thresholds.payload, bigEndian_two, u16]

theorem Thresholds.payload_length (th : Thresholds) : th.payload.length = 14 := by
  simp [Thresholds.payload]

theorem State.recordBytes_length (s : State) (r : Record) :
    (s.recordBytes r).length = 57 + 9 * r.peers.length := by
  have verdict : (verdictBytes r.verdict).length = 6 := by
    cases h : r.verdict <;> simp [verdictBytes]
  have locus : (locusBytes r.locus).length = 6 := by
    cases h : r.locus <;> simp [locusBytes]
  have wave : (s.waveBytes r.wave).length = 4 := by
    cases h : r.wave <;> simp [State.waveBytes]
  have peer (p : PeerVerdict) : p.bytes.length = 9 := by simp [PeerVerdict.bytes]
  have peers : (r.peers.flatMap PeerVerdict.bytes).length = 9 * r.peers.length := by
    rw [List.length_flatMap, funext peer]
    simp [mul_comm]
  simp only [State.recordBytes, stationTimeBytes, RecordMeasure.bytes, Record.linkBytes,
    List.length_append, bigEndian_length, verdict, locus, wave, peers]

end Sys2Proof.Machine
end


section
/-! The record port: the select periods, the serving of a request, and the requests that read, that
clear, that release a record, that set an item and that start a run (ch. 11). -/

namespace Sys2Proof.Machine

/-! Select periods. -/

/-- The bytes a read frame carries: 0xFF, then the response, then 0xFF (R173). -/
theorem RecordPort.readFrame_pdout (p : RecordPort) {count : Nat} (h : 0 < count) :
    (p.readFrame count).pdout = 0xFF ::
      (p.buffer.getD [] ++ List.replicate (count - 1 - (p.buffer.getD []).length) 0xFF).take
        (count - 1) := by
  unfold RecordPort.readFrame
  cases p.buffer with
  | none =>
    obtain ⟨n, rfl⟩ := Nat.exists_eq_add_of_lt h
    simp [List.replicate_succ]
  | some resp => rfl

theorem RecordPort.readFrame_length (p : RecordPort) {count : Nat} (h : 0 < count) :
    (p.readFrame count).pdout.length = count := by
  rw [p.readFrame_pdout h, List.length_cons, List.length_take, List.length_append,
    List.length_replicate]
  omega

theorem RecordPort.readFrame_byte (p : RecordPort) {count : Nat} (h : 0 < count) {i : Nat}
    (hi : i < count - 1) :
    (p.readFrame count).pdout[i + 1]? = some ((p.buffer.getD []).getD i 0xFF) := by
  rw [p.readFrame_pdout h, List.getElem?_cons_succ, List.getElem?_take_of_lt hi]
  rcases Nat.lt_or_ge i (p.buffer.getD []).length with inside | beyond
  · rw [List.getElem?_append_left inside, List.getD_eq_getElem _ _ inside,
      List.getElem?_eq_getElem inside]
  · rw [List.getElem?_append_right beyond, List.getD_eq_default _ _ beyond,
      List.getElem?_replicate_of_lt (by omega)]

/-- Settles O50, one case for each command of a select period. -/
theorem selectPeriodsCarryFrames : Obligations.SelectPeriodsCarryFrames := by
  unfold Obligations.SelectPeriodsCarryFrames
  refine ⟨fun t code s none nonzero => ?_, fun t bytes code s code' => ⟨fun idle => ?_, fun busy => ?_⟩,
    fun t s ignored => ?_, fun t count s none some => ?_⟩
  · have begun : exec (.requestBegin t code) s =
        .next ((s.elapse t).withPort (s.port.beginRequest code)) :=
      congrArg Host.Outcome.next (if_pos ⟨none, nonzero⟩)
    rw [begun]
    refine congrArg (fun p => Host.Outcome.next ((s.elapse t).withPort p)) ?_
    unfold RecordPort.beginRequest
    cases busy : s.port.inService <;> simp [busy]
  · show execRequestTaken t bytes s = _
    simp only [execRequestTaken, State.elapse_port, code', RecordPort.takeRequest, idle]
  · show execRequestTaken t bytes s = _
    obtain ⟨r, hr⟩ := Option.ne_none_iff_exists'.1 busy
    simp only [execRequestTaken, State.elapse_port, code', RecordPort.takeRequest, hr]
  · exact congrArg Host.Outcome.next (if_pos ignored)
  · have read : exec (.readFrame t count) s =
        .next ((s.elapse t).withPort (s.port.readFrame count)) :=
      congrArg Host.Outcome.next (if_pos ⟨none, some⟩)
    refine ⟨_, read, (commandsKeepWhatIsNotTheirs _ _ _ read).1, s.port.readFrame_length some, ?_,
      fun i hi => s.port.readFrame_byte some hi, fun empty => ?_, fun resp full => ?_, ?_⟩
    · exact (congrArg (·[0]?) (s.port.readFrame_pdout some)).trans rfl
    · simp [RecordPort.readFrame, empty]
    · refine ⟨?_, fun complete => ?_, fun short => ?_⟩ <;> simp [RecordPort.readFrame, full]
      · exact ⟨complete, fun short => absurd complete (not_le.2 short)⟩
      · omega
    · rw [← none]
      unfold RecordPort.readFrame
      cases s.port.buffer <;> exact ⟨rfl, rfl, rfl⟩

/-! Serving. -/

/-- Settles O51: the answer is offered, then the pending request enters service. -/
theorem servingOffersTheResponse : Obligations.ServingOffersTheResponse := by
  unfold Obligations.ServingOffersTheResponse
  refine ⟨fun st => by cases st <;> rfl, fun s st payload => ?_⟩
  have serve (p : RecordPort) : p.serveNext.frame = p.frame ∧ p.serveNext.rdy = p.rdy ∧
      p.serveNext.buffer = p.buffer ∧
      (p.pendingReq = none → p.serveNext.inService = none ∧ p.serveNext.pendingReq = none) ∧
      (∀ r mark, p.pendingReq = some (r, mark) → p.serveNext.inService = some r ∧
        p.serveNext.superseded = mark ∧ p.serveNext.pendingReq = none) := by
    unfold RecordPort.serveNext
    cases p.pendingReq with
    | none => simp_all
    | some x => simp_all
  obtain ⟨frame, rdy, buffer, last, next⟩ := serve (s.port.offer (responseBytes st payload))
  have offered : (s.port.offer (responseBytes st payload)).frame = s.port.frame ∧
      (s.port.offer (responseBytes st payload)).pendingReq = s.port.pendingReq := by
    unfold RecordPort.offer
    split <;> exact ⟨rfl, rfl⟩
  refine ⟨(s.answer_frame st payload).only, frame.trans offered.1, fun fresh => ?_, fun old => ?_,
    fun none => last (offered.2.trans none), fun r mark some => next r mark (offered.2.trans some)⟩
  · have full : s.port.offer (responseBytes st payload) =
        { s.port with buffer := some (responseBytes st payload), rdy := true } := by
      simp [RecordPort.offer, fresh]
    refine ⟨rdy.trans (congrArg RecordPort.rdy full),
      (buffer.trans (congrArg RecordPort.buffer full)).trans ?_⟩
    simp [responseBytes, bigEndian_two, u16]
  · have same : s.port.offer (responseBytes st payload) = s.port := by
      simp [RecordPort.offer, old]
    exact ⟨rdy.trans (congrArg RecordPort.rdy same),
      buffer.trans (congrArg RecordPort.buffer same)⟩

/-! Requests that read. -/

/-- The entry that INTERVAL finds in the ring (R165). -/
theorem find_seq_of_unique {ring : List IntervalEntry} {e : IntervalEntry} {n : Nat} (mem : e ∈ ring)
    (he : e.seq = n) (unique : ∀ e' ∈ ring, e'.seq = n → e' = e) :
    (ring.find? fun x => x.seq == n) = some e := by
  obtain ⟨x, found⟩ : ∃ x, (ring.find? fun x => x.seq == n) = some x :=
    Option.isSome_iff_exists.1 (List.find?_isSome.2 ⟨e, mem, beq_iff_eq.2 he⟩)
  rw [found, unique x (List.mem_of_find?_eq_some found)
    (beq_iff_eq.1 (List.find?_some (p := fun x : IntervalEntry => x.seq == n) found))]

/-- The three sets of REFERENCE, one after the other (R43). -/
theorem State.referencePayload_part (s : State) (k : Fin 3) :
    (s.referencePayload.drop (14 * k.val)).take 14 = s.ref.d[k].following.payload := by
  have len (th : Thresholds) : th.payload.length = 14 := th.payload_length
  unfold State.referencePayload
  fin_cases k
  · rw [List.append_assoc]
    exact List.take_left' (len _)
  · rw [List.append_assoc]
    exact (congrArg (List.take 14) (List.drop_left' (len _))).trans (List.take_left' (len _))
  · refine (congrArg (List.take 14) (List.drop_left' ?_)).trans (List.take_of_length_le (len _).le)
    rw [List.length_append, len, len]
    rfl

/-- Settles O52, one case for each request. -/
theorem readingRequestsAreAnswered : Obligations.ReadingRequestsAreAnswered := by
  unfold Obligations.ReadingRequestsAreAnswered
  refine ⟨fun t s h => ?malformed, fun t s h => ⟨?status, State.statusPayload_length _⟩,
    fun t s q h => ⟨fun small => ⟨?live, s.livePayload_length _⟩, fun great => ?noLive⟩,
    fun t s h => ⟨s.referencePayload, ?reference, ?_, fun k => ?_⟩,
    fun t s seq h => ⟨fun absent => ?noInterval, fun e mem he unique => ⟨?interval, e.payload_length⟩⟩,
    fun t s h => ⟨?peers, s.peersPayload_length⟩, fun t s item h => ⟨fun small => ?get, fun great => ?noGet⟩⟩
  case malformed => exact congrArg Host.Outcome.next (if_pos h)
  case status => exact congrArg Host.Outcome.next (if_pos h)
  case reference => exact congrArg Host.Outcome.next (if_pos h)
  case peers => exact congrArg Host.Outcome.next (if_pos h)
  case live =>
    show execLive t s = _
    simp only [execLive, State.elapse_port, h, small, dite_true]
    rfl
  case noLive =>
    show execLive t s = _
    simp only [execLive, State.elapse_port, h, show ¬q.toNat < 11 by omega, dite_false]
  case noInterval =>
    have none : (s.agg.ring.find? fun e => e.seq == seq.toNat) = none :=
      List.find?_eq_none.2 fun e he => by simpa using absent e he
    show execInterval t s = _
    simp only [execInterval, State.elapse_port, State.elapse_agg, h, none]
  case interval =>
    show execInterval t s = _
    simp only [execInterval, State.elapse_port, State.elapse_agg, h,
      find_seq_of_unique mem he unique]
  case get =>
    show execGet t s = _
    simp only [execGet, State.elapse_port, h, small, dite_true]
    rfl
  case noGet =>
    show execGet t s = _
    simp only [execGet, State.elapse_port, h, show ¬item.toNat < 30 by omega, dite_false]
  · simp [State.referencePayload, Thresholds.payload_length]
  · exact (s.referencePayload_part k).trans (Thresholds.payload_eq _)

/-! The head record. -/

/-- A hold dropped: the count falls, and a HELD slot without holders is FREE (R77). -/
theorem State.dropHold_slot (s : State) (k : Fin 8) :
    (∀ j : Fin 8, j ≠ k → (s.dropHold k).cap.slots[j] = s.cap.slots[j]) ∧
    (s.dropHold k).cap.slots[k] = { s.cap.slots[k] with
      holders := s.cap.slots[k].holders - 1
      state := if s.cap.slots[k].state = .held ∧ s.cap.slots[k].holders ≤ 1 then .free
        else s.cap.slots[k].state } := by
  refine ⟨fun j other => (s.setSlot_slot k _ j).trans (if_neg other),
    ((s.setSlot_slot k _ k).trans (if_pos rfl)).trans ?_⟩
  have iff : (s.cap.slots[k].holders - 1 = 0 ∧ s.cap.slots[k].state = .held) ↔
      (s.cap.slots[k].state = .held ∧ s.cap.slots[k].holders ≤ 1) := by
    rw [and_comm, Nat.sub_eq_zero_iff_le]
  exact congrArg (fun x => { s.cap.slots[k] with
    holders := s.cap.slots[k].holders - 1, state := x }) (if_congr iff rfl rfl)

/-- The head taken off: its hold is dropped where it has one (R153). -/
theorem State.removeHead_cases (s : State) (r : Record) :
    (∀ why, r.wave = .absent why →
      s.removeHead r = s.withStore { s.store with queue := s.store.queue.tail }) ∧
    ∀ k offset, r.wave = .present k offset → s.removeHead r =
      (s.dropHold k).withStore { s.store with queue := s.store.queue.tail } := by
  unfold State.removeHead
  refine ⟨fun why absent => ?_, fun k offset present => ?_⟩
  · simp only [absent]
  · simp only [present]
    rfl

theorem exec_release_removes {t : Nat} {s : State} {id : BitVec 16} {r : Record} {rest : List Record}
    (serve : s.port.inService = some (.release id)) (queue : s.store.queue = r :: rest)
    (named : r.id = id.toNat) (closed : r.isOpen = false) :
    exec (.release t) s = .next (((s.elapse t).removeHead r).answer .done []) := by
  show execRelease t s = _
  simp [execRelease, serve, queue, named, closed]

/-- Settles O55, by the queue and its head. -/
theorem headIsReadAndReleased : Obligations.HeadIsReadAndReleased := by
  unfold Obligations.HeadIsReadAndReleased
  refine ⟨fun t s serve => ⟨fun empty => ?_, fun r rest queue => ⟨fun isOpen => ?_, fun closed =>
    ⟨?_, s.recordBytes_length r⟩⟩⟩, fun t s id serve => ⟨fun absent => ?_, fun r rest queue =>
    ⟨fun other later => ?_, fun named isOpen => ?_, fun named closed => ?_⟩⟩⟩
  · show execHead t s = _
    simp [execHead, serve, empty]
  · show execHead t s = _
    simp [execHead, serve, queue, isOpen]
  · show execHead t s = _
    simp only [execHead, State.elapse_port, State.elapse_store, serve, queue, closed, if_true,
      Bool.false_eq_true, if_false]
    rfl
  · show execRelease t s = _
    simp only [execRelease, State.elapse_port, State.elapse_store, serve]
    cases queue : s.store.queue with
    | nil => rfl
    | cons r rest =>
      have head : r.id ≠ id.toNat := absent r (by rw [queue]; exact List.mem_cons_self)
      have tail : (rest.any fun x => x.id == id.toNat) = false :=
        List.any_eq_false.2 fun x mem => by
          simpa using absent x (by rw [queue]; exact List.mem_cons_of_mem _ mem)
      simp only [head, tail, if_false, Bool.false_eq_true]
  · show execRelease t s = _
    have found : (rest.any fun x => x.id == id.toNat) = true := by simpa using later
    simp only [execRelease, State.elapse_port, State.elapse_store, serve, queue, other, if_false,
      found, if_true]
  · show execRelease t s = _
    simp [execRelease, serve, queue, named, isOpen]
  · obtain ⟨absent, present⟩ := (s.elapse t).removeHead_cases r
    have tail : s.store.queue.tail = rest := by rw [queue]; rfl
    refine ⟨_, exec_release_removes serve queue named closed,
      onlyChanges_trans (onlyChanges_mono (s.elapse_onlyChanges t) (by simp))
        ((s.elapse t).removeHead_frame r).only, ?_, fun why h => ?_, fun k offset h => ?_⟩
    · cases h : r.wave with
      | absent why =>
        rw [absent why h, ← tail]
        rfl
      | present k offset =>
        rw [present k offset h, ← tail]
        rfl
    · rw [absent why h]
      rfl
    · rw [present k offset h]
      obtain ⟨others, own⟩ := (s.elapse t).dropHold_slot k
      refine ⟨others, ?_, ?_, ?_⟩
      · exact (congrArg Slot.holders own).trans rfl
      · exact (congrArg Slot.contents own).trans rfl
      · exact (congrArg Slot.state own).trans rfl

/-! The tally and the causes. -/

theorem attnOf_causesClear (mask : Nat) : attnOf causesClear mask = false := by
  rw [Bool.eq_false_iff, ne_eq, attnOf_eq_true_iff]
  rintro ⟨b, isSet, -⟩
  simp [causesClear] at isSet

/-- Settles O57: what is returned is cleared, and a hand-over adds to one set. -/
theorem tallyAndCausesAreCleared : Obligations.TallyAndCausesAreCleared := by
  unfold Obligations.TallyAndCausesAreCleared
  refine ⟨fun t s serve => ?_, fun t s serve => ?_, fun s c residual maximum duration => ?_⟩
  · have served : exec (.tally t) s = .next (((s.elapse t).withStore { s.store with
        tally := Vector.replicate 5 tallyClear }).answer .done s.tallyPayload) :=
      congrArg Host.Outcome.next (if_pos serve)
    exact ⟨_, served, onlyChanges_trans (onlyChanges_mono (s.elapse_onlyChanges t) (by simp))
      (State.withStore_onlyChanges _ _), s.tallyPayload_length, rfl, rfl,
      fun c => Vector.getElem_replicate c.isLt⟩
  · have served : exec (.causes t) s = .next (((s.elapse t).withCtl { s.ctl with
        causes := causesClear, attn := attnOf causesClear s.attnMask }).answer .done
          (causesPayload s.ctl.causes)) :=
      congrArg Host.Outcome.next (if_pos serve)
    exact ⟨_, served, onlyChanges_trans (onlyChanges_mono (s.elapse_onlyChanges t) (by simp))
      (State.withCtl_onlyChanges _ _), causesPayload_length _, attnOf_causesClear s.attnMask,
      fun b => Vector.getElem_replicate b.isLt, rfl, rfl⟩
  · intro s' x y
    have own : y = x.add residual maximum duration := Vector.getElem_set_self c.index.isLt
    refine ⟨s.handToTally_onlyChanges c residual maximum duration, rfl, rfl, fun d other => ?_, ?_,
      fun empty => ?_, fun a b e full ha hb he => ?_⟩
    · exact Vector.getElem_set_ne c.index.isLt d.isLt (Fin.val_ne_of_ne other.symm)
    · rw [own]
      rfl
    · rw [own]
      simp [TallySet.add, empty, lesserOf, greaterOf]
    · rw [own]
      simp [TallySet.add, full, ha, hb, he, lesserOf, greaterOf, min_comm, max_comm]

/-! SET. -/

/-- The ranges of the items, row by row (R180). -/
theorem itemRow_range (i : Fin 30) : ((itemRow i).lo, (itemRow i).hi) =
    (([(1000, 4000), (0, 1), (500, 990), (1010, 1500), (10, 200), (5, 50), (10, 500), (10, 500),
      (10, 2000), (1, 3600), (200, 10000), (0, 100)] ++ List.replicate 8 (0, 65535) ++
      List.replicate 8 (-1000, 1000) ++ [(0, 4294967295), (0, 31)] :
      List (Int × Int))).getD i.val (0, 0) := by
  revert i
  decide

theorem itemRow_lo_le_hi (i : Fin 30) : (itemRow i).lo ≤ (itemRow i).hi := by
  revert i
  decide

theorem State.declared_stored (s : State) {i : Fin 30} (declared : i = 0) (x : Int) :
    (s.withCtl { s.ctl with items := s.ctl.items.set i x }).declared = x.toNat := by
  subst declared
  exact congrArg Int.toNat (Vector.getElem_set_self (by decide))

/-- What the tracker makes of a stored item: its references follow the declared voltage, and both
sets the items they are computed from (R40). -/
theorem State.storeItem_reference (s : State) (i : Fin 30) (x : Int) (k : Fin 3) :
    (s.storeItem i x).ref.d[k].settle = s.ref.d[k].settle ∧
    (s.storeItem i x).ref.d[k].rf = (if i = 0 then x.toNat * 65536 else s.ref.d[k].rf) ∧
    ((i = 0 ∨ 2 ≤ i.val ∧ i.val ≤ 5) →
      (s.storeItem i x).ref.d[k].inForce =
        thresholdsFrom (s.ctl.items.set i x) ((s.storeItem i x).ref.d[k].rf / 65536) ∧
      (s.storeItem i x).ref.d[k].following = (s.storeItem i x).ref.d[k].inForce) ∧
    (¬(i = 0 ∨ 2 ≤ i.val ∧ i.val ≤ 5) → (s.storeItem i x).ref.d[k] = s.ref.d[k]) := by
  by_cases declared : i = 0
  · have stored : (s.storeItem i x).ref.d[k] = { s.ref.d[k] with
        rf := x.toNat * 65536
        inForce := thresholdsFrom (s.ctl.items.set i x) x.toNat
        following := thresholdsFrom (s.ctl.items.set i x) x.toNat } := by
      rw [← s.declared_stored declared x]
      unfold State.storeItem State.itemTaken
      rw [if_pos declared]
      exact Vector.getElem_ofFn k.isLt
    have cancel : x.toNat * 65536 / 65536 = x.toNat := Nat.mul_div_cancel _ (by decide)
    rw [stored, if_pos declared]
    refine ⟨rfl, rfl, fun _ => ⟨?_, rfl⟩, fun h => absurd (.inl declared) h⟩
    exact congrArg (thresholdsFrom _) cancel.symm
  · rw [if_neg declared]
    by_cases sets : 2 ≤ i.val ∧ i.val ≤ 5
    · have stored : (s.storeItem i x).ref.d[k] = { s.ref.d[k] with
          inForce := thresholdsFrom (s.ctl.items.set i x) s.ref.d[k].r
          following := thresholdsFrom (s.ctl.items.set i x) s.ref.d[k].r } := by
        simp only [State.storeItem, State.itemTaken, declared, sets, if_false, if_true, and_self]
        exact Vector.getElem_ofFn k.isLt
      rw [stored]
      exact ⟨rfl, rfl, fun _ => ⟨rfl, rfl⟩, fun h => absurd (.inr sets) h⟩
    · have stored : (s.storeItem i x).ref = s.ref := by
        simp only [State.storeItem, State.itemTaken, declared, sets, if_false]
        split <;> rfl
      rw [stored]
      exact ⟨rfl, rfl, fun h => absurd h (not_or.2 ⟨declared, sets⟩), fun _ => rfl⟩

theorem exec_set_in_config {t : Nat} {s : State} {item : Byte} {v : BitVec 32}
    (serve : s.port.inService = some (.set item v)) (hi : item.toNat < 30)
    (config : s.ctl.state = .config) :
    exec (.set t) s = .next (((s.elapse t).storeItem ⟨item.toNat, hi⟩
      (storedValue ⟨item.toNat, hi⟩ v)).answer
        (if storedValue ⟨item.toNat, hi⟩ v = setValue ⟨item.toNat, hi⟩ v then .done else .clamped)
        (signedBytes 4 (storedValue ⟨item.toNat, hi⟩ v))) := by
  show execSet t s = _
  simp [execSet, serve, hi, config]

/-- Settles O58: the value stored, and what the owner of the item makes of it. -/
theorem setStoresTheItem : Obligations.SetStoresTheItem := by
  unfold Obligations.SetStoresTheItem
  intro t s item v serve
  refine ⟨fun great => ?_, fun hi run => ?_, fun hi config => ?_⟩
  · show execSet t s = _
    simp [execSet, serve, show ¬item.toNat < 30 by omega]
  · show execSet t s = _
    simp [execSet, serve, hi, run]
  intro i x range y
  have stored : storedValue i v = y := by
    have row := itemRow_range i
    unfold storedValue
    rw [clampInt_eq _ _ _ (itemRow_lo_le_hi i)]
    exact congrArg₂ (fun r z => max r.1 (min r.2 z)) row rfl
  obtain ⟨ref, attn, eq, attnIs⟩ := (s.elapse t).storeItem_eq i y
  have served := exec_set_in_config (t := t) serve hi config
  rw [show storedValue ⟨item.toNat, hi⟩ v = y from stored] at served
  refine ⟨(s.elapse t).storeItem i y, served,
    onlyChanges_trans (onlyChanges_mono (s.elapse_onlyChanges t) (by simp))
      (State.storeItem_onlyChanges _ _ _), by rw [eq]; rfl, by rw [eq]; rfl, by rw [eq]; exact config,
    fun mask => ?_, fun other => ?_, fun k => ?_⟩
  · have asserts : ((s.elapse t).storeItem i y).ctl.attn = attnOf s.ctl.causes y.toNat := by
      have item : ((s.elapse t).storeItem i y).attnMask = y.toNat := by
        rw [eq]
        exact congrArg Int.toNat ((congrArg (fun j : Fin 30 => (s.ctl.items.set i y)[j]) mask.symm).trans
          (Vector.getElem_set_self i.isLt))
      rw [if_pos mask, item] at attnIs
      rw [eq]
      exact attnIs
    rw [asserts]
    exact attnOf_eq_true_iff _ _
  · rw [if_neg other] at attnIs
    rw [eq]
    exact attnIs
  · obtain ⟨settle, rf, sets, others⟩ := (s.elapse t).storeItem_reference i y k
    refine ⟨settle, rf, fun owned => ?_, others⟩
    obtain ⟨inForce, following⟩ := sets owned
    exact ⟨inForce.trans (by rw [eq]; rfl), following⟩

/-! START. -/

theorem exec_start_accepted {t : Nat} {s : State} (serve : s.port.inService = some .start)
    (config : s.ctl.state = .config) (noConflict : s.item 2 + s.item 5 < s.item 3 - s.item 5) :
    exec (.start t) s = .next ((s.elapse t).takeStart.answer .done []) := by
  show execStart t s = _
  have free : (s.elapse t).conflict = false := decide_eq_false (not_le.2 noConflict)
  simp [execStart, serve, config, free]

/-- Settles O59, by the station state and the conflict check. -/
theorem startIsAnswered : Obligations.StartIsAnswered := by
  unfold Obligations.StartIsAnswered
  intro t s serve
  refine ⟨fun run => ?_, fun halted => ?_, fun config clash => ?_, fun config noConflict => ?_⟩
  · show execStart t s = _
    simp [execStart, serve, run]
  · show execStart t s = _
    simp [execStart, serve, halted]
  · show execStart t s = _
    have clash : (s.elapse t).conflict = true := decide_eq_true clash
    simp [execStart, serve, config, clash]
  · refine ⟨_, exec_start_accepted serve config noConflict, rfl, rfl, rfl, rfl, rfl, rfl, rfl, rfl,
      fun k => ?_, rfl, ⟨_, rfl, rfl, rfl, rfl, rfl, ?_⟩, rfl, fun room => ?_⟩
    · have seeded : (s.elapse t).takeStart.ref.d[k] = seededReference s.ctl.items :=
        Vector.getElem_replicate k.isLt
      rw [seeded]
      exact ⟨rfl, rfl, rfl, rfl⟩
    · exact congrArg (· + _) (add_zero (s.elapse t).now)
    · exact congrArg NoticeLink.queue (if_pos room)

end Sys2Proof.Machine
end


section
/-! What a judgement, the end of a fill and a memory check error make of the records and the slots
(R76, R79, R81, R82, R149). -/

namespace Sys2Proof.Machine

/-! Records that are judged. -/

/-- `r'` is `r`, but for the state OPEN and the flag ABORTED. -/
def Record.Judged (r r' : Record) : Prop :=
  r' = { r with isOpen := r'.isOpen, flags := { r.flags with aborted := r'.flags.aborted } }

theorem Record.Judged.refl (r : Record) : r.Judged r := rfl

theorem Record.Judged.trans {r r' r'' : Record} (h : r.Judged r') (h' : r'.Judged r'') :
    r.Judged r'' := by
  unfold Record.Judged at *
  rw [h', h]

theorem closedRecord_judged (view : StationState) (r : Record) : r.Judged (closedRecord view r) := rfl

/-- The record after a judgement, `due` being asked for it, where its slot does not fill (R149). -/
def Record.settled (view : StationState) (due : Bool) (r : Record) : Record :=
  if due && r.isOpen && !r.running && !r.anchorOpen then closedRecord view r else r

theorem Record.settled_judged (view : StationState) (due : Bool) (r : Record) :
    r.Judged (r.settled view due) := by
  unfold Record.settled
  split
  · exact closedRecord_judged view r
  · exact .refl r

theorem Record.settled_false (view : StationState) (r : Record) : r.settled view false = r := rfl

theorem Record.settled_true_isOpen (view : StationState) (r : Record) :
    (r.settled view true).isOpen = true ↔
      r.isOpen = true ∧ (r.running = true ∨ r.anchorOpen = true) := by
  unfold Record.settled closedRecord
  cases ho : r.isOpen <;> cases hr : r.running <;> cases ha : r.anchorOpen <;> simp [ho]

/-- ABORTED is touched where the record closes alone (R151). -/
theorem Record.settled_aborted (view : StationState) (due : Bool) (r : Record) :
    ((r.settled view due).isOpen = r.isOpen → (r.settled view due).flags.aborted = r.flags.aborted) ∧
    (r.isOpen = true → (r.settled view due).isOpen = false →
      (r.settled view due).flags.aborted = (r.flags.aborted || (view != .run))) := by
  unfold Record.settled
  split
  · next closes =>
    simp only [Bool.and_eq_true] at closes
    exact ⟨fun same => absurd (same.trans closes.1.1.2) (by simp [closedRecord]), fun _ _ => rfl⟩
  · exact ⟨fun _ => rfl, fun ho hc => absurd (ho.symm.trans hc) (by simp)⟩

/-! Judgements. -/

/-- The record ids are unique. -/
def State.IdsUnique (s : State) : Prop := (s.store.queue.map Record.id).Nodup

theorem State.idsUnique_of {s : State} (order : s.idsInOrder) (capacity : s.withinCapacity) :
    s.IdsUnique := by
  have nodup := (State.idsSound_of order capacity).nodup
  unfold Ledger.ids State.ledger at nodup
  rw [List.map_map] at nodup
  exact nodup

theorem State.IdsUnique.map {s u : State} (h : s.IdsUnique) {g : Record → Record}
    (queue : u.store.queue = s.store.queue.map g) (ids : ∀ r, (g r).id = r.id) : u.IdsUnique := by
  unfold State.IdsUnique
  rw [queue, List.map_map, show Record.id ∘ g = Record.id from funext ids]
  exact h

theorem State.IdsUnique.eq {s : State} (h : s.IdsUnique) {r r' : Record} (hr : r ∈ s.store.queue)
    (hr' : r' ∈ s.store.queue) (e : r.id = r'.id) : r = r' :=
  List.inj_on_of_nodup_map h hr hr' e

theorem State.IdsUnique.recordOf {s : State} (h : s.IdsUnique) {r : Record}
    (hr : r ∈ s.store.queue) : s.recordOf r.id = some r := by
  unfold State.recordOf
  obtain ⟨x, found⟩ : ∃ x, (s.store.queue.find? fun x => x.id == r.id) = some x :=
    Option.isSome_iff_exists.1 (List.find?_isSome.2 ⟨r, hr, beq_iff_eq.2 rfl⟩)
  rw [found, h.eq (List.mem_of_find?_eq_some found) hr
    (beq_iff_eq.1 (List.find?_some (p := fun x : Record => x.id == r.id) found))]

/-- `r` after the judgements of `ids`. -/
def State.judged (s : State) (ids : List Nat) (r : Record) : Record :=
  if decide (r.id ∈ ids) && r.isOpen && s.closable r then closedRecord s.store.view r else r

theorem State.judge_map (s : State) (id : Nat) :
    ∃ g : Record → Record, (s.judge id).store.queue = s.store.queue.map g ∧ ∀ r : Record, r.Judged (g r) := by
  rcases s.judge_cases id with e | ⟨r, -, -, -, e⟩
  · exact ⟨fun r => r, by rw [e, List.map_id'], Record.Judged.refl⟩
  · refine ⟨fun r => if r.id = id then closedRecord s.store.view r else r, by rw [e]; rfl, fun r => ?_⟩
    dsimp only
    split
    · exact closedRecord_judged _ r
    · exact .refl r

/-- Judgements change a record in its state and in ABORTED alone. -/
theorem State.judgeAll_map (s : State) (ids : List Nat) :
    ∃ g : Record → Record, (s.judgeAll ids).store.queue = s.store.queue.map g ∧ ∀ r : Record, r.Judged (g r) := by
  induction ids generalizing s with
  | nil => exact ⟨fun r => r, (List.map_id' _).symm, Record.Judged.refl⟩
  | cons id ids ih =>
    obtain ⟨f, hf, judged⟩ := s.judge_map id
    obtain ⟨g, hg, judged'⟩ := ih (s.judge id)
    refine ⟨g ∘ f, ?_, fun r => (judged r).trans (judged' _)⟩
    rw [← List.map_map, ← hf]
    exact hg

theorem State.judge_queue {s : State} (unique : s.IdsUnique) (id : Nat) :
    (s.judge id).store.queue = s.store.queue.map (s.judged [id]) := by
  have same (h : ∀ r ∈ s.store.queue, s.judged [id] r = r) :
      s.store.queue = s.store.queue.map (s.judged [id]) :=
    ((List.map_congr_left h).trans (List.map_id' _)).symm
  unfold State.judge
  split
  · next none =>
    refine same fun r hr => if_neg fun h => ?_
    simp only [Bool.and_eq_true, decide_eq_true_eq, List.mem_singleton] at h
    exact absurd none (by rw [← h.1.1, unique.recordOf hr]; simp)
  · next r found =>
    have mem : r ∈ s.store.queue := List.mem_of_find?_eq_some found
    have rid : r.id = id := beq_iff_eq.1 (List.find?_some (p := fun x : Record => x.id == id) found)
    split
    · next closes =>
      refine List.map_congr_left fun x hx => ?_
      by_cases hid : x.id = id
      · obtain rfl := unique.eq hx mem (hid.trans rid.symm)
        simp only [State.judged, hid, if_true, List.mem_singleton, decide_true, Bool.true_and, closes]
      · simp only [State.judged, hid, if_false, List.mem_singleton, decide_false, Bool.false_and,
          Bool.false_eq_true]
    · next stays =>
      refine same fun x hx => if_neg fun h => ?_
      simp only [Bool.and_eq_true, decide_eq_true_eq, List.mem_singleton] at h
      obtain rfl := unique.eq hx mem (h.1.1.trans rid.symm)
      exact stays (by simp [h.1.2, h.2])

theorem State.closable_judged (s u : State) (hcap : u.cap = s.cap) (r : Record) (ids : List Nat) :
    u.closable (s.judged ids r) = s.closable r := by
  have filling : u.slotFilling r = s.slotFilling r := by
    unfold State.slotFilling
    rw [hcap]
  have shape (view : StationState) : u.closable (closedRecord view r) = u.closable r := rfl
  have same : u.closable r = s.closable r := by
    unfold State.closable
    rw [filling]
  unfold State.judged
  split
  · rw [shape, same]
  · exact same

/-- Judgements, record by record. -/
theorem State.judgeAll_queue {s : State} (unique : s.IdsUnique) (ids : List Nat) :
    (s.judgeAll ids).store.queue = s.store.queue.map (s.judged ids) := by
  induction ids generalizing s with
  | nil =>
    refine ((List.map_congr_left fun r _ => ?_).trans (List.map_id' _)).symm
    exact if_neg (by simp)
  | cons id ids ih =>
    have first := State.judge_queue unique id
    have view : (s.judge id).store.view = s.store.view := by
      rw [(s.judge_rewrites id).store]
    have unique' : (s.judge id).IdsUnique := unique.map first fun r => by
      unfold State.judged
      split <;> rfl
    show ((s.judge id).judgeAll ids).store.queue = _
    rw [ih unique', first, List.map_map]
    refine List.map_congr_left fun r _ => ?_
    have closable := s.closable_judged (s.judge id) (s.judge_cap id) r [id]
    simp only [Function.comp_apply]
    unfold State.judged at closable ⊢
    rw [view]
    by_cases h : (decide (r.id ∈ [id]) && r.isOpen && s.closable r) = true
    · have h' : (decide (r.id ∈ id :: ids) && r.isOpen && s.closable r) = true := by
        simp only [Bool.and_eq_true, decide_eq_true_eq, List.mem_cons, List.not_mem_nil,
          or_false] at h ⊢
        exact ⟨⟨.inl h.1.1, h.1.2⟩, h.2⟩
      simp only [h, h', if_true]
      exact if_neg (by simp [closedRecord])
    · rw [if_neg h] at closable ⊢
      rw [closable]
      refine if_congr ?_ rfl rfl
      simp only [Bool.and_eq_true, decide_eq_true_eq, List.mem_cons, List.not_mem_nil,
        or_false] at h ⊢
      refine ⟨fun x => ⟨⟨.inr x.1.1, x.1.2⟩, x.2⟩, fun x => ⟨⟨?_, x.1.2⟩, x.2⟩⟩
      exact x.1.1.resolve_left fun e => h ⟨⟨e, x.1.2⟩, x.2⟩

/-- Where a settled step closes a record, RECORD_CLOSED is raised. -/
theorem Settles.closedOnce {s u : State} (h : Settles s u) (ids : s.ledger.IdsSound) :
    ClosedOnce s u := by
  obtain ⟨ids', closes⟩ :=
    Ledger.Moves.keep (P := fun _ w => Ledger.ClosesFrom s.ledger w)
      (fun m _ h => m.closesFrom h) (h []) ids (Ledger.ClosesFrom.refl _)
  exact closedOnce_of_ledger rfl ids' closes

/-! Slots and the records that name them. -/

theorem Record.names_eq_true (r : Record) (k : Fin 8) :
    r.names k = true ↔ ∃ offset, r.wave = .present k offset := by
  unfold Record.names
  cases r.wave with
  | present j offset => simp
  | absent why => simp

theorem State.mem_namers {s : State} (unique : s.IdsUnique) {r : Record} (hr : r ∈ s.store.queue)
    (k : Fin 8) : r.id ∈ s.namers k ↔ r.names k = true := by
  have mem : r.id ∈ s.namers k ↔ ∃ x ∈ s.store.queue, x.names k = true ∧ x.id = r.id := by
    simp only [State.namers, List.mem_map, List.mem_filter, and_assoc]
    rfl
  rw [mem]
  constructor
  · rintro ⟨x, hx, names, e⟩
    exact unique.eq hx hr e ▸ names
  · exact fun names => ⟨r, hr, names, rfl⟩

theorem State.slotFilling_of_names (s : State) {r : Record} {k : Fin 8} (h : r.names k = true) :
    s.slotFilling r = (s.cap.slots[k].state == .filling) := by
  obtain ⟨offset, hw⟩ := (r.names_eq_true k).1 h
  unfold State.slotFilling
  rw [hw]

/-- The record without the waveform part that names slot `k` (R79). -/
def Record.loses (k : Fin 8) (r : Record) : Record :=
  if r.names k then { r with wave := .absent .waveLost, flags := { r.flags with waveLost := true } }
  else r

theorem State.loseHolders_queue (s : State) (k : Fin 8) :
    (s.loseHolders k).store.queue = s.store.queue.map (Record.loses k) := by
  refine List.map_congr_left fun r _ => ?_
  unfold Record.loses Record.names
  cases r.wave with
  | present j offset => by_cases h : j = k <;> simp [h]
  | absent why => rfl

/-- The end of a fill: the FILLING slot is HELD (R76). -/
theorem State.stopFill_slot {s : State} (one : s.OneFills) (j : Fin 8) :
    s.stopFill.cap.slots[j] = { s.cap.slots[j] with
      state := if s.cap.slots[j].state = .filling then .held else s.cap.slots[j].state } := by
  unfold State.stopFill
  split
  · next none => rw [if_neg (show ¬s.cap.slots[j].state = .filling from State.not_fills_of_fillingSlot none j)]
  · next k found =>
    have fills := State.fillingSlot_state found
    rw [State.judgeAll_cap, State.setSlot_slot]
    by_cases h : j = k
    · subst h
      rw [if_pos rfl, if_pos fills]
    · rw [if_neg h, if_neg (show ¬s.cap.slots[j].state = .filling from fun hj => h (one j k hj fills))]

theorem State.stopFill_onlySlots (s : State) :
    s.stopFill.cap = { s.cap with slots := s.stopFill.cap.slots } := by
  unfold State.stopFill
  split
  · rfl
  · rw [State.judgeAll_cap]
    rfl

/-- The end of a fill, record by record. -/
theorem State.stopFill_queue {s : State} (unique : s.IdsUnique) :
    s.stopFill.store.queue =
      s.store.queue.map fun r => r.settled s.store.view (s.fillingSlot.any fun k => r.names k) := by
  unfold State.stopFill
  split
  · next none => rw [none]; exact (List.map_id' _).symm
  · next k found =>
    rw [found]
    have unique' : (s.setSlot k { s.cap.slots[k] with state := .held }).IdsUnique := unique
    refine (State.judgeAll_queue unique' _).trans (List.map_congr_left fun r hr => ?_)
    have due : decide (r.id ∈ (s.setSlot k { s.cap.slots[k] with state := .held }).namers k) =
        r.names k := by
      rw [Bool.eq_iff_iff, decide_eq_true_eq]
      exact State.mem_namers unique' hr k
    unfold State.judged Record.settled
    rw [due]
    refine if_congr ?_ rfl rfl
    show _ ↔ (r.names k && r.isOpen && !r.running && !r.anchorOpen) = true
    cases names : r.names k with
    | false => simp
    | true =>
      have still : (s.setSlot k { s.cap.slots[k] with state := .held }).slotFilling r = false := by
        rw [State.slotFilling_of_names _ names, State.setSlot_slot, if_pos rfl]
        rfl
      unfold State.closable
      rw [still]
      simp [and_assoc]

theorem State.stopFill_map (s : State) :
    ∃ g : Record → Record, s.stopFill.store.queue = s.store.queue.map g ∧ ∀ r : Record, r.Judged (g r) := by
  unfold State.stopFill
  split
  · exact ⟨fun r => r, (List.map_id' _).symm, Record.Judged.refl⟩
  · exact State.judgeAll_map _ _

/-! A slot spoilt. -/

theorem State.spoilSlot_slot (s : State) (k : Fin 8) (e : Option Ms) (j : Fin 8) :
    (s.spoilSlot k e).cap.slots[j] =
      if s.cap.slots[k].inUse = true ∧ j = k then
        { s.cap.slots[k] with state := .scrubbing, holders := 0, scrubEnd := e }
      else s.cap.slots[j] := by
  unfold State.spoilSlot
  by_cases used : s.cap.slots[k].inUse = true
  · have own : (s.loseHolders k).cap.slots[k] = { s.cap.slots[k] with holders := 0 } :=
      ((State.setSlot_slot _ k _ k).trans (if_pos rfl)).trans rfl
    have other : (s.loseHolders k).cap.slots[j] =
        if j = k then { s.cap.slots[k] with holders := 0 } else s.cap.slots[j] :=
      State.setSlot_slot _ k _ j
    rw [if_pos used, State.judgeAll_cap, State.setSlot_slot, own, other]
    by_cases h : j = k
    · rw [if_pos h, if_pos ⟨used, h⟩]
    · rw [if_neg h, if_neg h, if_neg fun x => h x.2]
  · rw [if_neg used, if_neg fun x => used x.1]

theorem State.spoilSlot_onlySlots (s : State) (k : Fin 8) (e : Option Ms) :
    (s.spoilSlot k e).cap = { s.cap with slots := (s.spoilSlot k e).cap.slots } := by
  unfold State.spoilSlot
  split
  · rw [State.judgeAll_cap]
    rfl
  · rfl

/-- What a memory check error in slot `k` takes from the record: its waveform part, where it names
the slot and the slot is in use (R79). -/
def State.spoils (s : State) (k : Fin 8) (r : Record) : Record :=
  if s.cap.slots[k].inUse then r.loses k else r

theorem State.spoilSlot_map (s : State) (k : Fin 8) (e : Option Ms) :
    ∃ g : Record → Record, (s.spoilSlot k e).store.queue = s.store.queue.map g ∧ ∀ r, (s.spoils k r).Judged (g r) := by
  unfold State.spoilSlot State.spoils
  split
  · next used =>
    obtain ⟨g, hg, judged⟩ := State.judgeAll_map ((s.loseHolders k).setSlot k
      { (s.loseHolders k).cap.slots[k] with state := .scrubbing, scrubEnd := e }) (s.namers k)
    refine ⟨g ∘ Record.loses k, ?_, fun r => judged _⟩
    rw [← List.map_map, ← s.loseHolders_queue k]
    exact hg
  · exact ⟨fun r => r, (List.map_id' _).symm, Record.Judged.refl⟩

theorem Record.loses_id (k : Fin 8) (r : Record) : (r.loses k).id = r.id := by
  unfold Record.loses
  split <;> rfl

theorem State.spoils_id (s : State) (k : Fin 8) (r : Record) : (s.spoils k r).id = r.id := by
  unfold State.spoils
  split
  · exact r.loses_id k
  · rfl

theorem Record.settled_id (view : StationState) (due : Bool) (r : Record) :
    (r.settled view due).id = r.id := by
  unfold Record.settled
  split <;> rfl

/-- A slot spoilt, record by record. -/
theorem State.spoilSlot_queue {s : State} (unique : s.IdsUnique) (k : Fin 8) (e : Option Ms) :
    (s.spoilSlot k e).store.queue = s.store.queue.map fun r =>
      (s.spoils k r).settled s.store.view (s.cap.slots[k].inUse && r.names k) := by
  unfold State.spoilSlot State.spoils
  split
  · next used =>
    have lost : ((s.loseHolders k).setSlot k { (s.loseHolders k).cap.slots[k] with
        state := .scrubbing, scrubEnd := e }).store.queue = s.store.queue.map (Record.loses k) :=
      s.loseHolders_queue k
    refine (State.judgeAll_queue (unique.map lost (Record.loses_id k)) _).trans ?_
    rw [lost, List.map_map]
    refine List.map_congr_left fun r hr => ?_
    have due : decide ((r.loses k).id ∈ s.namers k) = r.names k := by
      rw [Bool.eq_iff_iff, decide_eq_true_eq, Record.loses_id]
      exact State.mem_namers unique hr k
    simp only [Function.comp_apply, used, Bool.true_and]
    unfold State.judged Record.settled
    rw [due]
    refine if_congr ?_ rfl rfl
    cases names : r.names k with
    | false => simp
    | true =>
      have gone : (r.loses k).wave = .absent .waveLost := by
        simp [Record.loses, names]
      simp [State.closable, State.slotFilling, gone, and_assoc]
  · next unused =>
    refine ((List.map_congr_left fun r _ => ?_).trans (List.map_id' _)).symm
    simp only [unused, Bool.false_and]
    rfl

end Sys2Proof.Machine
end


section
/-! Memory check errors: what one makes of the causes, the slots and the records (R79, R81, R82), the
scrubs, and a read of a slot that fails its check (R80, R83, R177). -/

namespace Sys2Proof.Machine

/-- A memory check error taken in `s` is a double capture fault (R81). -/
def State.doubleFault (s : State) : Bool :=
  s.cap.on && (List.finRange 8).any fun j => s.cap.slots[j].scrubEnd.isSome

/-- The capture unit turned OFF with every scrub abandoned, once slot `k` is spoilt (R81). -/
def State.turnedOff (s : State) (k : Fin 8) : State :=
  let spoilt := ((s.raise .slotError k.val).raise .captureOff k.val).spoilSlot k none
  (spoilt.withCap { spoilt.cap with on := false }).abandonScrubs

theorem State.memoryError_double {s : State} (k : Fin 8) (h : s.doubleFault = true) :
    s.memoryError k = (s.turnedOff k).stopFill := by
  obtain ⟨on, running⟩ := (Bool.and_eq_true _ _).mp h
  have running : s.scrubRunning = true := running
  unfold State.memoryError
  rw [on, running]
  rfl

theorem State.memoryError_single {s : State} (k : Fin 8) (h : s.doubleFault = false) :
    s.memoryError k = (s.raise .slotError k.val).spoilSlot k
      (if s.cap.on then some (s.now + msOf 5) else none) := by
  unfold State.memoryError
  cases on : s.cap.on with
  | false => rfl
  | true =>
    have running : s.scrubRunning = false := by
      rw [State.doubleFault, on, Bool.true_and] at h
      exact h
    rw [running]
    rfl

/-! The slots. -/

theorem State.turnedOff_slot (s : State) (k j : Fin 8) : (s.turnedOff k).cap.slots[j] =
    if s.cap.slots[k].inUse = true ∧ j = k then
      { s.cap.slots[k] with state := .scrubbing, holders := 0, scrubEnd := none }
    else { s.cap.slots[j] with scrubEnd := none } := by
  have spoilt : (((s.raise .slotError k.val).raise .captureOff k.val).spoilSlot k
        none).cap.slots[j] = if s.cap.slots[k].inUse = true ∧ j = k then
          { s.cap.slots[k] with state := .scrubbing, holders := 0, scrubEnd := none }
        else s.cap.slots[j] :=
    State.spoilSlot_slot ((s.raise .slotError k.val).raise .captureOff k.val) k none j
  have off : (s.turnedOff k).cap.slots[j] =
      { (((s.raise .slotError k.val).raise .captureOff k.val).spoilSlot k none).cap.slots[j] with
        scrubEnd := none } := Vector.getElem_ofFn j.isLt
  rw [off, spoilt]
  by_cases h : s.cap.slots[k].inUse = true ∧ j = k
  · rw [if_pos h, if_pos h]
  · rw [if_neg h, if_neg h]

theorem State.turnedOff_fills {s : State} {k j : Fin 8} :
    (s.turnedOff k).fills j ↔ s.fills j ∧ j ≠ k := by
  unfold State.fills
  rw [s.turnedOff_slot k j]
  split
  · next h => exact ⟨nofun, fun x => absurd h.2 x.2⟩
  · next h =>
    refine ⟨fun x => ⟨x, ?_⟩, fun x => x.1⟩
    rintro rfl
    refine h ⟨?_, rfl⟩
    unfold Slot.inUse
    rw [show s.cap.slots[j].state = .filling from x]
    rfl

theorem State.memoryError_slot {s : State} (one : s.OneFills) (k j : Fin 8) :
    (s.memoryError k).cap.slots[j] =
      if s.cap.slots[k].inUse = true ∧ j = k then
        { s.cap.slots[k] with
          state := .scrubbing, holders := 0
          scrubEnd := if s.cap.on && !s.doubleFault then some (s.now + msOf 5) else none }
      else if s.doubleFault then { s.cap.slots[j] with
        scrubEnd := none
        state := if s.cap.slots[j].state = .filling then .held else s.cap.slots[j].state }
      else s.cap.slots[j] := by
  cases double : s.doubleFault with
  | false =>
    rw [State.memoryError_single k double]
    refine (State.spoilSlot_slot _ k _ j).trans ?_
    simp only [Bool.not_false, Bool.and_true, Bool.false_eq_true, if_false]
    rfl
  | true =>
    have one' : (s.turnedOff k).OneFills := fun i j hi hj =>
      one i j (State.turnedOff_fills.1 hi).1 (State.turnedOff_fills.1 hj).1
    rw [State.memoryError_double k double, State.stopFill_slot one', s.turnedOff_slot k j]
    by_cases h : s.cap.slots[k].inUse = true ∧ j = k
    · simp only [h, and_self, if_true, Bool.not_true, Bool.and_false]
      rfl
    · simp only [h, if_false, if_true]

/-- A slot in use is spoilt whether or not another fills. -/
theorem State.memoryError_slot_self {s : State} {k : Fin 8} (used : s.cap.slots[k].inUse = true) :
    (s.memoryError k).cap.slots[k] = { s.cap.slots[k] with
      state := .scrubbing, holders := 0
      scrubEnd := if s.cap.on && !s.doubleFault then some (s.now + msOf 5) else none } := by
  cases double : s.doubleFault with
  | false =>
    rw [State.memoryError_single k double]
    refine ((State.spoilSlot_slot _ k _ k).trans (if_pos ⟨used, rfl⟩)).trans ?_
    rw [Bool.not_false, Bool.and_true]
    rfl
  | true =>
    have spoilt := (s.turnedOff_slot k k).trans (if_pos ⟨used, rfl⟩)
    rw [State.memoryError_double k double, Bool.not_true, Bool.and_false]
    unfold State.stopFill
    split
    · exact spoilt
    · next j found =>
      have fills : (s.turnedOff k).fills j := State.fillingSlot_state found
      have other : k ≠ j := (State.turnedOff_fills.1 fills).2.symm
      rw [State.judgeAll_cap, State.setSlot_slot, if_neg other]
      exact spoilt

theorem State.memoryError_on (s : State) (k : Fin 8) :
    (s.memoryError k).cap.on = (s.cap.on && !s.doubleFault) := by
  cases double : s.doubleFault with
  | false =>
    rw [State.memoryError_single k double, State.spoilSlot_onlySlots]
    exact (Bool.and_true _).symm
  | true =>
    rw [State.memoryError_double k double, State.stopFill_onlySlots, Bool.not_true, Bool.and_false]
    rfl

/-! The causes. -/

theorem State.memoryError_slotError (s : State) (k : Fin 8) :
    (s.memoryError k).ctl.causes[(2 : Fin 13)] = ⟨true, k.val, false⟩ := by
  cases double : s.doubleFault with
  | false =>
    rw [State.memoryError_single k double]
    exact (State.spoilSlot_raises _ k _ 2 (by decide)).trans (s.raise_causes .slotError k.val 2)
  | true =>
    rw [State.memoryError_double k double]
    refine (State.stopFill_raises _ 2 (by decide)).trans ?_
    refine (State.spoilSlot_raises ((s.raise .slotError k.val).raise .captureOff k.val) k none 2
      (by decide)).trans ?_
    exact ((s.raise .slotError k.val).raise_causes .captureOff k.val 2).trans
      (s.raise_causes .slotError k.val 2)

theorem State.memoryError_captureOff (s : State) (k : Fin 8) :
    (s.memoryError k).ctl.causes[(3 : Fin 13)] =
      if s.doubleFault then ⟨true, k.val, false⟩ else s.ctl.causes[(3 : Fin 13)] := by
  cases double : s.doubleFault with
  | false =>
    rw [State.memoryError_single k double]
    exact (State.spoilSlot_raises _ k _ 3 (by decide)).trans (s.raise_causes .slotError k.val 3)
  | true =>
    rw [State.memoryError_double k double]
    refine (State.stopFill_raises _ 3 (by decide)).trans ?_
    refine (State.spoilSlot_raises ((s.raise .slotError k.val).raise .captureOff k.val) k none 3
      (by decide)).trans ?_
    exact (s.raise .slotError k.val).raise_causes .captureOff k.val 3

/-! The records. -/

theorem State.memoryError_map (s : State) (k : Fin 8) :
    ∃ g : Record → Record, (s.memoryError k).store.queue = s.store.queue.map g ∧
      ∀ r, (s.spoils k r).Judged (g r) := by
  cases double : s.doubleFault with
  | false =>
    rw [State.memoryError_single k double]
    exact State.spoilSlot_map (s.raise .slotError k.val) k _
  | true =>
    rw [State.memoryError_double k double]
    obtain ⟨f, hf, spoilt⟩ :=
      State.spoilSlot_map ((s.raise .slotError k.val).raise .captureOff k.val) k none
    obtain ⟨g, hg, stopped⟩ := (s.turnedOff k).stopFill_map
    refine ⟨g ∘ f, ?_, fun r => (spoilt r).trans (stopped _)⟩
    rw [hg, ← List.map_map]
    exact congrArg (List.map g) hf

/-- A spoilt record keeps every field but its waveform part and WAVE_LOST (R79). -/
theorem State.spoils_eq (s : State) (k : Fin 8) (r : Record) : s.spoils k r = { r with
    wave := if s.cap.slots[k].inUse && r.names k then .absent .waveLost else r.wave
    flags := { r.flags with
      waveLost := r.flags.waveLost || (s.cap.slots[k].inUse && r.names k) } } := by
  unfold State.spoils Record.loses
  cases s.cap.slots[k].inUse with
  | false => simp
  | true => cases r.names k <;> simp

/-- The fill of the record's slot ends with a double capture fault in another one (R81). -/
def State.fillEnds (s : State) (k : Fin 8) (r : Record) : Prop := s.doubleFault = true ∧
  ∃ (j : Fin 8) (offset : Nat), r.wave = .present j offset ∧ j ≠ k ∧ s.cap.slots[j].state = .filling

/-- A double capture fault ends the fill of the slot that the spoilt record still names. -/
theorem State.turnedOff_due {s : State} (one : s.OneFills) (k : Fin 8) (r : Record) :
    ((s.turnedOff k).fillingSlot.any fun j => (s.spoils k r).names j) = true ↔
      ∃ (j : Fin 8) (offset : Nat), r.wave = .present j offset ∧ j ≠ k ∧
        s.cap.slots[j].state = .filling := by
  have named {j : Fin 8} (hj : j ≠ k) : (s.spoils k r).names j = true ↔ r.names j = true := by
    unfold State.spoils Record.loses
    split
    · split
      · next names =>
        obtain ⟨offset, hw⟩ := (r.names_eq_true k).1 names
        refine ⟨nofun, fun hn => absurd ?_ hj⟩
        obtain ⟨_, hw'⟩ := (r.names_eq_true j).1 hn
        rw [hw] at hw'
        exact (WavePart.present.inj hw').1.symm
      · exact Iff.rfl
    · exact Iff.rfl
  rw [Option.any_eq_true]
  constructor
  · rintro ⟨j, found, names⟩
    obtain ⟨fills, hj⟩ := State.turnedOff_fills.1 (State.fillingSlot_state found)
    obtain ⟨offset, hw⟩ := (r.names_eq_true j).1 ((named hj).1 names)
    exact ⟨j, offset, hw, hj, fills⟩
  · rintro ⟨j, offset, hw, hj, fills⟩
    have fills' : (s.turnedOff k).fills j := State.turnedOff_fills.2 ⟨fills, hj⟩
    refine ⟨j, ?_, (named hj).2 ((r.names_eq_true j).2 ⟨offset, hw⟩)⟩
    cases found : (s.turnedOff k).fillingSlot with
    | none => exact absurd fills' (State.not_fills_of_fillingSlot found j)
    | some i =>
      have hi := (State.turnedOff_fills.1 (State.fillingSlot_state found)).1
      rw [one i j hi fills]

/-- A memory check error, record by record: the holders of the slot lose their waveform part, and a
record that only a fill kept OPEN closes (R79, R81). -/
theorem State.memoryError_queue {s : State} (unique : s.IdsUnique) (one : s.OneFills) (k : Fin 8)
    [∀ r, Decidable (s.fillEnds k r)] :
    (s.memoryError k).store.queue = s.store.queue.map fun r => (s.spoils k r).settled s.store.view
      ((s.cap.slots[k].inUse && r.names k) || decide (s.fillEnds k r)) := by
  cases double : s.doubleFault with
  | false =>
    have noEnd (r : Record) : decide (s.fillEnds k r) = false :=
      decide_eq_false fun h => absurd (double.symm.trans h.1) (by simp)
    rw [State.memoryError_single k double]
    simp only [noEnd, Bool.or_false]
    exact State.spoilSlot_queue (s := s.raise .slotError k.val) unique k _
  | true =>
    have spoilt : (s.turnedOff k).store.queue = s.store.queue.map fun r =>
        (s.spoils k r).settled s.store.view (s.cap.slots[k].inUse && r.names k) :=
      State.spoilSlot_queue (s := (s.raise .slotError k.val).raise .captureOff k.val) unique k none
    have unique' : (s.turnedOff k).IdsUnique := unique.map spoilt fun r => by
      rw [Record.settled_id, State.spoils_id]
    have view : (s.turnedOff k).store.view = s.store.view := by
      rw [((State.spoilSlot_rewrites ((s.raise .slotError k.val).raise .captureOff k.val) k
        none).trans (.of_eq rfl) : Rewrites _ (s.turnedOff k)).store]
      rfl
    rw [State.memoryError_double k double, State.stopFill_queue unique', spoilt, List.map_map]
    refine List.map_congr_left fun r _ => ?_
    have due := s.turnedOff_due one k r
    have wave (d : Bool) (j : Fin 8) :
        ((s.spoils k r).settled s.store.view d).names j = (s.spoils k r).names j := by
      unfold Record.settled
      split <;> rfl
    have ends : decide (s.fillEnds k r) =
        (s.turnedOff k).fillingSlot.any fun j => (s.spoils k r).names j := by
      rw [Bool.eq_iff_iff, decide_eq_true_eq, due]
      exact ⟨fun h => h.2, fun h => ⟨double, h⟩⟩
    simp only [Function.comp_apply, wave, view, ends]
    generalize s.spoils k r = x
    generalize ((s.turnedOff k).fillingSlot.any fun j => x.names j) = d
    cases (s.cap.slots[k].inUse && r.names k) with
    | false => rfl
    | true =>
      unfold Record.settled
      cases ho : x.isOpen <;> cases hr : x.running <;> cases ha : x.anchorOpen <;>
        cases d <;> simp [closedRecord, ho, hr, ha]

/-- What a memory check error makes of the state, as the statements on it have it. -/
theorem State.memoryError_errsInto (s : State) (k : Fin 8) : errsInto s (s.memoryError k) k := by
  have time : (s.memoryError k).now = s.now := congrArg (fun n => BitVec.ofNat 48 (n / Config.ticksPerMs))
      (s.memoryError_frame k).steady.time
  refine ⟨s.memoryError_slotError k, s.memoryError_captureOff k, s.memoryError_on k,
    fun used => ?_, fun one j hj => ?_, (s.memoryError_rewrites k).store,
    (s.memoryError_rewrites k).length, fun i r hr => ?_⟩
  · rw [time]
    exact State.memoryError_slot_self used
  · refine (State.memoryError_slot (State.fillings_le_one.1 one) k j).trans (if_neg fun h => ?_)
    rcases hj with other | unused
    · exact other h.2
    · exact absurd (h.1.symm.trans unused) (by simp)
  · obtain ⟨g, hg, judged⟩ := s.memoryError_map k
    have hi : (s.memoryError k).store.queue[i]? = some (g r) := by
      rw [hg, List.getElem?_map, hr]
      rfl
    have mem : r ∈ s.store.queue := List.mem_of_getElem? hr
    refine ⟨g r, hi, ?_, fun order capacity one => ?_⟩
    · have change := judged r
      rw [Record.Judged, s.spoils_eq k r] at change
      exact change
    · classical
      have unique := State.idsUnique_of order capacity
      have now : g r = (s.spoils k r).settled s.store.view
          ((s.cap.slots[k].inUse && r.names k) || decide (s.fillEnds k r)) := by
        have map := State.memoryError_queue unique (State.fillings_le_one.1 one) k
        have hi' := hi
        rw [map, List.getElem?_map, hr] at hi'
        exact (Option.some.inj hi').symm
      have shape : (s.spoils k r).isOpen = r.isOpen ∧ (s.spoils k r).running = r.running ∧
          (s.spoils k r).anchorOpen = r.anchorOpen ∧
          (s.spoils k r).flags.aborted = r.flags.aborted := by
        unfold State.spoils Record.loses
        cases s.cap.slots[k].inUse <;> cases r.names k <;> exact ⟨rfl, rfl, rfl, rfl⟩
      obtain ⟨ho, hrun, ha, hab⟩ := shape
      obtain ⟨keeps, closes⟩ := (s.spoils k r).settled_aborted s.store.view
        ((s.cap.slots[k].inUse && r.names k) || decide (s.fillEnds k r))
      rw [← now, ho, hab] at keeps closes
      refine ⟨fun due => ?_, fun free => ?_, keeps, fun isOpen closed => ⟨?_, closes isOpen closed⟩⟩
      · have due : ((s.cap.slots[k].inUse && r.names k) || decide (s.fillEnds k r)) = true := by
          rw [Bool.or_eq_true, decide_eq_true_eq]
          exact due
        rw [now, due, Record.settled_true_isOpen, ho, hrun, ha]
      · have free : ((s.cap.slots[k].inUse && r.names k) || decide (s.fillEnds k r)) = false := by
          rw [Bool.eq_false_iff, ne_eq, Bool.or_eq_true, decide_eq_true_eq]
          exact free
        rw [now, free, Record.settled_false, ho]
      · have id : (g r).id = r.id := by rw [now, Record.settled_id, State.spoils_id]
        exact ((State.memoryError_settles s k).closedOnce (State.idsSound_of order capacity) r mem
          (g r) (List.mem_of_getElem? hi) id).2 isOpen closed

/-- Settles O34: a scrub that completes, a memory check error, and one in a slot being scrubbed. -/
theorem scrubsEnd : Obligations.ScrubsEnd := by
  unfold Obligations.ScrubsEnd
  refine ⟨fun t k s due scrubbing time reached => ?_,
    fun s k => ⟨s.memoryError_onlyChanges k, s.memoryError_errsInto k⟩,
    fun t k s due scrubbing time on => ?_⟩
  · have ends : ((s.elapse t).cap.slots[k].state == .scrubbing &&
        (s.elapse t).due (s.elapse t).cap.slots[k].scrubEnd) = true := by
      rw [Bool.and_eq_true, beq_iff_eq]
      refine ⟨scrubbing, ?_⟩
      rw [show (s.elapse t).cap.slots[k].scrubEnd = some due from time]
      exact reached
    refine ⟨_, congrArg Host.Outcome.next (if_pos ends), rfl, rfl, rfl, rfl, fun j q i => ?_⟩
    simp [clearedContents]
  · have running : ((s.elapse t).cap.slots[k].state == .scrubbing &&
        (s.elapse t).cap.slots[k].scrubEnd.isSome) = true := by
      rw [Bool.and_eq_true, beq_iff_eq]
      refine ⟨scrubbing, ?_⟩
      rw [show (s.elapse t).cap.slots[k].scrubEnd = some due from time]
      rfl
    have double : (s.elapse t).doubleFault = true := by
      refine (Bool.and_eq_true _ _).mpr ⟨on, List.any_eq_true.2 ⟨k, List.mem_finRange k, ?_⟩⟩
      rw [show (s.elapse t).cap.slots[k].scrubEnd = some due from time]
      rfl
    have unused : (s.elapse t).cap.slots[k].inUse = false := by
      unfold Slot.inUse
      rw [show (s.elapse t).cap.slots[k].state = .scrubbing from scrubbing]
      rfl
    have slots (j : Fin 8) : ((s.elapse t).memoryError k).cap.slots[j].scrubEnd = none ∧
        (s.cap.slots[j].state = .scrubbing →
          ((s.elapse t).memoryError k).cap.slots[j].state = .scrubbing) := by
      have off := ((s.elapse t).turnedOff_slot k j).trans
        (if_neg fun h => absurd (h.1.symm.trans unused) (by simp))
      rw [State.memoryError_double k double]
      unfold State.stopFill
      split
      · rw [off]
        exact ⟨rfl, id⟩
      · next i found =>
        rw [State.judgeAll_cap, State.setSlot_slot]
        by_cases h : j = i
        · subst h
          have fills : s.cap.slots[j].state = .filling :=
            (State.turnedOff_fills.1 (State.fillingSlot_state found)).1
          rw [if_pos rfl, off]
          exact ⟨rfl, fun x => absurd (x.symm.trans fills) (by simp)⟩
        · rw [if_neg h, off]
          exact ⟨rfl, id⟩
    refine ⟨(s.elapse t).memoryError k, congrArg Host.Outcome.next (if_pos running),
      onlyChanges_trans (onlyChanges_mono (s.elapse_onlyChanges t) (by simp))
        ((s.elapse t).memoryError_onlyChanges k), (s.elapse t).memoryError_errsInto k, ?_,
      fun j => (slots j).1, (slots k).2 scrubbing, (s.elapse t).memoryError_slotError k, ?_⟩
    · rw [State.memoryError_on, double, Bool.not_true, Bool.and_false]
    · exact ((s.elapse t).memoryError_captureOff k).trans (if_pos double)

/-! Reads of a slot. -/

theorem State.waveSlot_some {s : State} {id : BitVec 16} {q h : Byte} {k : Fin 8} :
    s.waveSlot id q h = some k ↔ ∃ r offset, s.recordOf id.toNat = some r ∧
      r.wave = .present k offset ∧ q.toNat ≤ 10 ∧ h.toNat ≤ 39 ∧
      h.toNat < s.cap.slots[k].filled := by
  unfold State.waveSlot
  cases record : s.recordOf id.toNat with
  | none => simp
  | some r =>
    cases wave : r.wave with
    | absent why => simp [wave]
    | present j offset =>
      simp only [Option.map_some, wave, Option.ite_none_right_eq_some, Option.some.injEq]
      constructor
      · rintro ⟨inside, rfl⟩
        exact ⟨r, offset, rfl, wave, inside⟩
      · rintro ⟨x, _, rfl, wave', inside⟩
        obtain ⟨rfl, -⟩ := WavePart.present.inj (wave.symm.trans wave')
        exact ⟨inside, rfl⟩

/-- Settles O56: the slot that WAVE reads, and the check of the read. -/
theorem waveReadsTheSlot : Obligations.WaveReadsTheSlot := by
  unfold Obligations.WaveReadsTheSlot
  intro t fails s id q h serve
  have served : exec (.wave t fails) s = .next (match s.waveSlot id q h with
      | none => (s.elapse t).answer .notPresent []
      | some k =>
        if fails then ((s.elapse t).memoryError k).answer .notPresent []
        else (s.elapse t).answer .done (s.wavePayload k q h)) := by
    show execWave t fails s = _
    simp only [execWave, State.elapse_port, serve]
    rfl
  refine ⟨fun absent => ?_, fun r k offset hq hh record wave copied => ?_⟩
  · have none : s.waveSlot id q h = none := by
      refine Option.eq_none_iff_forall_ne_some.2 fun k found => ?_
      obtain ⟨r, offset, record, wave, hq, hh, copied⟩ := State.waveSlot_some.1 found
      rcases absent with noRecord | bigQ | bigH | ⟨r', why, record', wave'⟩ |
        ⟨r', k', offset', record', wave', uncopied⟩
      · exact absurd (record.symm.trans noRecord) (by simp)
      · omega
      · omega
      · obtain rfl := Option.some.inj (record.symm.trans record')
        exact absurd (wave.symm.trans wave') (by simp)
      · obtain rfl := Option.some.inj (record.symm.trans record')
        obtain ⟨rfl, -⟩ := WavePart.present.inj (wave.symm.trans wave')
        omega
    rw [served, none]
  · have found : s.waveSlot id q h = some k :=
      State.waveSlot_some.2 ⟨r, offset, record, wave, by omega, by omega, copied⟩
    rw [served, found]
    refine ⟨fun sound => ?_, fun failed => ⟨(s.elapse t).memoryError k, ?_, ?_, ?_⟩⟩
    · subst sound
      have hh' : (Fin.ofNat 40 h.toNat).val = h.toNat := Nat.mod_eq_of_lt hh
      have hq' : (Fin.ofNat 11 q.toNat).val = q.toNat := Nat.mod_eq_of_lt hq
      have payload : s.wavePayload k q h = (List.finRange 64).flatMap fun i =>
          bigEndian 2 ((s.cap.slots[k].contents[h.toNat][q.toNat][i] : Int) % 65536).toNat := by
        unfold State.wavePayload
        simp only [Fin.getElem_fin, hh', hq']
        rfl
      exact congrArg (fun p => Host.Outcome.next ((s.elapse t).answer .done p)) payload
    · subst failed
      rfl
    · exact onlyChanges_trans (onlyChanges_mono (s.elapse_onlyChanges t) (by simp))
        ((s.elapse t).memoryError_onlyChanges k)
    · exact (s.elapse t).memoryError_errsInto k

end Sys2Proof.Machine
end


section
/-! Copies into a slot: those of a capture request and those of a fill (R70 to R76). -/

namespace Sys2Proof.Machine

/-! A slot rewritten. -/

theorem State.setSlot_setSlot (s : State) (k : Fin 8) (x y : Slot) :
    (s.setSlot k x).setSlot k y = s.setSlot k y := by
  unfold State.setSlot
  simp only [State.withCap_cap, Vector.set_set]
  rfl

theorem State.setSlot_self (s : State) (k : Fin 8) : s.setSlot k s.cap.slots[k] = s := by
  unfold State.setSlot
  rw [Fin.getElem_fin, Vector.set_getElem_self]
  rfl

theorem State.setSlot_slot_self (s : State) (k : Fin 8) (x : Slot) :
    (s.setSlot k x).cap.slots[k] = x := (s.setSlot_slot k x k).trans (if_pos rfl)

/-- The first of all slots with a property. -/
theorem find?_finRange_eq_some {n : Nat} {p : Fin n → Bool} {k : Fin n} (hk : p k = true)
    (low : ∀ j, j < k → p j = false) : (List.finRange n).find? p = some k := by
  rw [List.find?_eq_some_iff_getElem]
  refine ⟨hk, k.val, by simp, by simp, fun j hj => ?_⟩
  rw [List.getElem_finRange, Bool.not_eq_true']
  exact low _ hj

/-! Copies one after the other. -/

/-- The slot once the half-cycles `f 0`, `f 1` … `f (n - 1)` have been copied into its first
positions (R72). -/
def Slot.putAll (sl : Slot) (f : Nat → HalfCycle) (n : Nat) : Slot :=
  (List.range n).foldl (fun x j => x.put j (f j)) sl

theorem Slot.putAll_succ (sl : Slot) (f : Nat → HalfCycle) (n : Nat) :
    sl.putAll f (n + 1) = (sl.putAll f n).put n (f n) := by
  unfold Slot.putAll
  rw [List.range_succ, List.foldl_append]
  rfl

theorem Slot.put_eq (sl : Slot) {j : Nat} (h : j < 40) (hc : HalfCycle) :
    sl.put j hc = { sl with contents := sl.contents.set j hc, filled := sl.filled + 1 } := dif_pos h

/-- The copies fill the contents and the filled count alone. -/
theorem Slot.putAll_eq (sl : Slot) (f : Nat → HalfCycle) {n : Nat} (h : n ≤ 40) :
    sl.putAll f n = { sl with
      filled := sl.filled + n
      contents := Vector.ofFn fun j : Fin 40 => if j.val < n then f j.val else sl.contents[j] } := by
  induction n with
  | zero =>
    have same : (Vector.ofFn fun j : Fin 40 => if j.val < 0 then f j.val else sl.contents[j]) =
        sl.contents := Vector.ext fun j hj => by simp
    rw [same]
    rfl
  | succ n ih =>
    rw [Slot.putAll_succ, ih (by omega), Slot.put_eq _ (by omega)]
    have next : (Vector.ofFn fun j : Fin 40 => if j.val < n then f j.val else sl.contents[j]).set n
        (f n) = Vector.ofFn fun j : Fin 40 => if j.val < n + 1 then f j.val else sl.contents[j] := by
      refine Vector.ext fun j hj => ?_
      rw [Vector.getElem_set, Vector.getElem_ofFn, Vector.getElem_ofFn]
      by_cases e : n = j
      · subst e
        simp
      · simp only [e, if_false]
        exact if_congr (by omega) rfl rfl
    rw [next]
    rfl

/-- A slot that is not FILLING takes no copy. -/
theorem State.copyPosition_of_not_filling {s : State} {k : Fin 8} (h : ¬s.fills k) (j : Nat)
    (hc : HalfCycle) (fails : Bool) : s.copyPosition k j hc fails = s :=
  if_neg fun e => h (beq_iff_eq.1 e)

/-- A copy into a FILLING slot is made before it is checked (R72, R75). -/
theorem State.copyPosition_of_filling {s : State} {k : Fin 8} (h : s.fills k) (j : Nat)
    (hc : HalfCycle) (fails : Bool) : s.copyPosition k j hc fails =
      if fails then (s.setSlot k (s.cap.slots[k].put j hc)).memoryError k
      else s.setSlot k (s.cap.slots[k].put j hc) := if_pos (beq_iff_eq.2 h)

theorem State.copies_of_not_filling {s : State} {k : Fin 8} (h : ¬s.fills k) (l : List Nat)
    (f : Nat → HalfCycle) (fails : Nat → Bool) :
    l.foldl (fun st j => st.copyPosition k j (f j) (fails j)) s = s := by
  induction l with
  | nil => rfl
  | cons j l ih => rw [List.foldl_cons, State.copyPosition_of_not_filling h, ih]

/-- Copies that pass their checks. -/
theorem State.copies_clean {s : State} {k : Fin 8} (h : s.fills k) (f : Nat → HalfCycle)
    (fails : Nat → Bool) {n : Nat} (clean : ∀ j, j < n → fails j = false) :
    (List.range n).foldl (fun st j => st.copyPosition k j (f j) (fails j)) s =
      s.setSlot k (s.cap.slots[k].putAll f n) := by
  induction n with
  | zero => exact (s.setSlot_self k).symm
  | succ n ih =>
    have still : (s.setSlot k (s.cap.slots[k].putAll f n)).fills k := by
      unfold State.fills
      rw [State.setSlot_slot_self]
      have kept (m : Nat) : (s.cap.slots[k].putAll f m).state = s.cap.slots[k].state := by
        induction m with
        | zero => rfl
        | succ m ihm => rw [Slot.putAll_succ, Slot.put_state, ihm]
      exact (kept n).trans h
    rw [List.range_succ, List.foldl_append, ih fun j hj => clean j (by omega)]
    refine (State.copyPosition_of_filling still n (f n) _).trans ?_
    rw [clean n (by omega), State.setSlot_slot_self, State.setSlot_setSlot, Slot.putAll_succ]
    rfl

/-- A slot that a memory check error has met fills no longer. -/
theorem State.memoryError_ends_fill (s : State) (k : Fin 8) : ¬(s.memoryError k).fills k := by
  unfold State.fills
  intro fills
  by_cases used : s.cap.slots[k].inUse = true
  · rw [State.memoryError_slot_self used] at fills
    exact absurd fills (by simp)
  · have before := (s.memoryError_subsides k).fills k fills
    refine used ?_
    unfold Slot.inUse
    rw [show s.cap.slots[k].state = .filling from before]
    rfl

/-- The first copy that fails its check is made, and ends the copies (log entry 16). -/
theorem State.copies_failed {s : State} {k : Fin 8} (h : s.fills k) (f : Nat → HalfCycle)
    (fails : Nat → Bool) {n i : Nat} (hi : i < n) (clean : ∀ j, j < i → fails j = false)
    (failed : fails i = true) :
    (List.range n).foldl (fun st j => st.copyPosition k j (f j) (fails j)) s =
      (s.setSlot k (s.cap.slots[k].putAll f (i + 1))).memoryError k := by
  obtain ⟨m, rfl⟩ : ∃ m, n = i + 1 + m := ⟨n - (i + 1), by omega⟩
  have still : (s.setSlot k (s.cap.slots[k].putAll f i)).fills k := by
    have kept (m : Nat) : (s.cap.slots[k].putAll f m).state = s.cap.slots[k].state := by
      induction m with
      | zero => rfl
      | succ m ihm => rw [Slot.putAll_succ, Slot.put_state, ihm]
    unfold State.fills
    rw [State.setSlot_slot_self]
    exact (kept i).trans h
  have spoilt : (List.range (i + 1)).foldl (fun st j => st.copyPosition k j (f j) (fails j)) s =
      (s.setSlot k (s.cap.slots[k].putAll f (i + 1))).memoryError k := by
    rw [List.range_succ, List.foldl_append, State.copies_clean h f fails clean]
    refine (State.copyPosition_of_filling still i (f i) _).trans ?_
    rw [failed, State.setSlot_slot_self, State.setSlot_setSlot, Slot.putAll_succ]
    rfl
  rw [List.range_add, List.foldl_append, spoilt]
  exact State.copies_of_not_filling (State.memoryError_ends_fill _ k) _ f fails

/-! A slot opened. -/

/-- The slot as a request with anchor `a` opens it (R72). -/
def Slot.opened (sl : Slot) (a : RefIndex) : Slot :=
  { sl with state := .filling, holders := 1, first := a - 8, filled := 0, scrubEnd := none }

/-- The half-cycle that a request copies into position `j`, the newest refresh being `ahead` past
the anchor (R72; log entry 11). -/
def State.behind (s : State) (ahead : Nat) (j : Nat) : HalfCycle :=
  ringSegment s.cfe.rings (segmentBack s.cfe.pos (ahead + 7 - j))

/-- The state in which the copies of a request begin. -/
def State.slotOpened (s : State) (k : Fin 8) (id : Nat) (a : RefIndex) : State :=
  (s.setSlot k (s.cap.slots[k].opened a)).writeWave id (.present k 8)

theorem State.openSlot_eq (s : State) (k : Fin 8) (id : Nat) (a newest : RefIndex)
    (failed : Option (Fin 9)) : s.openSlot k id a newest failed =
      (List.range (if (newest - a).toNat = 0 then 8 else 9)).foldl
        (fun st j => st.copyPosition k j (s.behind (newest - a).toNat j)
          (failed.map Fin.val == some j)) (s.slotOpened k id a) := rfl

theorem State.slotOpened_fills (s : State) (k : Fin 8) (id : Nat) (a : RefIndex) :
    (s.slotOpened k id a).fills k :=
  congrArg Slot.state (s.setSlot_slot_self k (s.cap.slots[k].opened a))

theorem State.slotOpened_slot (s : State) (k : Fin 8) (id : Nat) (a : RefIndex) :
    (s.slotOpened k id a).cap.slots[k] = s.cap.slots[k].opened a :=
  s.setSlot_slot_self k (s.cap.slots[k].opened a)

/-- The opened slot with `n` positions copied. -/
theorem State.slotOpened_set (s : State) (k : Fin 8) (id : Nat) (a : RefIndex) (sl : Slot) :
    ((s.slotOpened k id a).setSlot k sl).cap = { s.cap with slots := s.cap.slots.set k sl } ∧
    ((s.slotOpened k id a).setSlot k sl).ctl = s.ctl ∧
    ((s.slotOpened k id a).setSlot k sl).now = s.now ∧
    ((s.slotOpened k id a).setSlot k sl).store = { s.store with
      queue := s.store.queue.map fun r => if r.id = id then { r with wave := .present k 8 } else r } := by
  refine ⟨?_, rfl, rfl, rfl⟩
  have twice := congrArg State.cap (s.setSlot_setSlot k (s.cap.slots[k].opened a) sl)
  exact twice

/-- The samples that position `j` of an opened slot holds: those of the ring segment of its
half-cycle (R70; log entry 11). -/
theorem State.behind_sample (s : State) {ahead j : Nat} (small : ahead ≤ 1) (hj : j < 8 + ahead)
    (q : Fin 11) (i : Fin 64) : (s.behind ahead j)[q][i] =
      s.cfe.rings[q][Fin.ofNat 640 (64 * (s.cfe.pos.val / 64 + 10 + j - 8 - ahead) + i.val)] := by
  have place : 64 * (segmentBack s.cfe.pos (ahead + 7 - j)).val + i.val =
      (Fin.ofNat 640 (64 * (s.cfe.pos.val / 64 + 10 + j - 8 - ahead) + i.val)).val := by
    have := i.isLt
    simp only [segmentBack, Fin.val_ofNat]
    omega
  unfold State.behind ringSegment
  simp only [Fin.getElem_fin, Vector.getElem_ofFn, place]

/-- The copies of a request in the opened slot. -/
theorem Slot.opened_putAll (sl : Slot) (a : RefIndex) (f : Nat → HalfCycle) {n : Nat} (h : n ≤ 40) :
    (sl.opened a).putAll f n = { sl with
      state := .filling, holders := 1, first := a - 8, scrubEnd := none, filled := n
      contents := Vector.ofFn fun j : Fin 40 => if j.val < n then f j.val else sl.contents[j] } := by
  rw [Slot.putAll_eq _ f h]
  unfold Slot.opened
  rw [Nat.zero_add]

/-! A request decided. -/

theorem State.captureRequest_opens {s : State} {k : Fin 8} {newest : Refresh} {old : List Refresh}
    (id : Nat) (a : RefIndex) (failed : Option (Fin 9)) (view : s.cap.view = .run)
    (on : s.cap.on = true) (history : s.rms.history = newest :: old)
    (still : ∀ j : Fin 8, s.cap.slots[j].state ≠ .filling) (free : s.cap.slots[k].state = .free)
    (low : ∀ j : Fin 8, j < k → s.cap.slots[j].state ≠ .free) :
    s.captureRequest id a failed = s.openSlot k id a newest.index failed := by
  have noFill : s.fillingSlot = none := List.find?_eq_none.2 fun j _ => by simpa using still j
  have first : s.freeSlot = some k :=
    find?_finRange_eq_some (beq_iff_eq.2 free) fun j hj => by simpa using low j hj
  unfold State.captureRequest
  simp [view, on, history, noFill, first]

/-- Settles O32, by the table of R71 and by the copies of a slot just opened. -/
theorem captureRequestIsDecided : Obligations.CaptureRequestIsDecided := by
  unfold Obligations.CaptureRequestIsDecided
  intro s id a failed s' answer
  refine ⟨(s.captureRequest_frame id a failed).only, fun off => ?_, fun view on =>
    ⟨fun empty => ?_, fun k history found => ⟨fun joins => ?_, fun busy => ?_⟩,
      fun history still => ⟨fun taken => ?_, fun k free low clean => ?_, ?_⟩⟩⟩
  · have refused : s' = s.writeWave id (.absent .captureOff) := by
      refine if_pos ?_
      rw [Bool.or_eq_true, bne_iff_ne, Bool.not_eq_true']
      exact off
    exact ⟨congrArg State.store refused, (congrArg State.cap refused).trans rfl⟩
  · have refused : s' = s.writeWave id (.absent .noSlot) := by
      simp [s', State.captureRequest, view, on, empty]
    exact ⟨congrArg State.store refused, (congrArg State.cap refused).trans rfl⟩
  · obtain ⟨newest, old, head⟩ := List.exists_cons_of_ne_nil history
    have joined : s' = (s.setSlot k { s.cap.slots[k] with
        holders := s.cap.slots[k].holders + 1 }).writeWave id
          (.present k (a - s.cap.slots[k].first).toNat) := by
      show s.captureRequest id a failed = _
      unfold State.captureRequest
      rw [if_neg (by simp [view, on]), head]
      simp only [found]
      exact if_pos joins
    exact ⟨congrArg State.store joined, congrArg State.cap joined⟩
  · obtain ⟨newest, old, head⟩ := List.exists_cons_of_ne_nil history
    have refused : s' = s.writeWave id (.absent .waveBusy) := by
      show s.captureRequest id a failed = _
      unfold State.captureRequest
      rw [if_neg (by simp [view, on]), head]
      simp only [found]
      exact if_neg busy
    exact ⟨congrArg State.store refused, (congrArg State.cap refused).trans rfl⟩
  · obtain ⟨newest, old, head⟩ := List.exists_cons_of_ne_nil history
    have noFill : s.fillingSlot = none := List.find?_eq_none.2 fun j _ => by simpa using still j
    have noFree : s.freeSlot = none := List.find?_eq_none.2 fun j _ => by simpa using taken j
    have refused : s' = s.writeWave id (.absent .noSlot) := by
      simp [s', State.captureRequest, view, on, head, noFill, noFree]
    exact ⟨congrArg State.store refused, (congrArg State.cap refused).trans rfl⟩
  · obtain ⟨newest, old, head⟩ := List.exists_cons_of_ne_nil history
    have opens := State.captureRequest_opens id a failed view on head still free low
    rw [State.openSlot_eq, State.copies_clean (s.slotOpened_fills k id a) _ _ fun j _ => by
      rw [clean]; rfl, s.slotOpened_slot] at opens
    have few : (if (newest.index - a).toNat = 0 then 8 else 9) ≤ 40 := by split <;> decide
    rw [Slot.opened_putAll _ a _ few] at opens
    refine ⟨congrArg State.store opens, (congrArg State.ctl opens).trans rfl,
      (congrArg (fun u => u.cap.on) opens).trans on, ?_⟩
    rw [show s' = _ from opens]
    refine ⟨fun j hj => ?_, ?_⟩
    · refine ((State.setSlot_slot _ k _ j).trans (if_neg hj)).trans ?_
      exact (State.setSlot_slot s k _ j).trans (if_neg hj)
    · rw [State.setSlot_slot_self]
      exact ⟨rfl, rfl, rfl, rfl⟩
  · intro k newest old ahead free low head small index copied
    have opens := State.captureRequest_opens id a failed view on head still free low
    have distance : (newest.index - a).toNat = ahead := by
      rw [index]
      bv_omega
    have copies : (if ahead = 0 then 8 else 9) = 8 + ahead := by split <;> omega
    rw [State.openSlot_eq, distance, copies] at opens
    have filled {n : Nat} (hn : n ≤ 8 + ahead) :
        let sl := (s.cap.slots[k].opened a).putAll (s.behind ahead) n
        copied sl n ∧ sl.state = .filling ∧ sl.holders = 1 ∧ sl.first = a - 8 ∧
          sl.scrubEnd = none := by
      intro sl
      have eq : sl = _ := Slot.opened_putAll s.cap.slots[k] a (s.behind ahead) (by omega : n ≤ 40)
      rw [eq]
      refine ⟨⟨rfl, fun j q i => ?_⟩, rfl, rfl, rfl, rfl⟩
      simp only [Fin.getElem_fin, Vector.getElem_ofFn]
      split
      · next hj => exact s.behind_sample small (by omega) q i
      · rfl
    refine ⟨fun clean => ?_, fun j hj early => ?_⟩
    · have noFail (j : Nat) (hj : j < 8 + ahead) : (failed.map Fin.val == some j) = false := by
        rw [beq_eq_false_iff_ne]
        intro e
        obtain ⟨x, hx, rfl⟩ := Option.map_eq_some_iff.1 e
        have := clean x hx
        omega
      rw [State.copies_clean (s.slotOpened_fills k id a) _ _ noFail, s.slotOpened_slot] at opens
      obtain ⟨cap, ctl, -, store⟩ := s.slotOpened_set k id a
        ((s.cap.slots[k].opened a).putAll (s.behind ahead) (8 + ahead))
      rw [← opens] at cap ctl store
      obtain ⟨copies, fields⟩ := filled le_rfl
      exact ⟨store, ctl, _, cap, copies, fields⟩
    · have failedAt : (failed.map Fin.val == some j.val) = true := by
        rw [hj]
        exact beq_iff_eq.2 rfl
      have noFail (i : Nat) (hi : i < j.val) : (failed.map Fin.val == some i) = false := by
        rw [hj, beq_eq_false_iff_ne]
        intro e
        have : j.val = i := Option.some.inj e
        omega
      rw [State.copies_failed (s.slotOpened_fills k id a) _ _ early noFail failedAt,
        s.slotOpened_slot] at opens
      obtain ⟨cap, ctl, now, store⟩ := s.slotOpened_set k id a
        ((s.cap.slots[k].opened a).putAll (s.behind ahead) (j.val + 1))
      obtain ⟨copies, fields⟩ := filled (n := j.val + 1) (by omega)
      refine ⟨_, _, ?_, now, ctl, store, cap, copies, fields⟩
      show errsInto _ (s.captureRequest id a failed) k
      rw [opens]
      exact State.memoryError_errsInto _ k

end Sys2Proof.Machine
end


section
/-! The fill: the half-cycle just completed is copied into the FILLING slot (R75, R76). -/

namespace Sys2Proof.Machine

theorem State.measured_raises (s : State) : Raises [0, 1, 12] s s.measured := by
  have overruns (u : State) : Raises [0, 1, 12] u u.raiseOverruns := by
    unfold State.raiseOverruns
    split
    · exact .refl _ u
    · next k rest _ =>
      have second (v : State) : Raises [0, 1, 12] v (v.raise .overrun k.val) :=
        v.raise_raises .overrun k.val (by decide)
      exact .ite ((u.raise_raises .doubleOverrun k.val (by decide)).trans (second _)) (second u)
  have track (u : State) : Raises [0, 1, 12] u u.measurePosition := by
    unfold State.measurePosition State.raiseFreeRun
    dsimp only
    exact .ite ((State.raise_raises _ .freeRun 0 (by decide)).after rfl) (.of_eq rfl)
  exact ((overruns (s.elapse s.closeMoment)).after rfl).trans (track _)

theorem State.emits_iff (s : State) :
    (endsSegment s.cfe.pos && s.measured.rms.fill == 128) = true ↔ s.emitsNext := by
  rw [Bool.and_eq_true, endsSegment_iff, beq_iff_eq, State.measured_rms]
  refine and_congr_right fun _ => ?_
  show min (s.rms.fill + 1) 128 = 128 ↔ _
  omega

/-- A close that brings no HALT leaves the capture unit and the store to the fill alone. -/
theorem exec_positionClose_fill {s : State} (runs : ¬s.haltsNext) (checks : CloseChecks) :
    ∃ u : State, exec (.positionClose checks) s =
        .next (if s.emitsNext then u.fillCopy s.rms.nextIndex checks.fails else u) ∧
      u.cap = s.cap ∧ u.store = s.store ∧
      u.ctl.causes[(3 : Fin 13)] = s.ctl.causes[(3 : Fin 13)] := by
  have noHalt : s.halts = false := Bool.eq_false_iff.2 fun h => runs (s.halts_iff.1 h)
  have measured := s.measured_frame
  have locked := s.measured.handLockedCycle_frame (s.measured.ctl.state == .run) s.closedCycle
  have ended := (s.measured.handLockedCycle (s.measured.ctl.state == .run)
    s.closedCycle).halfCycleEnd_frame
  have causes : s.measured.ctl.causes[(3 : Fin 13)] = s.ctl.causes[(3 : Fin 13)] :=
    s.measured_raises 3 (by decide)
  have index : s.measured.rms.nextIndex = s.rms.nextIndex := by rw [State.measured_rms]; rfl
  generalize hu : s.measured.handLockedCycle (s.measured.ctl.state == .run) s.closedCycle = v
    at locked ended
  have cap : v.cap = s.cap := (locked.only.1 .cap (by decide)).trans (measured.only.1 .cap (by decide))
  have store : v.store = s.store :=
    (locked.only.1 .store (by decide)).trans (measured.only.1 .store (by decide))
  have ctl : v.ctl.causes[(3 : Fin 13)] = s.ctl.causes[(3 : Fin 13)] :=
    (congrArg (fun c : Controller => c.causes[(3 : Fin 13)])
      (locked.only.1 .ctl (by decide))).trans causes
  have emits := s.emits_iff
  have events : s.eventsOf checks s.measured =
      if endsSegment s.cfe.pos then
        if endsSegment s.cfe.pos && s.measured.rms.fill == 128 then
          v.halfCycleEnd.fillCopy s.measured.rms.nextIndex checks.fails else v.halfCycleEnd
      else v := by rw [← hu]; rfl
  rw [exec_positionClose_of_runs noHalt, events, index]
  by_cases ends : endsSegment s.cfe.pos = true
  · refine ⟨v.halfCycleEnd, ?_, (ended.only.1 .cap (by decide)).trans cap,
      (ended.only.1 .store (by decide)).trans store,
      (congrArg (fun c : Controller => c.causes[(3 : Fin 13)])
        (ended.only.1 .ctl (by decide))).trans ctl⟩
    rw [if_pos ends]
    exact congrArg Host.Outcome.next (if_congr emits rfl rfl)
  · refine ⟨v, ?_, cap, store, ctl⟩
    rw [if_neg ends, if_neg fun e => ends ((endsSegment_iff _).2 e.1)]

/-- The segment just completed, seen from the position after it (R75). -/
theorem ringSegment_completed {rings : Vector (Vector Int 640) 11} {p : Fin 640}
    (ends : p.val % 64 = 63) (q : Fin 11) (i : Fin 64) :
    (ringSegment rings (segmentBack (p + 1) 0))[q][i] =
      rings[q][Fin.ofNat 640 (64 * (p.val / 64) + i.val)] := by
  have next : (p + 1).val = (p.val + 1) % 640 := Fin.val_add _ _
  have place : 64 * (segmentBack (p + 1) 0).val + i.val =
      (Fin.ofNat 640 (64 * (p.val / 64) + i.val)).val := by
    have := i.isLt
    have := p.isLt
    simp only [segmentBack, Fin.val_ofNat, next]
    omega
  unfold ringSegment
  simp only [Fin.getElem_fin, Vector.getElem_ofFn, place]

/-- Whether the fill of slot `sl` takes the half-cycle at which refresh `m` is emitted (R75). -/
def Slot.takes (sl : Slot) (m : RefIndex) : Prop :=
  9 ≤ (m - sl.first).toNat ∧ (m - sl.first).toNat ≤ 40 ∧ sl.filled < (m - sl.first).toNat

theorem State.fillCopy_none {s : State} (h : s.fillingSlot = none) (m : RefIndex) (fails : Bool) :
    s.fillCopy m fails = s := by
  unfold State.fillCopy
  rw [h]

theorem State.fillCopy_some {s : State} {k : Fin 8} (h : s.fillingSlot = some k) (m : RefIndex)
    (fails : Bool) :
    (¬s.cap.slots[k].takes m → s.fillCopy m fails = s) ∧
    (s.cap.slots[k].takes m → s.fillCopy m fails =
      let u := s.copyPosition k ((m - s.cap.slots[k].first).toNat - 1)
        (ringSegment s.cfe.rings (segmentBack s.cfe.pos 0)) fails
      if u.cap.slots[k].filled = 40 then u.stopFill else u) := by
  unfold State.fillCopy
  rw [h]
  exact ⟨fun no => if_neg no, fun yes => if_pos yes⟩

/-- A slot that keeps its state leaves the FILLING slot as it is. -/
theorem State.setSlot_fillingSlot {s : State} {k : Fin 8} (h : s.fillingSlot = some k) {x : Slot}
    (hx : x.state = .filling) : (s.setSlot k x).fillingSlot = some k := by
  rw [← h]
  unfold State.fillingSlot
  refine congrArg (fun p => (List.finRange 8).find? p) (funext fun j => ?_)
  rw [State.setSlot_slot]
  by_cases e : j = k
  · subst e
    rw [if_pos rfl, hx, show s.cap.slots[j].state = .filling from State.fillingSlot_state h]
  · rw [if_neg e]

/-- The slot with the half-cycle at position `j` copied. -/
theorem State.fillCopy_passes {s : State} {k : Fin 8} (h : s.fillingSlot = some k) {m : RefIndex}
    (takes : s.cap.slots[k].takes m) :
    (s.fillCopy m false).cap.on = s.cap.on ∧
    (∀ j : Fin 8, j ≠ k → (s.fillCopy m false).cap.slots[j] = s.cap.slots[j]) ∧
    (s.fillCopy m false).cap.slots[k] = { s.cap.slots[k].put ((m - s.cap.slots[k].first).toNat - 1)
        (ringSegment s.cfe.rings (segmentBack s.cfe.pos 0)) with
      state := if s.cap.slots[k].filled = 39 then .held else .filling } := by
  have fills := State.fillingSlot_state h
  have inside : (m - s.cap.slots[k].first).toNat - 1 < 40 := by have := takes.2.1; omega
  have put := s.cap.slots[k].put_eq inside (ringSegment s.cfe.rings (segmentBack s.cfe.pos 0))
  have copied := State.copyPosition_of_filling (s := s) fills ((m - s.cap.slots[k].first).toNat - 1)
    (ringSegment s.cfe.rings (segmentBack s.cfe.pos 0)) false
  have fill := (State.fillCopy_some h m false).2 takes
  generalize s.cap.slots[k].put ((m - s.cap.slots[k].first).toNat - 1)
    (ringSegment s.cfe.rings (segmentBack s.cfe.pos 0)) = x at put copied
  have state : x.state = .filling := by rw [put]; exact fills
  have full : (s.setSlot k x).cap.slots[k].filled = 40 ↔ s.cap.slots[k].filled = 39 := by
    rw [State.setSlot_slot_self, put]
    exact Nat.succ_inj
  have result : s.fillCopy m false =
      if s.cap.slots[k].filled = 39 then (s.setSlot k x).stopFill else s.setSlot k x := by
    rw [fill, copied]
    exact if_congr full rfl rfl
  by_cases last : s.cap.slots[k].filled = 39
  · rw [result.trans (if_pos last)]
    unfold State.stopFill
    rw [State.setSlot_fillingSlot h state]
    simp only [State.judgeAll_cap, State.setSlot_slot_self, State.setSlot_setSlot]
    exact ⟨rfl, fun j hj => (s.setSlot_slot k _ j).trans (if_neg hj), by rw [if_pos last]⟩
  · rw [result.trans (if_neg last), if_neg last]
    refine ⟨rfl, fun j hj => (s.setSlot_slot k _ j).trans (if_neg hj), ?_⟩
    rw [State.setSlot_slot_self, ← state]

/-- A copy that fails its check, where no other slot fills: the copy is made, and the error ends the
fill (R78, R79, R81). -/
theorem State.fillCopy_errs {s : State} {k : Fin 8} (one : s.OneFills) (h : s.fillingSlot = some k)
    {m : RefIndex} (takes : s.cap.slots[k].takes m) :
    s.fillCopy m true = (s.setSlot k (s.cap.slots[k].put ((m - s.cap.slots[k].first).toNat - 1)
      (ringSegment s.cfe.rings (segmentBack s.cfe.pos 0)))).memoryError k := by
  have fills := State.fillingSlot_state h
  have copied := State.copyPosition_of_filling (s := s) fills ((m - s.cap.slots[k].first).toNat - 1)
    (ringSegment s.cfe.rings (segmentBack s.cfe.pos 0)) true
  rw [((State.fillCopy_some h m true).2 takes), copied]
  generalize s.cap.slots[k].put ((m - s.cap.slots[k].first).toNat - 1)
    (ringSegment s.cfe.rings (segmentBack s.cfe.pos 0)) = x
  have still : ((s.setSlot k x).memoryError k).fillingSlot = none := by
    refine List.find?_eq_none.2 fun j _ fillsJ => ?_
    have fillsJ : ((s.setSlot k x).memoryError k).fills j := beq_iff_eq.1 fillsJ
    have other : j ≠ k := by
      rintro rfl
      exact State.memoryError_ends_fill _ j fillsJ
    have before := (State.memoryError_subsides (s.setSlot k x) k).fills j fillsJ
    unfold State.fills at before
    rw [State.setSlot_slot, if_neg other] at before
    exact other (one j k before fills)
  simp only [if_true]
  unfold State.stopFill
  rw [still]
  exact ite_self _

/-- Settles O33, by the FILLING slot and the refresh that the close emits. -/
theorem fillCopiesTheHalfCycle : Obligations.FillCopiesTheHalfCycle := by
  unfold Obligations.FillCopiesTheHalfCycle
  intro checks s runs
  obtain ⟨u, next, cap, store, causes⟩ := exec_positionClose_fill runs checks
  have slots : u.fillingSlot = s.fillingSlot := by
    unfold State.fillingSlot
    rw [cap]
  refine ⟨_, next, fun untouched => ?_, fun k emits found => ?_⟩
  · have same : (if s.emitsNext then u.fillCopy s.rms.nextIndex checks.fails else u) = u := by
      split
      · next emits => exact State.fillCopy_none (slots.trans (untouched.resolve_left (not_not.2 emits))) _ _
      · rfl
    rw [same]
    exact ⟨cap, store⟩
  intro sl off copies
  rw [if_pos emits] at next ⊢
  have found : u.fillingSlot = some k := slots.trans found
  have slot : u.cap.slots[k] = sl := by rw [cap]
  have takes : u.cap.slots[k].takes s.rms.nextIndex ↔ copies := by
    rw [slot]
    exact Iff.rfl
  have time : (u.fillCopy s.rms.nextIndex checks.fails).now = u.now :=
    congrArg (fun n => BitVec.ofNat 48 (n / Config.ticksPerMs))
      (u.fillCopy_frame s.rms.nextIndex checks.fails).steady.time
  have cfe : (u.fillCopy s.rms.nextIndex checks.fails).cfe = u.cfe :=
    (u.fillCopy_frame s.rms.nextIndex checks.fails).only.1 .cfe (by decide)
  have pos : u.cfe.pos = s.cfe.pos + 1 := by
    obtain ⟨s', next', -, cfe', -⟩ := exec_positionClose_frontEnd checks s
    obtain rfl := Host.Outcome.next.inj (next.symm.trans next')
    rw [← cfe, cfe']
    exact s.cfe.after_pos s.ctl.straps _
  have written (j : Fin 40) (q : Fin 11) (i : Fin 64) (inside : off - 1 < 40) (positive : 0 < off) :
      (sl.put (off - 1) (ringSegment u.cfe.rings (segmentBack u.cfe.pos 0))).contents[j][q][i] =
        if j.val + 1 = off then u.cfe.rings[q][Fin.ofNat 640 (64 * (s.cfe.pos.val / 64) + i.val)]
        else sl.contents[j][q][i] := by
    rw [sl.put_eq inside]
    by_cases hj : j.val + 1 = off
    · have here : (sl.contents.set (off - 1)
          (ringSegment u.cfe.rings (segmentBack u.cfe.pos 0)))[j] =
            ringSegment u.cfe.rings (segmentBack u.cfe.pos 0) := by
        rw [Fin.getElem_fin, Vector.getElem_set, if_pos (by omega)]
      rw [if_pos hj, here, pos]
      exact ringSegment_completed emits.1 q i
    · have there : (sl.contents.set (off - 1)
          (ringSegment u.cfe.rings (segmentBack u.cfe.pos 0)))[j] = sl.contents[j] := by
        rw [Fin.getElem_fin, Vector.getElem_set, if_neg (by omega)]
        rfl
      rw [if_neg hj, there]
  refine ⟨fun no => ?_, fun yes passes => ?_, fun yes fails one => ?_⟩
  · rw [(State.fillCopy_some found _ _).1 fun h => no (takes.1 h)]
    exact cap
  · have inside : off - 1 < 40 := by have := yes.2.1; omega
    have positive : 0 < off := by have := yes.1; omega
    rw [passes] at cfe ⊢
    obtain ⟨on, others, own⟩ := State.fillCopy_passes found (takes.2 yes)
    rw [slot] at own
    rw [own, cfe]
    have put := sl.put_eq inside (ringSegment u.cfe.rings (segmentBack u.cfe.pos 0))
    refine ⟨on.trans (by rw [cap]), fun j hj => (others j hj).trans (by rw [cap]), ?_, ?_, ?_, ?_, rfl,
      fun j q i => written j q i inside positive⟩
    · exact (congrArg Slot.filled put).trans rfl
    · exact (congrArg Slot.holders put).trans rfl
    · exact (congrArg Slot.first put).trans rfl
    · exact (congrArg Slot.scrubEnd put).trans rfl
  · have inside : off - 1 < 40 := by have := yes.2.1; omega
    have positive : 0 < off := by have := yes.1; omega
    have one' : u.OneFills := fun i j hi hj => State.fillings_le_one.1 one i j
      (by unfold State.fills at hi ⊢; rw [← cap]; exact hi)
      (by unfold State.fills at hj ⊢; rw [← cap]; exact hj)
    rw [fails] at time cfe ⊢
    have errs := State.fillCopy_errs one' found (takes.2 yes)
    rw [slot] at errs
    have put := sl.put_eq inside (ringSegment u.cfe.rings (segmentBack u.cfe.pos 0))
    rw [cfe]
    refine ⟨u.setSlot k (sl.put (off - 1) (ringSegment u.cfe.rings (segmentBack u.cfe.pos 0))), _,
      ?_, ?_, store, causes, ?_, ?_, fun j q i => written j q i inside positive⟩
    · rw [show u.fillCopy s.rms.nextIndex true = _ from errs]
      exact State.memoryError_errsInto _ k
    · exact time.symm
    · unfold State.setSlot
      rw [cap]
      rfl
    · rw [put]

end Sys2Proof.Machine
end


section
/-! The transmit side of the notice link: the reports of drops, the frames handed over, and the
attempts (R102 to R110, R132). -/

namespace Sys2Proof.Machine

/-! The report of a drop. -/

theorem State.dropReport_corr (s : State) (edge : Ms) (id : Nat) :
    (s.dropReport edge id).corr = { s.corr with
      slots := Vector.ofFn fun k => s.corr.slots[k].map fun c =>
        if c.edge = edge then { c with unsent := true } else c } := by
  unfold State.dropReport
  split <;> rfl

/-- The report of a drop sets UNSENT on the context of that edge (R132). -/
theorem State.dropReport_context (s : State) (edge : Ms) (id : Nat) {k : Fin 4} {c : Context}
    (h : s.corr.slots[k] = some c) :
    (s.dropReport edge id).corr.slots[k] = some { c with unsent := c.unsent || (c.edge == edge) } := by
  rw [State.dropReport_corr]
  refine (Vector.getElem_ofFn k.isLt).trans ?_
  rw [show s.corr.slots[(⟨k.val, k.isLt⟩ : Fin 4)] = some c from h, Option.map_some]
  by_cases e : c.edge = edge
  · simp [e]
  · rw [if_neg e, show (c.edge == edge) = false from beq_eq_false_iff_ne.2 e, Bool.or_false]

/-- The report of a drop sets UNSENT on the record that it names (R132). -/
theorem State.dropReport_store (s : State) (edge : Ms) (id : Nat) :
    (s.dropReport edge id).store = { s.store with queue := s.store.queue.map fun r =>
      if id ≠ 0 ∧ r.id = id then { r with flags := { r.flags with unsent := true } } else r } := by
  unfold State.dropReport
  by_cases h : id = 0
  · simp [h]
  · simp only [h, if_false, ne_eq, not_false_eq_true, true_and]
    rfl

theorem State.reportFrame_of_withdrawn {s : State} {f : QueuedFrame} (h : f.isWithdrawn = true) :
    s.reportFrame f = s := by
  cases f with
  | present => rfl
  | verdict v => exact if_pos h

theorem State.reportFrame_of_queued {s : State} {v : QueuedVerdict} (h : v.withdrawn = false) :
    s.reportFrame (.verdict v) = s.dropReport v.edge v.recordId := if_neg (by simp [h])

/-! Frames handed over. -/

theorem NoticeLink.enqueue_tx (l : NoticeLink) (f : QueuedFrame) :
    (l.tx ≠ .idle → (l.enqueue f).tx = l.tx) ∧
    (l.tx = .idle → l.view = .run → (l.enqueue f).tx = .waiting) := by
  refine ⟨fun busy => if_neg busy, fun idle run => (if_pos idle).trans (if_pos ⟨run, ?_⟩)⟩
  simp

theorem NoticeLink.handPresent_fields (l : NoticeLink) :
    l.handPresent.queue = (if l.queue.length < 8 then l.queue ++ [.present] else l.queue) ∧
    (l.tx ≠ .idle → l.handPresent.tx = l.tx) ∧ l.handPresent.attempts = l.attempts ∧
    l.handPresent.peers = l.peers := by
  unfold NoticeLink.handPresent
  by_cases h : l.queue.length < Config.queueSize
  · rw [if_pos h, if_pos (show l.queue.length < 8 from h)]
    exact ⟨rfl, (l.enqueue_tx .present).1, rfl, rfl⟩
  · rw [if_neg h, if_neg (show ¬l.queue.length < 8 from h)]
    exact ⟨rfl, fun _ => rfl, rfl, rfl⟩

theorem idleFor_some {time t0 ticks : Nat} :
    idleFor time (some t0) ticks = true ↔ t0 + ticks ≤ time := decide_eq_true_iff

/-- Settles O37, by the PRESENT period and by the idle gap. -/
theorem presentsAreHandedAndAttemptsBegin : Obligations.PresentsAreHandedAndAttemptsBegin := by
  unfold Obligations.PresentsAreHandedAndAttemptsBegin
  refine ⟨fun t s x run expiry reached => ?_, fun t t0 s head rest queue run waiting idle gap => ?_⟩
  · have served : exec (.presentPeriodExpiry t) s =
        .next (((s.elapse t).withLink s.link.handPresent).withCtl
          { s.ctl with presentExpiry := some (x + msOf 60000) }) := by
      show execPresentPeriodExpiry t s = _
      simp [execPresentPeriodExpiry, expiry, run, reached]
    obtain ⟨queue, tx, attempts, peers⟩ := s.link.handPresent_fields
    exact ⟨_, served, (commandsKeepWhatIsNotTheirs _ _ _ served).1, rfl, queue, tx, attempts, peers⟩
  · have ready : (s.link.view == .run && s.link.tx == .waiting &&
        idleFor (s.elapse t).time s.link.idleFrom
          (attemptGap s.ctl.straps.addr s.link.attempts * Config.ticksPerBit)) = true := by
      rw [idle, Bool.and_eq_true, idleFor_some]
      refine ⟨by simp [run, waiting], ?_⟩
      rw [Nat.mul_comm]
      exact gap
    show execAttemptStart t s = _
    simp only [execAttemptStart, State.elapse_link, queue]
    refine congrArg Host.Outcome.next ((if_pos ready).trans ?_)
    cases head <;> rfl

/-! Attempts. -/

theorem restingTx_eq (view : StationState) (queue : List QueuedFrame) :
    restingTx view queue = if queue ≠ [] ∧ view = .run then .waiting else .idle :=
  if_congr and_comm rfl rfl

theorem restingTx_ne_sending (view : StationState) (queue : List QueuedFrame) :
    restingTx view queue ≠ .sending := by
  unfold restingTx
  split <;> simp

/-- A station whose transmitter is not SENDING is on the line while it receives. -/
theorem NoticeLink.onLine_of_not_sending {l : NoticeLink} (h : l.tx ≠ .sending) :
    l.onLine = true ↔ l.rx = .receiving ∨ l.rx = .trailing := by
  unfold NoticeLink.onLine
  simp [h]

/-- A whole frame sent leaves the queue, and the line is idle from its end (R109). -/
def NoticeLink.sent (l : NoticeLink) (time : Nat) : NoticeLink :=
  { (l.popHead.seeFrameEnd (l.txStart + l.frameTicks)).leaveByte time with
    rxOwn := l.rx == .receiving || l.rx == .trailing }

theorem NoticeLink.sent_idleFrom (l : NoticeLink) (time : Nat) :
    (l.sent time).idleFrom = some (max (l.highFrom.getD (l.txStart + l.frameTicks))
      (if l.rx = .receiving ∨ l.rx = .trailing then max l.lastStop (l.txStart + l.frameTicks)
        else min (max l.lastStop (l.txStart + l.frameTicks)) time)) := by
  have line := NoticeLink.onLine_of_not_sending (l := l.popHead.seeFrameEnd (l.txStart + l.frameTicks))
    (restingTx_ne_sending _ _)
  refine congrArg some ((max_comm _ _).trans (congrArg₂ max rfl ?_))
  exact if_congr line rfl rfl

theorem exec_attemptSuccess_of_sent {t : Nat} {s : State} {head : QueuedFrame}
    {rest : List QueuedFrame} (sending : s.link.tx = .sending) (queue : s.link.queue = head :: rest) :
    exec (.attemptSuccess t) s = .next
      (if s.link.txStart + 800 * s.link.txBytes.length ≤ max s.time t then
        (s.elapse t).withLink (s.link.sent (s.elapse t).time) else s.elapse t) := by
  refine congrArg Host.Outcome.next (if_congr ?_ rfl rfl)
  simp only [State.elapse_link, sending, queue, beq_self_eq_true, List.isEmpty_cons, Bool.not_false,
    Bool.true_and, NoticeLink.sentFor_iff]
  exact Iff.rfl

theorem exec_readbackMismatch_of_sending {t : Nat} {s : State} {head : QueuedFrame}
    {rest : List QueuedFrame} (sending : s.link.tx = .sending) (queue : s.link.queue = head :: rest) :
    exec (.readbackMismatch t) s = .next
      (if s.link.txStart + 200 ≤ max s.time t then
        if head.isWithdrawn then (s.elapse t).withLink (s.link.popHead.leaveByte (s.elapse t).time)
        else if s.link.attempts + 1 ≥ 8 then
          ((s.elapse t).reportFrame head).withLink (s.link.popHead.leaveByte (s.elapse t).time)
        else (s.elapse t).withLink (({ s.link with
          attempts := s.link.attempts + 1, txBytes := [], tx := .waiting } : NoticeLink).leaveByte
            (s.elapse t).time)
      else s.elapse t) := by
  show execReadbackMismatch t s = _
  simp only [execReadbackMismatch, State.elapse_link, queue]
  refine congrArg Host.Outcome.next (if_congr ?_ rfl rfl)
  rw [sending, beq_self_eq_true, Bool.true_and, NoticeLink.sentFor_iff]
  exact Iff.rfl

/-- Settles O38, by the moment, and by the head frame and the attempt count. -/
theorem attemptEnds : Obligations.AttemptEnds := by
  unfold Obligations.AttemptEnds
  refine ⟨fun t s head rest sending queue => ?_, fun t s head rest sending queue => ?_⟩
  · intro fin
    have served := exec_attemptSuccess_of_sent (t := t) sending queue
    refine ⟨fun early => ?_, fun done => ?_⟩
    · rw [served, if_neg (not_le.2 early)]
    · rw [if_pos done] at served
      have tail : s.link.queue.tail = rest := by rw [queue]; rfl
      refine ⟨_, served, (commandsKeepWhatIsNotTheirs _ _ _ served).1, tail, rfl, ?_,
        s.link.sent_idleFrom _, rfl, rfl, ?_⟩
      · refine (restingTx_eq _ _).trans ?_
        rw [tail]
      · show (s.link.rx == .receiving || s.link.rx == .trailing) = true ↔ _
        rw [Bool.or_eq_true, beq_iff_eq, beq_iff_eq]
  · have served := exec_readbackMismatch_of_sending (t := t) sending queue
    refine ⟨fun early => by rw [served, if_neg (not_le.2 early)], fun late => ?_⟩
    rw [if_pos late] at served
    have tail : s.link.queue.tail = rest := by rw [queue]; rfl
    have resting : restingTx s.link.view s.link.queue.tail =
        if rest ≠ [] ∧ s.link.view = .run then .waiting else .idle := by
      rw [restingTx_eq, tail]
    refine ⟨_, served, (commandsKeepWhatIsNotTheirs _ _ _ served).1, fun queued few => ?_,
      fun leaves => ?_, fun withdrawn => ?_, fun v hv queued many => ?_, fun hp many => ?_⟩
    · rw [if_neg (by simp [queued]), if_neg (by omega)]
      refine ⟨?_, rfl, rfl⟩
      have line := NoticeLink.onLine_of_not_sending (l := { s.link with
        attempts := s.link.attempts + 1, txBytes := [], tx := .waiting }) (by simp)
      exact congrArg (fun n => { s.link with
        attempts := s.link.attempts + 1, txBytes := [], tx := .waiting, lastStop := n })
        (if_congr line rfl rfl)
    · split
      · exact ⟨resting, rfl, rfl, rfl⟩
      · next queued =>
        rw [if_pos (by have := leaves.resolve_left queued; omega)]
        exact ⟨resting, rfl, rfl, rfl⟩
    · rw [if_pos withdrawn]
      exact ⟨tail, rfl, rfl, rfl⟩
    · subst hv
      rw [if_neg (show ¬(QueuedFrame.verdict v).isWithdrawn = true by
        simp [QueuedFrame.isWithdrawn, queued]), if_pos (by omega), State.reportFrame_of_queued queued]
      refine ⟨tail, rfl, fun k c hc => State.dropReport_context _ v.edge v.recordId hc,
        fun named r hr hid => ⟨{ r with flags := { r.flags with unsent := true } }, ?_, rfl, rfl, rfl⟩⟩
      rw [State.withLink_store, State.dropReport_store]
      exact List.mem_map.2 ⟨r, hr, if_pos ⟨named, hid⟩⟩
    · subst hp
      rw [if_neg (show ¬QueuedFrame.present.isWithdrawn = true by simp [QueuedFrame.isWithdrawn]),
        if_pos (by omega)]
      exact ⟨tail, rfl, rfl, rfl⟩

/-! A VERDICT handed over. -/

/-- The oldest PRESENT that is not being sent (R104). -/
theorem NoticeLink.oldestPresent_eq_some {l : NoticeLink} {i : Nat} :
    l.oldestPresent = some i ↔
      (l.queue[i]? = some .present ∧ ¬(i = 0 ∧ l.tx = .sending)) ∧
      ∀ j, j < i → ¬(l.queue[j]? = some .present ∧ ¬(j = 0 ∧ l.tx = .sending)) := by
  have mayGo (j : Nat) : (l.queue[j]? == some .present && !(j == 0 && l.tx == .sending)) = true ↔
      l.queue[j]? = some .present ∧ ¬(j = 0 ∧ l.tx = .sending) := by
    simp only [Bool.and_eq_true, beq_iff_eq, Bool.not_eq_true', Bool.and_eq_false_iff,
      beq_eq_false_iff_ne, ne_eq, not_and_or]
  unfold NoticeLink.oldestPresent
  rw [List.find?_range_eq_some, mayGo, List.mem_range]
  simp only [Bool.not_eq_true', ← Bool.not_eq_true, mayGo]
  exact ⟨fun h => ⟨h.1, h.2.2⟩, fun h => ⟨h.1, (List.getElem?_eq_some_iff.1 h.1.1).1, h.2⟩⟩

theorem NoticeLink.removeAt_queue (l : NoticeLink) (i : Nat) :
    (l.removeAt i).queue = l.queue.eraseIdx i ∧
    (l.removeAt i).attempts = if i = 0 then 0 else l.attempts := by
  unfold NoticeLink.removeAt
  by_cases h : i = 0
  · subst h
    simp [NoticeLink.popHead]
  · simp [h]

/-- Settles O39, by the room in the queue and the PRESENT that may go. -/
theorem verdictIsQueuedOrDropped : Obligations.VerdictIsQueuedOrDropped := by
  unfold Obligations.VerdictIsQueuedOrDropped
  intro s v s' mayGo dropped
  have drop (h : s' = s.dropReport v.edge v.recordId) : dropped := by
    have link : (s.dropReport v.edge v.recordId).link = s.link := by
      unfold State.dropReport
      split <;> rfl
    refine ⟨?_, fun k c hc => ?_, ?_⟩
    · rw [h, link]
    · rw [h]
      exact s.dropReport_context v.edge v.recordId hc
    · rw [h]
      exact s.dropReport_store v.edge v.recordId
  refine ⟨(s.handVerdict_frame v).only, fun stopped => drop (if_pos (bne_iff_ne.2 stopped)),
    fun run => ⟨fun room => ?_, fun full none => drop ?_, fun i full go first => ?_⟩⟩
  all_goals have open' : ¬(s.link.view != .run) = true := by simp [run]
  · have queued : s' = s.withLink (s.link.enqueue (.verdict v)) :=
      (if_neg open').trans (if_pos room)
    obtain ⟨busy, idle⟩ := s.link.enqueue_tx (.verdict v)
    rw [queued]
    exact ⟨rfl, rfl, rfl, rfl, busy, fun h => idle h run⟩
  · have noneGoes : s.link.oldestPresent = Option.none :=
      Option.eq_none_iff_forall_ne_some.2 fun i found =>
        none i (NoticeLink.oldestPresent_eq_some.1 found).1
    refine (if_neg open').trans ((if_neg (not_lt.2 full)).trans ?_)
    rw [noneGoes]
  · have found : s.link.oldestPresent = some i := NoticeLink.oldestPresent_eq_some.2 ⟨go, first⟩
    have queued : s' = s.withLink ((s.link.removeAt i).enqueue (.verdict v)) := by
      refine (if_neg open').trans ((if_neg (not_lt.2 full)).trans ?_)
      rw [found]
    obtain ⟨queue, attempts⟩ := s.link.removeAt_queue i
    rw [queued]
    exact ⟨congrArg (· ++ [QueuedFrame.verdict v]) queue, attempts, rfl, rfl⟩

end Sys2Proof.Machine
end


section
/-! The line of NOTICE: only a station that sends or receives waits for the end of a stop bit, and
what a falling edge makes of the receiver (R100, R111). -/

namespace Sys2Proof.Machine

variable {s u : State} {l x : NoticeLink} {time : Nat}

/-- Off the line no stop bit is awaited past `time` (R100). -/
def NoticeLink.Awaits (l : NoticeLink) (time : Nat) : Prop := l.onLine = false → l.lastStop ≤ time

namespace NoticeLink.Awaits

theorem of_same (h : l.Awaits time) (line : x.onLine = l.onLine) (stop : x.lastStop = l.lastStop) :
    x.Awaits time := fun off => stop ▸ h (line ▸ off)

theorem later (h : l.Awaits time) {t : Nat} (le : time ≤ t) : l.Awaits t := fun off => (h off).trans le

theorem leaveByte (l : NoticeLink) (time : Nat) : (l.leaveByte time).Awaits time := fun off =>
  l.leaveByte_awaitsNone time (l.leaveByte_onLine time ▸ off)

/-- A transmitter that stays SENDING, or stays out of it, keeps the station on the line or off. -/
theorem onLine_of_sending {l x : NoticeLink} (tx : x.tx = .sending ↔ l.tx = .sending) (rx : x.rx = l.rx) :
    x.onLine = l.onLine := by
  have same : (x.tx == .sending) = (l.tx == .sending) := by
    rw [Bool.eq_iff_iff, beq_iff_eq, beq_iff_eq]
    exact tx
  unfold NoticeLink.onLine
  rw [rx, same]

theorem enqueue (h : l.Awaits time) (f : QueuedFrame) : (l.enqueue f).Awaits time := by
  refine h.of_same (onLine_of_sending ?_ rfl) rfl
  by_cases idle : l.tx = .idle
  · have rests : (l.enqueue f).tx = restingTx l.view (l.queue ++ [f]) := if_pos idle
    rw [rests, idle]
    exact ⟨fun e => absurd e (restingTx_ne_sending _ _), fun e => absurd e (by simp)⟩
  · rw [(l.enqueue_tx f).1 idle]

theorem handPresent (h : l.Awaits time) : l.handPresent.Awaits time := by
  unfold NoticeLink.handPresent
  split
  · exact h.enqueue _
  · exact h

/-- A frame that is not being sent leaves the queue. -/
theorem removeAt (h : l.Awaits time) {i : Nat} (still : ¬(i = 0 ∧ l.tx = .sending)) :
    (l.removeAt i).Awaits time := by
  unfold NoticeLink.removeAt
  split
  · next head =>
    refine h.of_same (onLine_of_sending ⟨fun e => ?_, fun e => absurd ⟨head, e⟩ still⟩ rfl) rfl
    exact absurd e (restingTx_ne_sending _ _)
  · exact h.of_same rfl rfl

/-- A start bit leaves the awaited stop bit alone, and no receiver leaves the line at it. -/
theorem takeStart_line (l : NoticeLink) (edge : Nat) (now : Ms) (b : Byte) (low : Bool) :
    (l.takeStart edge now b low).lastStop = l.lastStop ∧
    (l.takeStart edge now b low).tx = l.tx ∧
    ((l.takeStart edge now b low).onLine = true ↔ l.tx = .sending ∨ l.rx ≠ .recovering) := by
  have took (m : NoticeLink) : (m.takeByte edge b low).onLine = true := by
    have rx : (m.takeByte edge b low).rx = .trailing ∨ (m.takeByte edge b low).rx = .receiving :=
      ite_eq_or_eq _ _ _
    unfold NoticeLink.onLine
    rcases rx with rx | rx <;> simp [rx]
  unfold NoticeLink.takeStart
  split
  · next idle => exact ⟨rfl, rfl, fun _ => .inr (by simp [idle]), fun _ => took _⟩
  · next receiving =>
    split
    · exact ⟨rfl, rfl, fun _ => .inr (by simp [receiving]), fun _ => took _⟩
    · exact ⟨rfl, rfl, fun _ => .inr (by simp [receiving]), fun _ => by simp [NoticeLink.onLine, receiving]⟩
  · next trailing =>
    split <;>
    exact ⟨rfl, rfl, fun _ => .inr (by simp [trailing]), fun _ => by simp [NoticeLink.onLine, trailing]⟩
  · next recovering =>
    refine ⟨rfl, rfl, fun on => .inl ?_, fun waits => ?_⟩
    · simpa [NoticeLink.onLine, recovering] using on
    · simp [NoticeLink.onLine, waits.resolve_right (by simp [recovering])]

theorem seeEdge (h : l.Awaits time) (e : EdgeSample) : (l.seeEdge time e).Awaits time := by
  intro off
  have quiet : l.onLine = false := off
  have passed := h quiet
  cases e <;> simpa [NoticeLink.seeEdge, quiet] using passed

theorem takeEdge (h : l.Awaits time) (now : Ms) (e : EdgeSample) : (l.takeEdge time now e).Awaits time := by
  unfold NoticeLink.takeEdge
  split
  · exact h.seeEdge e
  · next b low _ =>
    obtain ⟨stop, tx, line⟩ := takeStart_line l time now b low
    refine NoticeLink.Awaits.seeEdge (fun off => ?_) e
    rw [stop]
    refine h (Bool.eq_false_iff.2 fun on => ?_)
    refine absurd (line.2 ?_) (by simp [off])
    simp only [NoticeLink.onLine, Bool.or_eq_true, beq_iff_eq] at on
    rcases on with (sending | receiving) | trailing
    · exact .inl sending
    · exact .inr (by simp [receiving])
    · exact .inr (by simp [trailing])

end NoticeLink.Awaits

/-! The state. -/

/-- The invariant in a state whose clock stands at `time`. -/
structure Waits (time : Nat) (s : State) : Prop where
  clock : s.time = time
  link : s.link.Awaits time

namespace Waits

theorem of_frame {bs : List Block} (h : Waits time s) (frame : Frame bs s u) (hb : Block.link ∉ bs) :
    Waits time u :=
  ⟨frame.steady.time.trans h.clock, (show u.link = s.link from frame.only.1 .link hb) ▸ h.link⟩

theorem of_eq (h : Waits time s) (clock : u.time = s.time) (link : u.link = s.link) : Waits time u :=
  ⟨clock.trans h.clock, link ▸ h.link⟩

theorem withLink (h : Waits time s) {x : NoticeLink} (hx : x.Awaits time) :
    Waits time (s.withLink x) := ⟨h.clock, hx⟩

theorem calm : Calm (Waits time) where
  capture u id a failed h := h.of_frame (u.captureRequest_frame id a failed) (by decide)
  add u r t _ h := h.of_frame (u.addRecord_frame r t) (by decide)
  edit u id f _ h := h.of_eq rfl rfl
  judge u id h := h.of_frame (u.judge_frame id) (by decide)
  tally u c r m d h := h.of_eq rfl rfl
  contexts _ _ _ h := h.of_eq rfl rfl
  det _ _ _ h := h.of_eq rfl rfl
  ends _ _ h := h.of_eq rfl rfl
  edge _ _ _ _ h := h.of_eq rfl rfl

theorem handVerdict (h : Waits time s) (v : QueuedVerdict) : Waits time (s.handVerdict v) := by
  have dropped := calm.dropReport v.edge v.recordId h
  unfold State.handVerdict
  split
  · exact dropped
  split
  · exact h.withLink (h.link.enqueue _)
  split
  · next i found =>
    exact h.withLink ((h.link.removeAt (NoticeLink.oldestPresent_eq_some.1 found).1.2).enqueue _)
  · exact dropped

theorem correlationTakes (h : Waits time s) : Waits time s.correlationTakes := by
  unfold State.correlationTakes
  split
  · exact h
  · refine foldl_keeps (fun u k hu => ?_) _ (h.of_eq rfl rfl)
    unfold State.judgeContext
    split
    · exact hu
    · have judged (f : Context → Context) (v : QueuedVerdict) :=
        (calm.editContext k f hu).handVerdict v
      exact ite_keeps (judged _ _) (calm.edit _ _ _ (rewriteSympathetic_edited _) (judged _ _))

theorem reportFrame (h : Waits time s) (f : QueuedFrame) : Waits time (s.reportFrame f) :=
  calm.reportFrame f h

theorem windowExpiry (h : Waits time s) (edge : Ms) : Waits time (s.windowExpiry edge) := by
  unfold State.windowExpiry
  split
  · exact h
  · next i _ =>
    dsimp only
    split
    · exact (h.reportFrame _).withLink (h.link.of_same rfl rfl)
    · next still => exact (h.reportFrame _).withLink (h.link.removeAt still)

theorem linkDropsQueue (h : Waits time s) (view : StationState) : Waits time (s.linkDropsQueue view) := by
  have reported := calm.reportQueue h
  refine ⟨reported.clock, ?_⟩
  rw [← reported.clock]
  exact NoticeLink.Awaits.leaveByte _ _

theorem linkStops (h : Waits time s) (k : Stop) : Waits time (s.linkStops k) := by
  have reported := calm.reportQueue h
  cases k with
  | halt =>
    refine ⟨reported.clock, ?_⟩
    rw [← reported.clock]
    exact NoticeLink.Awaits.leaveByte _ _
  | restart low first =>
    have dropped := h.linkDropsQueue .config
    exact ite_keeps dropped (dropped.withLink (dropped.link.of_same rfl rfl))

theorem calmStop (k : Stop) : CalmStop (Waits time) k where
  toCalm := calm
  store _ h := h.of_eq rfl rfl
  link _ h := h.linkStops k
  clear _ _ h := h.withLink (h.link.of_same rfl rfl)
  mark u h := h.of_frame (u.markStops_frame k) (by decide)
  corr _ h := h.of_eq rfl rfl
  cap u h := h.of_frame (u.capStops_frame k) (by decide)
  agg u h := h.of_frame u.aggTakesStop_frame (by decide)
  handed _ _ h := h.of_eq rfl rfl
  tracker u h := h.of_frame u.trackerTakes_frame (by decide)
  report u h := h.of_frame u.trackerTakesReport_frame (by decide)
  correlation _ h := h.correlationTakes
  aggregator u h := h.of_frame u.aggregatorTakes_frame (by decide)
  free _ _ h := h.of_eq rfl rfl

theorem elapse (h : Waits time s) (t : Nat) : Waits (s.elapse t).time (s.elapse t) :=
  ⟨rfl, h.link.later (h.clock ▸ s.time_le_elapse t)⟩

theorem answer (h : Waits time s) (st : Status) (p : List Byte) : Waits time (s.answer st p) :=
  h.of_eq rfl rfl

end Waits

theorem waits_iff (s : State) : Waits s.time s ↔ s.stopBitAwaitedOnLine :=
  ⟨fun h => h.link, fun h => ⟨rfl, h⟩⟩

theorem State.takeNotice_waits {s : State} (h : Waits time s) (n : Notice) (leader : Ms) :
    Waits time (s.takeNotice n leader) := by
  have peer {v : State} (hv : Waits time v) (a : Fin 16) (p : Peer) : Waits time (v.setPeer a p) :=
    hv.withLink (hv.link.of_same rfl rfl)
  have heard : Waits time (s.updatePeer n leader) :=
    ite_keeps (peer h _ _) ((peer h _ _).of_eq rfl rfl)
  unfold State.takeNotice
  split
  · exact heard
  · refine ite_keeps ?_ heard
    unfold State.matchVerdict
    split
    · next k _ => exact heard.of_eq rfl rfl
    · exact peer heard _ _

/-- A frame complete after 20 bit times of idle line leaves no stop bit awaited. -/
theorem State.judgeFrame_waits {s : State} (h : Waits time s)
    (idle : idleFor s.time s.link.idleFrom Config.frameGapTicks = true) : Waits time s.judgeFrame := by
  have passed : s.link.lastStop ≤ time := by
    unfold NoticeLink.idleFrom idleFor at idle
    cases high : s.link.highFrom with
    | none => simp [high] at idle
    | some x =>
      simp only [high, Option.map_some, decide_eq_true_eq] at idle
      have := h.clock
      have := le_max_left s.link.lastStop x
      omega
  have ended : Waits time (s.withLink s.link.endFrame) := h.withLink fun _ => passed
  unfold State.judgeFrame
  split
  · refine Waits.of_eq (s := s.withLink (s.link.dropFrame s.time)) (h.withLink ?_) rfl rfl
    rw [← h.clock]
    exact NoticeLink.Awaits.leaveByte _ _
  · exact ite_keeps ended (ite_keeps (ended.of_eq rfl rfl) (State.takeNotice_waits ended _ _))

/-- No command leaves a station that does neither send nor receive waiting for a stop bit. -/
theorem exec_waits {i : Instr} {s' : State} (h : Waits s.time s) (he : exec i s = .next s') :
    Waits s'.time s' := by
  have out {v : State} {n : Nat} (e : exec i s = .next v) (hv : Waits n v) : Waits s'.time s' := by
    rw [e] at he
    obtain rfl := Host.Outcome.next.inj he
    exact hv.clock ▸ hv
  by_cases touched : Block.link ∈ touches i
  case neg =>
    have only := (commandsKeepWhatIsNotTheirs i s s' he).1
    have clock := theClockOnlyMovesOn i s s' he fun straps low psel e => touched (by rw [e]; simp [touches])
    have link : s'.link = s.link := only.1 .link touched
    exact ⟨rfl, link ▸ h.link.later clock⟩
  cases i with
  | pinReset straps low psel => exact out (n := 0) rfl ⟨rfl, fun _ => le_rfl⟩
  | positionClose checks =>
    have measured : Waits (s.elapse s.closeMoment).time s.measured :=
      (h.elapse _).of_frame s.measured_frame (by decide)
    have events (v : State) (hv : Waits (s.elapse s.closeMoment).time v) :
        Waits (s.elapse s.closeMoment).time (s.eventsOf checks v) :=
      hv.of_frame (s.eventsOf_frame checks v) (by decide)
    refine out (exec_positionClose checks s) (ite_keeps ?_ (events _ measured))
    have stopped := (Waits.calmStop .halt).takeStop s.order checks.failed events measured
    exact stopped.of_eq rfl rfl
  | correlationTakesRefresh t => exact out rfl (h.elapse t).correlationTakes
  | presentPeriodExpiry t =>
    refine out rfl (n := (s.elapse t).time) ?_
    split
    · exact h.elapse t
    · exact ite_keeps (((h.elapse t).withLink (h.elapse t).link.handPresent).of_eq rfl rfl) (h.elapse t)
  | attemptStart t =>
    refine out rfl (n := (s.elapse t).time) ?_
    split
    · exact h.elapse t
    · exact ite_keeps ((h.elapse t).withLink fun off => absurd off (by simp [NoticeLink.seeEdge, NoticeLink.onLine]))
        (h.elapse t)
  | attemptSuccess t =>
    refine out rfl (n := (s.elapse t).time) (ite_keeps ((h.elapse t).withLink ?_) (h.elapse t))
    exact (NoticeLink.Awaits.leaveByte (s.link.popHead.seeFrameEnd (s.link.txStart + s.link.frameTicks))
      (s.elapse t).time).of_same rfl rfl
  | readbackMismatch t =>
    refine out rfl (n := (s.elapse t).time) ?_
    split
    · exact h.elapse t
    · have left (x : NoticeLink) : (x.leaveByte (s.elapse t).time).Awaits (s.elapse t).time :=
        NoticeLink.Awaits.leaveByte _ _
      exact ite_keeps (ite_keeps ((h.elapse t).withLink (left _))
        (ite_keeps (((h.elapse t).reportFrame _).withLink (left _)) ((h.elapse t).withLink (left _))))
        (h.elapse t)
  | receiverRecovered t =>
    refine out rfl (n := (s.elapse t).time) ?_
    dsimp only
    split
    · next recovered =>
      have recovering : s.link.rx = .recovering := beq_iff_eq.1 (Bool.and_eq_true _ _ ▸ recovered).1
      refine (h.elapse t).withLink ((h.elapse t).link.of_same ?_ rfl)
      unfold NoticeLink.onLine
      rw [show (s.elapse t).link.rx = .recovering from recovering]
      rfl
    · exact h.elapse t
  | noticeFallingEdge t e =>
    exact out rfl (n := (s.elapse t).time)
      (ite_keeps ((h.elapse t).withLink ((h.elapse t).link.takeEdge _ _)) (h.elapse t))
  | frameMalformed t f =>
    refine out rfl (n := (s.elapse t).time) (ite_keeps ?_ (h.elapse t))
    exact ((h.elapse t).withLink (NoticeLink.Awaits.leaveByte _ _)).of_eq rfl rfl
  | peerAgingExpiry t a =>
    refine out rfl (n := (s.elapse t).time) (ite_keeps ?_ (h.elapse t))
    have aged (p : Peer) : Waits (s.elapse t).time ((s.elapse t).setPeer a p) :=
      (h.elapse t).withLink ((h.elapse t).link.of_same rfl rfl)
    exact (aged _).of_eq rfl rfl
  | frameComplete t =>
    refine out rfl (n := (s.elapse t).time) ?_
    split
    · next complete =>
      exact State.judgeFrame_waits (h.elapse t) (Bool.and_eq_true _ _ ▸ complete).2
    · exact h.elapse t
  | contextClose t k =>
    refine out rfl (n := (s.elapse t).time) ?_
    split
    · exact h.elapse t
    · refine ite_keeps ?_ (h.elapse t)
      have expired := (h.elapse t).windowExpiry
      dsimp only
      split
      · exact expired _
      · exact Waits.calm.freeContext _ _ (ite_keeps (expired _) (Waits.calm.edit _ _ _ (State.copyResults_edited _ _ _) (expired _)))
  | start t =>
    have started : Waits (s.elapse t).time (s.elapse t).takeStart :=
      ⟨rfl, NoticeLink.Awaits.handPresent ((h.elapse t).link.of_same rfl rfl)⟩
    refine out rfl (n := (s.elapse t).time) (ite_keeps ?_ (h.elapse t))
    split
    · exact ite_keeps ((h.elapse t).answer _ _) (started.answer _ _)
    · exact (h.elapse t).answer _ _
    · exact (h.elapse t).answer _ _
  | restart t low =>
    refine out (exec_restart t low s) (n := (s.elapse t).time) (ite_keeps ?_ (h.elapse t))
    have stopped := (Waits.calmStop (.restart low (s.elapse t).order.tableFirst)).takeStop
      (s.elapse t).order (s.elapse t).order.checkFails (act := id) (fun _ hv => hv) (h.elapse t)
    exact stopped.of_eq rfl rfl
  | linkReset t low =>
    have dropped := (h.elapse t).linkDropsQueue s.link.view
    have reset : Waits (s.elapse t).time ((s.elapse t).linkTakesReset s.link.view) :=
      dropped.withLink (dropped.link.of_same rfl rfl)
    exact out rfl (ite_keeps (reset.of_eq rfl rfl) (h.elapse t))
  | _ => exact absurd touched (by simp [touches])

end Sys2Proof.Machine
end


section
/-! NOTICE_FALLING_EDGE: the line after an edge (R100), and the byte that a start bit brings the
receiver (R111). -/

namespace Sys2Proof.Machine

variable {l : NoticeLink} {time : Nat} {now : Ms} {b : Byte} {low : Bool}

/-! The line. -/

/-- The ones at the end of a byte are the `n` low bits before the first 0. -/
theorem trailingOnes_eq {n : Nat} (le : n ≤ 8) (ones : ∀ i, i < n → b.getLsbD i = true)
    (zero : n < 8 → b.getLsbD n = false) : trailingOnes b = n := by
  unfold trailingOnes
  rcases le.lt_or_eq with lt | rfl
  · rw [List.find?_range_eq_some.2 ⟨by simp [zero lt], List.mem_range.2 lt, fun j hj => by simp [ones j hj]⟩]
    rfl
  · rw [List.find?_range_eq_none.2 fun i hi => by simp [ones i hi]]
    rfl

/-- A byte's stop bit keeps a station on the line waiting for at least ten bit times. -/
theorem NoticeLink.seeEdge_idleFrom_onLine {e : EdgeSample} (byte : edgeByte e = some (b, low))
    (on : l.onLine = true) :
    (l.seeEdge time e).idleFrom = some (max (time + 800) (time + riseAfter e)) := by
  rw [NoticeLink.seeEdge_idleFrom]
  cases e with
  | glitch d => exact absurd byte (by simp [edgeByte])
  | start x => rw [NoticeLink.seeEdge_lastStop_start, if_pos on]
  | broken x d => rw [NoticeLink.seeEdge_lastStop_broken, if_pos on]

/-- Off the line an edge leaves the awaited stop bit as it was. -/
theorem NoticeLink.seeEdge_lastStop_offLine (e : EdgeSample) (off : l.onLine = false) :
    (l.seeEdge time e).lastStop = l.lastStop := by
  cases e with
  | glitch d => rfl
  | start x => rw [NoticeLink.seeEdge_lastStop_start, off]; rfl
  | broken x d => rw [NoticeLink.seeEdge_lastStop_broken, off]; rfl

/-- An edge touches neither queue nor transmitter nor peer table, and off the line no stop bit. -/
theorem NoticeLink.takeEdge_line (l : NoticeLink) (time : Nat) (now : Ms) (e : EdgeSample) :
    (l.takeEdge time now e).queue = l.queue ∧ (l.takeEdge time now e).tx = l.tx ∧
    (l.takeEdge time now e).peers = l.peers ∧
    (l.takeEdge time now e).highFrom = some (time + riseAfter e) ∧
    (¬(l.tx = .sending ∨ l.rx ≠ .recovering) → (l.takeEdge time now e).lastStop = l.lastStop) ∧
    ∀ b low, edgeByte e = some (b, low) → l.tx = .sending ∨ l.rx ≠ .recovering →
      (l.takeEdge time now e).idleFrom = some (max (time + 800) (time + riseAfter e)) := by
  unfold NoticeLink.takeEdge
  cases byte : edgeByte e with
  | none =>
    refine ⟨rfl, rfl, rfl, rfl, fun off => ?_, fun b low h => absurd h (by simp)⟩
    cases e with
    | glitch d => rfl
    | start x => exact absurd byte (by simp [edgeByte])
    | broken x d => exact absurd byte (by simp [edgeByte])
  | some p =>
    obtain ⟨b, low⟩ := p
    obtain ⟨stop, tx, line⟩ := NoticeLink.Awaits.takeStart_line l time now b low
    have rest : (l.takeStart time now b low).queue = l.queue ∧
        (l.takeStart time now b low).peers = l.peers := by
      unfold NoticeLink.takeStart
      repeat' split
      all_goals exact ⟨rfl, rfl⟩
    exact ⟨rest.1, tx, rest.2, rfl,
      fun off => (NoticeLink.seeEdge_lastStop_offLine e
        (Bool.eq_false_iff.2 fun on => off (line.1 on))).trans stop,
      fun _ _ _ on => NoticeLink.seeEdge_idleFrom_onLine byte (line.2 on)⟩

/-! The receiver at a start bit. -/

theorem frameLength_eq (b : Byte) : frameLength b =
    if b.toNat / 16 = 9 then some 4 else if b.toNat / 16 = 6 then some 10 else none := by
  unfold frameLength
  split
  · next nine => rw [if_pos nine]
  · next six => rw [if_neg (by omega), if_pos six]
  · next nine six => rw [if_neg nine, if_neg six]

theorem NoticeLink.takeStart_idle (h : l.rx = .idle) :
    l.takeStart time now b low = (l.newFrame now).takeByte time b low := by
  unfold NoticeLink.takeStart
  rw [h]

theorem NoticeLink.takeStart_receiving (h : l.rx = .receiving) :
    l.takeStart time now b low =
      if l.rxFault = none ∧ time ≤ l.rxEnd + 1600 then l.takeByte time b low else l := by
  unfold NoticeLink.takeStart
  rw [h]
  rfl

theorem NoticeLink.takeStart_trailing (h : l.rx = .trailing) :
    l.takeStart time now b low =
      if idleFor time l.idleFrom 1601 then l else { l with rxFault := some .tooLong } := by
  unfold NoticeLink.takeStart
  rw [h]
  rfl

theorem NoticeLink.takeStart_recovering (h : l.rx = .recovering) :
    l.takeStart time now b low = l := by
  unfold NoticeLink.takeStart
  rw [h]

/-- The first byte of a frame has a fault where its stop bit is low or it is not the leader. -/
theorem byteFault_first : byteFault [] b low =
    if low then some .framing else if b = 0x5C then none else some .badLeader := by
  unfold byteFault
  refine if_congr Iff.rfl rfl ?_
  by_cases leader : b = 0x5C
  · subst leader
    rfl
  · rw [if_pos ⟨rfl, leader⟩, if_neg leader]

/-- The second byte has a fault where its stop bit is low or its kind is unknown. -/
theorem byteFault_second {bytes : List Byte} (second : bytes.length = 1) :
    byteFault bytes b false = if frameLength b = none then some .badKind else none := by
  simp [byteFault, second]

/-- A later byte has a fault only where its stop bit is low. -/
theorem byteFault_later {bytes : List Byte} (later : 2 ≤ bytes.length) :
    byteFault bytes b false = none := by
  unfold byteFault
  rw [if_neg (by simp), if_neg (by omega), if_neg (by omega)]

/-- The last expected byte of a frame without a fault brings TRAILING (R111). -/
theorem NoticeLink.takeByte_rx : (l.takeByte time b low).rx =
    if (l.takeByte time b low).rxFault = none ∧
      (l.takeByte time b low).rxExpected = some (l.rxBytes.length + 1) then .trailing
    else .receiving := by
  have length : (l.rxBytes ++ [b]).length = l.rxBytes.length + 1 := by simp
  rw [← length]
  exact if_congr and_comm rfl rfl

/-- Settles O40: the line by `takeEdge_line`, the receiver by its state; for the awaited stop bit see
`exec_waits`. -/
theorem noticeEdgesBeginBytes : Obligations.NoticeEdgesBeginBytes := by
  unfold Obligations.NoticeEdgesBeginBytes
  refine ⟨fun s s' hs h => ?_, fun t e s wf => ?_⟩
  · exact (waits_iff s').1 (step_keeps (P := fun u => Waits u.time u) (fun _ _ hq => ⟨rfl, hq.link⟩)
      (fun _ _ _ hu he => exec_waits hu he) ((waits_iff s).2 hs) h)
  intro waits
  have served : exec (.noticeFallingEdge t e) s =
      .next ((s.elapse t).withLink (s.link.takeEdge (s.elapse t).time (s.elapse t).now e)) :=
    congrArg Host.Outcome.next (if_pos wf)
  obtain ⟨queue, tx, peers, high, off, on⟩ :=
    s.link.takeEdge_line (s.elapse t).time (s.elapse t).now e
  refine ⟨_, served, (commandsKeepWhatIsNotTheirs _ _ _ served).1, queue, tx, peers,
    fun b start => ⟨fun w => ?_, fun n le ones zero => ?_⟩, fun b d broken => ⟨fun w => ?_, ?_⟩,
    fun out => ⟨off out, fun awaited => ?_⟩, fun d glitch => ?_, fun b low bit => ?_⟩
  · subst start
    refine (on b false rfl w).trans (congrArg some (max_eq_left ?_))
    have := riseAfter_start_le b
    omega
  · subst start
    refine high.trans ?_
    rw [riseAfter, trailingOnes_eq le ones zero]
    rfl
  · subst broken
    exact (on b true rfl w).trans (congrArg some (Nat.add_max_add_left _ _ _))
  · subst broken
    exact high
  · have quiet : s.link.onLine = false := by
      obtain ⟨still, recovering⟩ := not_or.1 out
      refine Bool.eq_false_iff.2 fun on => ?_
      rw [NoticeLink.onLine_of_not_sending still, not_not.1 recovering] at on
      simp at on
    show Option.map _ _ = _
    rw [State.withLink_link, high, off out]
    refine congrArg some (max_eq_right ?_)
    have := awaited quiet
    have := s.time_le_elapse t
    omega
  · subst glitch
    exact ⟨rfl, rfl⟩
  · have byte : edgeByte e = some (b, low) := by
      rcases bit with ⟨rfl, rfl⟩ | ⟨rfl, d, rfl⟩ <;> rfl
    have took : s.link.takeEdge (s.elapse t).time (s.elapse t).now e =
        (s.link.takeStart (s.elapse t).time (s.elapse t).now b low).seeEdge (s.elapse t).time e := by
      unfold NoticeLink.takeEdge
      rw [byte]
    simp only [State.withLink_link, took]
    refine ⟨fun idle => ?_, fun receiving sound inTime => ?_, fun receiving late => ?_,
      fun trailing => ?_, fun recovering => ?_⟩
    · rw [NoticeLink.takeStart_idle idle]
      have first := NoticeLink.takeByte_rx (l := s.link.newFrame (s.elapse t).now)
        (time := (s.elapse t).time) (b := b) (low := low)
      exact ⟨first.trans (if_neg fun h => absurd h.2 (by simp [NoticeLink.takeByte, NoticeLink.newFrame])), rfl, rfl, rfl, rfl, rfl, byteFault_first⟩
    · rw [NoticeLink.takeStart_receiving receiving, if_pos ⟨sound, inTime⟩]
      have known := frameLength_eq b
      refine ⟨rfl, rfl, rfl, ?_, fun broken => if_pos broken, fun whole second => ?_,
        fun whole later => ?_,
        NoticeLink.takeByte_rx (time := (s.elapse t).time)⟩
      · refine if_congr ?_ known rfl
        rw [List.length_append, List.length_singleton]
        omega
      · subst whole
        rw [← known]
        exact byteFault_second second
      · subst whole
        exact byteFault_later later
    · rw [NoticeLink.takeStart_receiving receiving, if_neg (fun h => ?_)]
      · exact ⟨receiving, rfl, rfl, rfl⟩
      · rcases late with faulty | late
        · exact faulty h.1
        · exact absurd h.2 (not_le.2 late)
    · have early (h : ∀ t0, s.link.idleFrom = some t0 → (s.elapse t).time ≤ t0 + 1600) :
          idleFor (s.elapse t).time s.link.idleFrom 1601 = false := by
        cases idle : s.link.idleFrom with
        | none => rfl
        | some t0 =>
          have := h t0 idle
          exact decide_eq_false (by omega)
      rw [NoticeLink.takeStart_trailing trailing]
      refine ⟨?_, ?_, fun h => ?_, fun t0 idle h => ?_⟩
      · split <;> exact trailing
      · split <;> rfl
      · rw [early h]
        rfl
      · have later : t0 + 1600 < (s.elapse t).time := h
        rw [idle, idleFor_some.2 (by omega)]
        rfl
    · rw [NoticeLink.takeStart_recovering recovering]
      exact ⟨recovering, rfl⟩

/-! Faults, complete frames, the recovery and the ageing of peers. -/

/-- A frame in TRAILING without a fault is judged after 20 bit times of idle line (R111, R112). -/
theorem exec_frameComplete_of_idle {t t0 : Nat} {s : State} (trailing : s.link.rx = .trailing)
    (sound : s.link.rxFault = none) (idle : s.link.idleFrom = some t0)
    (passed : t0 + 1600 ≤ max s.time t) :
    exec (.frameComplete t) s = .next (s.elapse t).judgeFrame := by
  refine congrArg Host.Outcome.next (if_pos ?_)
  have rested : idleFor (s.elapse t).time (some t0) Config.frameGapTicks = true :=
    idleFor_some.2 passed
  rw [State.elapse_link, trailing, sound, idle, rested]
  rfl

/-- Settles O41, by the fault that is found. -/
theorem faultyFramesRaiseFrameError : Obligations.FaultyFramesRaiseFrameError := by
  unfold Obligations.FaultyFramesRaiseFrameError
  refine ⟨fun t f s => ?_, fun t t0 s trailing sound idle passed bad => ?_,
    fun t t0 s recovering high passed => ?_, fun t s recovering high passed => ?_⟩
  · intro l found
    have possible : faultPossible f s.link (s.elapse t).time = true ↔ found := by
      cases f <;>
        simp only [faultPossible, Bool.and_eq_true, beq_iff_eq, Option.isNone_iff_eq_none,
          decide_eq_true_eq, and_assoc] <;> exact Iff.rfl
    refine ⟨fun none => congrArg Host.Outcome.next (if_neg fun h => none (possible.1 h)), fun h => ?_⟩
    have served : exec (.frameMalformed t f) s =
        .next (((s.elapse t).withLink (s.link.dropFrame (s.elapse t).time)).raise .frameError 0) :=
      congrArg Host.Outcome.next (if_pos (possible.2 h))
    refine ⟨_, served, (commandsKeepWhatIsNotTheirs _ _ _ served).1, ?_, ?_⟩
    · refine congrArg (fun n => { s.link with
        rx := .recovering, rxBytes := [], rxExpected := none, rxFault := none, rxOwn := false
        lastStop := n }) ?_
      by_cases sending : s.link.tx = .sending
      · simp [NoticeLink.onLine, sending]
      · rw [if_neg sending]
        refine if_neg ?_
        simp [NoticeLink.onLine, sending]
    · exact State.raise_causes _ .frameError 0 4
  · have dropped : (s.elapse t).judgeFrame =
        ((s.elapse t).withLink (s.link.dropFrame (s.elapse t).time)).raise .frameError 0 := by
      simp [State.judgeFrame, bad]
    have served : exec (.frameComplete t) s =
        .next (((s.elapse t).withLink (s.link.dropFrame (s.elapse t).time)).raise .frameError 0) := by
      rw [← dropped]
      exact exec_frameComplete_of_idle trailing sound idle passed
    refine ⟨_, served, ?_, rfl, rfl, ?_⟩
    · exact (((s.elapse t).withLink_frame _).comp (State.raise_frame _ _ _)).only
    · exact State.raise_causes _ .frameError 0 4
  · have late : (s.link.rx == .recovering &&
        decide (s.link.highFrom.getD ((s.elapse t).time - 1600) + 1600 ≤ (s.elapse t).time)) = true := by
      simpa [recovering, high] using passed
    refine (congrArg Host.Outcome.next (if_pos late)).trans ?_
    refine congrArg (fun x => Host.Outcome.next ((s.elapse t).withLink
      { s.link with rx := .idle, highFrom := x })) ?_
    rw [State.elapse_link, high]
    rfl
  · have late : (s.link.rx == .recovering &&
        decide (s.link.highFrom.getD ((s.elapse t).time - 1600) + 1600 ≤ (s.elapse t).time)) = true := by
      simp [recovering, high]
      omega
    refine (congrArg Host.Outcome.next (if_pos late)).trans ?_
    rw [State.elapse_link, high]
    rfl

theorem State.setPeer_peers_other (s : State) {a b : Fin 16} (p : Peer) (h : b ≠ a) :
    (s.setPeer a p).link.peers[b] = s.link.peers[b] :=
  Vector.getElem_set_ne a.isLt b.isLt fun e => h (Fin.ext e.symm)

/-- A frame taken is heard, and may reach a context or the sender's unmatched count (R114 to
R116). -/
theorem State.takeNotice_cases (s : State) (n : Notice) (leader : Ms) :
    s.takeNotice n leader = s.updatePeer n leader ∨
    (∃ c, s.takeNotice n leader = (s.updatePeer n leader).withCorr c) ∨
    s.takeNotice n leader = (s.updatePeer n leader).setPeer (senderOf n)
      (s.updatePeer n leader).link.peers[senderOf n].countUnmatched := by
  cases n with
  | present => exact .inl rfl
  | verdict addr level v k o age dU dI =>
    by_cases run : s.link.view = .run
    · have taken : s.takeNotice (.verdict addr level v k o age dU dI) leader =
          (s.updatePeer (.verdict addr level v k o age dU dI) leader).matchVerdict
            ⟨addr, level, v, k, dU.toInt, dI.toInt, o⟩ (leader - age.setWidth 48) := if_pos run
      rw [taken]
      unfold State.matchVerdict
      split
      · exact .inr (.inl ⟨_, rfl⟩)
      · exact .inr (.inr rfl)
    · exact .inl (if_neg run)

/-- The peer table where a frame from sender `a` is taken: the entry of the sender alone changes, in
presence, straps and time as `hear` has it, and the unmatched count (R114, R116). -/
theorem State.takeNotice_peers (s : State) (n : Notice) (leader : Ms) :
    (∀ a : Fin 16, a ≠ senderOf n → (s.takeNotice n leader).link.peers[a] = s.link.peers[a]) ∧
    ∃ count, (s.takeNotice n leader).link.peers[senderOf n] =
      { s.link.peers[senderOf n].hear n leader with unmatched := count } := by
  have heardOther (a : Fin 16) (h : a ≠ senderOf n) :
      (s.updatePeer n leader).link.peers[a] = s.link.peers[a] := by
    unfold State.updatePeer
    dsimp only
    split
    · exact s.setPeer_peers_other _ h
    · exact s.setPeer_peers_other _ h
  have heard := s.updatePeer_peers_sender n leader
  rcases s.takeNotice_cases n leader with same | ⟨c, same⟩ | counted
  · rw [same]
    exact ⟨heardOther, _, heard⟩
  · rw [same]
    exact ⟨heardOther, _, heard⟩
  · rw [counted]
    exact ⟨fun a h => (State.setPeer_peers_other _ _ h).trans (heardOther a h), _,
      (State.setPeer_peers_same _ _ _).trans (congrArg Peer.countUnmatched heard)⟩

/-- PEER_CHANGE is raised where the sender was ABSENT (R114). -/
theorem State.takeNotice_causes (s : State) (n : Notice) (leader : Ms) :
    (s.takeNotice n leader).ctl.causes[(11 : Fin 13)] =
      if s.link.peers[senderOf n].present then s.ctl.causes[(11 : Fin 13)]
      else ⟨true, (senderOf n).val, false⟩ := by
  have heard : (s.updatePeer n leader).ctl.causes[(11 : Fin 13)] =
      if s.link.peers[senderOf n].present then s.ctl.causes[(11 : Fin 13)]
      else ⟨true, (senderOf n).val, false⟩ := by
    unfold State.updatePeer
    dsimp only
    split
    · rfl
    · exact State.raise_causes _ .peerChange _ 11
  rcases s.takeNotice_cases n leader with same | ⟨c, same⟩ | counted
  · rw [same]
    exact heard
  · rw [same]
    exact heard
  · rw [counted]
    exact heard

/-- A frame taken touches receiver and queue no further. -/
theorem State.takeNotice_line (s : State) (n : Notice) (leader : Ms) :
    (s.takeNotice n leader).link.rx = s.link.rx ∧
    (s.takeNotice n leader).link.queue = s.link.queue := by
  have heard : (s.updatePeer n leader).link.rx = s.link.rx ∧
      (s.updatePeer n leader).link.queue = s.link.queue := by
    unfold State.updatePeer
    dsimp only
    split <;> exact ⟨rfl, rfl⟩
  rcases s.takeNotice_cases n leader with same | ⟨c, same⟩ | counted
  · rw [same]
    exact heard
  · rw [same]
    exact heard
  · rw [counted]
    exact heard

/-- What a notice says of its sender is heard. -/
theorem Peer.hear_spec (p : Peer) (n : Notice) (leader : Ms) :
    (p.hear n leader).present = true ∧ (p.hear n leader).lastHeard = some leader ∧
    (∀ a level wiring freq, n = .present a level wiring freq →
      (p.hear n leader).level = some level ∧ (p.hear n leader).wiring = some wiring ∧
      (p.hear n leader).freq = some freq) ∧
    (∀ a level v k o age dU dI, n = .verdict a level v k o age dU dI →
      (p.hear n leader).level = some level ∧ (p.hear n leader).wiring = p.wiring ∧
      (p.hear n leader).freq = p.freq) := by
  refine ⟨?_, ?_, fun a level wiring freq h => ?_, fun a level v k o age dU dI h => ?_⟩
  · cases n <;> rfl
  · cases n <;> rfl
  · subst h
    exact ⟨rfl, rfl, rfl⟩
  · subst h
    exact ⟨rfl, rfl, rfl⟩

/-- Settles O42, by the owner of the frame and its sender. -/
theorem peersAreHeardAndAge : Obligations.PeersAreHeardAndAge := by
  unfold Obligations.PeersAreHeardAndAge
  refine ⟨fun t t0 s n trailing sound idle passed valid => ?_, fun t a s h here heard old => ?_⟩
  · have judged : (s.elapse t).judgeFrame =
        if s.link.rxOwn then (s.elapse t).withLink s.link.endFrame
        else if senderOf n = s.ctl.straps.addr then
          ((s.elapse t).withLink s.link.endFrame).raise .addressClash (senderOf n).val
        else ((s.elapse t).withLink s.link.endFrame).takeNotice n s.link.rxLeader := by
      unfold State.judgeFrame
      rw [State.elapse_link, valid]
      rfl
    have served := exec_frameComplete_of_idle trailing sound idle passed
    rw [judged] at served
    obtain ⟨others, count, sender⟩ :=
      ((s.elapse t).withLink s.link.endFrame).takeNotice_peers n s.link.rxLeader
    have line := ((s.elapse t).withLink s.link.endFrame).takeNotice_line n s.link.rxLeader
    obtain ⟨present, time, isPresent, isVerdict⟩ :=
      s.link.peers[senderOf n].hear_spec n s.link.rxLeader
    refine ⟨_, served, (commandsKeepWhatIsNotTheirs _ _ _ served).1, ?_, ?_, fun own => ?_,
      fun foreign same => ?_, fun foreign other => ?_⟩
    · split
      · rfl
      · split
        · rfl
        · exact line.1
    · split
      · rfl
      · split
        · rfl
        · exact line.2
    · rw [if_pos own]
      exact ⟨rfl, rfl, rfl⟩
    · rw [if_neg (by simp [foreign]), if_pos same]
      exact ⟨State.raise_causes _ .addressClash _ 5, rfl, rfl⟩
    · rw [if_neg (by simp [foreign]), if_neg other]
      refine ⟨others, ?_, ?_, fun a level wiring freq h => ?_, fun a level v k o age dU dI h => ?_,
        State.takeNotice_causes _ n s.link.rxLeader⟩
      · rw [sender]
        exact present
      · rw [sender]
        exact time
      · rw [sender]
        exact isPresent a level wiring freq h
      · rw [sender]
        exact isVerdict a level v k o age dU dI h
  · have aged : (s.link.peers[a].present &&
        (s.elapse t).due (s.link.peers[a].lastHeard.map fun h => h + msOf 180000)) = true := by
      rw [here, heard]
      exact old
    have served : exec (.peerAgingExpiry t a) s = .next
        (((s.elapse t).setPeer a { s.link.peers[a] with present := false }).raise .peerChange a.val) :=
      congrArg Host.Outcome.next (if_pos aged)
    exact ⟨_, served, (commandsKeepWhatIsNotTheirs _ _ _ served).1, rfl,
      State.raise_causes _ .peerChange _ 11⟩

end Sys2Proof.Machine
end


section
/-! The frames of NOTICE and of the record port: what is decoded is what was encoded (R101, R102,
R112, R170, R171). -/

namespace Sys2Proof.Machine

/-! Numbers as bytes, most significant first. -/

theorem u8_toNat (b : Byte) : u8 b.toNat = [b] := by simp [u8]

theorem i16_toInt (x : BitVec 16) : i16 x.toInt = bigEndian 2 x.toNat := by
  have number : (x.toInt % 65536).toNat = x.toNat := by
    rw [BitVec.toInt_eq_toNat_cond]
    have := x.isLt
    split <;> omega
  rw [i16, number, bigEndian_two]

theorem bigEndian_fromBytes_two (a b : Byte) :
    bigEndian 2 (BitVec.ofNat 16 (fromBytes [a, b])).toNat = [a, b] := by
  have := a.isLt
  have := b.isLt
  simp only [fromBytes, List.foldl, bigEndian, BitVec.toNat_ofNat, List.cons.injEq, and_true]
  constructor <;>
  · apply BitVec.eq_of_toNat_eq
    simp only [BitVec.toNat_ofNat]
    omega

theorem fromBytes_bigEndian_two (x : BitVec 16) :
    BitVec.ofNat 16 (fromBytes (bigEndian 2 x.toNat)) = x := by
  have := x.isLt
  apply BitVec.eq_of_toNat_eq
  simp only [fromBytes, List.foldl, bigEndian, BitVec.toNat_ofNat]
  omega

theorem bigEndian_fromBytes_four (a b c d : Byte) :
    bigEndian 4 (BitVec.ofNat 32 (fromBytes [a, b, c, d])).toNat = [a, b, c, d] := by
  have := a.isLt
  have := b.isLt
  have := c.isLt
  have := d.isLt
  simp only [fromBytes, List.foldl, bigEndian, BitVec.toNat_ofNat, List.cons.injEq, and_true]
  refine ⟨?_, ?_, ?_, ?_⟩ <;>
  · apply BitVec.eq_of_toNat_eq
    simp only [BitVec.toNat_ofNat]
    omega

theorem fromBytes_bigEndian_four (x : BitVec 32) :
    BitVec.ofNat 32 (fromBytes (bigEndian 4 x.toNat)) = x := by
  have := x.isLt
  apply BitVec.eq_of_toNat_eq
  simp only [fromBytes, List.foldl, bigEndian, BitVec.toNat_ofNat]
  omega

/-! The check byte (R102). -/

theorem byteSum_append (bs : List Byte) (c : Byte) : byteSum (bs ++ [c]) = byteSum bs + c.toNat := by
  simp [byteSum]

theorem byteSum_check (bs : List Byte) (c : Byte) :
    byteSum (bs ++ [c]) % 256 = 0 ↔ c = checkByte bs := by
  have := c.isLt
  rw [byteSum_append, ← BitVec.toNat_inj, checkByte, BitVec.toNat_ofNat]
  omega

/-! The fields of a notice. -/

theorem frameLength_present {b : Byte} : frameLength b = some 4 ↔ b.toNat / 16 = 9 := by
  rw [frameLength_eq]
  split
  · simp [*]
  · split <;> simp [*]

theorem frameLength_verdict {b : Byte} : frameLength b = some 10 ↔ b.toNat / 16 = 6 := by
  rw [frameLength_eq]
  split
  · simp [*]
  · split <;> simp [*]

/-- The byte of kind `kind` and address `a` (R101). -/
theorem kindByte_iff {b : Byte} {kind : Nat} (small : kind < 16) (a : Fin 16) :
    b = BitVec.ofNat 8 (16 * kind + a.val) ↔ b.toNat / 16 = kind ∧ Fin.ofNat 16 b.toNat = a := by
  have := b.isLt
  have := a.isLt
  rw [← BitVec.toNat_inj, BitVec.toNat_ofNat, Fin.ext_iff, Fin.val_ofNat]
  omega

/-- A PRESENT is decoded exactly from its bytes 1 and 2. -/
theorem decodePresent_iff {b1 b2 : Byte} {n : Notice} :
    (b1.toNat / 16 = 9 ∧ decodePresent b1 b2 = some n) ↔ ∃ addr level wiring freq,
      n = .present addr level wiring freq ∧ b1 = BitVec.ofNat 8 (0x90 + addr.val) ∧
      b2 = BitVec.ofNat 8 (64 * level.val + 32 * wiring.code + 16 * freq.code) := by
  have := b2.isLt
  constructor
  · rintro ⟨kind, decoded⟩
    unfold decodePresent at decoded
    split at decoded
    · next low =>
      refine ⟨_, _, _, _, (Option.some.inj decoded).symm,
        (kindByte_iff (kind := 9) (by omega) _).2 ⟨kind, rfl⟩, ?_⟩
      apply BitVec.eq_of_toNat_eq
      rw [BitVec.toNat_ofNat, Fin.val_ofNat]
      split <;> split <;> simp only [Wiring.code, Freq.code] <;> omega
    · exact absurd decoded (by simp)
  · rintro ⟨addr, level, wiring, freq, rfl, h1, h2⟩
    obtain ⟨kind, address⟩ := (kindByte_iff (kind := 9) (by omega) addr).1 h1
    have levels := level.isLt
    have byte : b2.toNat = 64 * level.val + 32 * wiring.code + 16 * freq.code := by
      rw [h2, BitVec.toNat_ofNat]
      cases wiring <;> cases freq <;> simp only [Wiring.code, Freq.code] <;> omega
    have level' : Fin.ofNat 4 (b2.toNat / 64) = level := by
      rw [Fin.ext_iff, Fin.val_ofNat, byte]
      cases wiring <;> cases freq <;> simp only [Wiring.code, Freq.code] <;> omega
    refine ⟨kind, ?_⟩
    unfold decodePresent
    rw [address, level', byte, if_pos (by omega)]
    have wiringBit : ((64 * level.val + 32 * wiring.code + 16 * freq.code) / 32 % 2 = 1) ↔ wiring = .delta := by
      cases wiring <;> cases freq <;> simp [Wiring.code, Freq.code] <;> omega
    have freqBit : ((64 * level.val + 32 * wiring.code + 16 * freq.code) / 16 % 2 = 1) ↔ freq = .hz60 := by
      cases wiring <;> cases freq <;> simp [Wiring.code, Freq.code] <;> omega
    simp only [wiringBit, freqBit]
    cases wiring <;> cases freq <;> rfl

theorem VerdictKind.ofCode_iff {n : Nat} {v : VerdictKind} :
    VerdictKind.ofCode n = some v ↔ n = v.code := by
  constructor
  · intro h
    unfold VerdictKind.ofCode at h
    split at h <;> cases h <;> rfl
  · rintro rfl
    cases v <;> rfl

theorem VerdictKind.code_lt (v : VerdictKind) : v.code < 3 := by cases v <;> decide

theorem Origin.code_lt (o : Origin) : o.code < 2 := by cases o <;> decide

/-- The origin that a bit of byte 2 says. -/
theorem Origin.of_code (o : Origin) : (if o.code = 1 then Origin.sympathetic else .triggered) = o := by
  cases o <;> rfl

theorem Origin.code_of_bit {n : Nat} (bit : n < 2) :
    (if n = 1 then Origin.sympathetic else .triggered).code = n := by
  split <;> simp only [Origin.code] <;> omega

/-- A VERDICT is decoded exactly from its bytes 1 and 2, with the three numbers that follow. -/
theorem decodeVerdict_iff {b1 b2 : Byte} {age dU dI : BitVec 16} {n : Notice} :
    (b1.toNat / 16 = 6 ∧ decodeVerdict b1 b2 age dU dI = some n) ↔ ∃ addr level v k origin,
      n = .verdict addr level v k origin age dU dI ∧ b1 = BitVec.ofNat 8 (0x60 + addr.val) ∧
      b2 = BitVec.ofNat 8 (64 * level.val + 16 * v.code + 4 * (k.val + 1) + 2 * origin.code) := by
  have := b2.isLt
  constructor
  · rintro ⟨kind, decoded⟩
    unfold decodeVerdict at decoded
    split at decoded
    · exact absurd decoded (by simp)
    · next v known =>
      have code := VerdictKind.ofCode_iff.1 known
      split at decoded
      · exact absurd decoded (by simp)
      · next fields =>
        refine ⟨_, _, _, _, _, (Option.some.inj decoded).symm,
          (kindByte_iff (kind := 6) (by omega) _).2 ⟨kind, rfl⟩, ?_⟩
        apply BitVec.eq_of_toNat_eq
        rw [BitVec.toNat_ofNat, Fin.val_ofNat, Fin.val_ofNat, Origin.code_of_bit (by omega)]
        omega
  · rintro ⟨addr, level, v, k, origin, rfl, h1, h2⟩
    obtain ⟨kind, address⟩ := (kindByte_iff (kind := 6) (by omega) addr).1 h1
    have levels := level.isLt
    have ks := k.isLt
    have codes := VerdictKind.code_lt v
    have origins := Origin.code_lt origin
    have byte : b2.toNat = 64 * level.val + 16 * v.code + 4 * (k.val + 1) + 2 * origin.code := by
      rw [h2, BitVec.toNat_ofNat]
      omega
    have level' : Fin.ofNat 4 (b2.toNat / 64) = level := by
      rw [Fin.ext_iff, Fin.val_ofNat]
      omega
    have k' : Fin.ofNat 3 (b2.toNat / 4 % 4 - 1) = k := by
      rw [Fin.ext_iff, Fin.val_ofNat]
      omega
    have verdict : VerdictKind.ofCode (b2.toNat / 16 % 4) = some v :=
      VerdictKind.ofCode_iff.2 (by omega)
    have originBit : b2.toNat / 2 % 2 = origin.code := by omega
    refine ⟨kind, ?_⟩
    unfold decodeVerdict
    rw [verdict, address, level', k', originBit, Origin.of_code]
    exact if_neg (by omega)

/-! Whole frames. -/

theorem encodeNotice_sum (n : Notice) : byteSum (encodeNotice n) % 256 = 0 :=
  (byteSum_check _ _).2 rfl

theorem decodeNotice_encodeNotice (n : Notice) : decodeNotice (encodeNotice n) = some n := by
  unfold decodeNotice
  rw [if_neg (not_not.2 (encodeNotice_sum n))]
  cases n with
  | present addr level wiring freq =>
    obtain ⟨kind, decoded⟩ := decodePresent_iff.2 ⟨addr, level, wiring, freq, rfl, rfl, rfl⟩
    exact (if_pos ⟨rfl, frameLength_present.2 kind⟩).trans decoded
  | verdict addr level v k origin age dU dI =>
    obtain ⟨kind, decoded⟩ := (decodeVerdict_iff (age := age) (dU := dU) (dI := dI)).2
      ⟨addr, level, v, k, origin, rfl, rfl, rfl⟩
    refine (if_pos ⟨rfl, frameLength_verdict.2 kind⟩).trans (Eq.trans ?_ decoded)
    refine congr (congr (congrArg _ ?_) ?_) ?_
    · exact fromBytes_bigEndian_two age
    · exact fromBytes_bigEndian_two dU
    · exact fromBytes_bigEndian_two dI

theorem eq_encodeNotice_of_decodeNotice {bs : List Byte} {n : Notice}
    (h : decodeNotice bs = some n) : bs = encodeNotice n := by
  unfold decodeNotice at h
  split at h
  · exact absurd h (by simp)
  · next sum =>
    have sum : byteSum bs % 256 = 0 := not_not.1 sum
    split at h
    · next b0 b1 b2 c _ =>
      split at h
      · next leader =>
        obtain ⟨addr, level, wiring, freq, rfl, h1, h2⟩ :=
          decodePresent_iff.1 ⟨frameLength_present.1 leader.2, h⟩
        have body : Notice.body (.present addr level wiring freq) = [b0, b1, b2] := by
          rw [Notice.body, ← h1, ← h2, leader.1]
        have check := (byteSum_check [b0, b1, b2] c).1 sum
        rw [encodeNotice, body, ← check]
        rfl
      · exact absurd h (by simp)
    · next b0 b1 b2 b3 b4 b5 b6 b7 b8 c _ =>
      split at h
      · next leader =>
        obtain ⟨addr, level, v, k, origin, rfl, h1, h2⟩ :=
          decodeVerdict_iff.1 ⟨frameLength_verdict.1 leader.2, h⟩
        have body : Notice.body (.verdict addr level v k origin (BitVec.ofNat 16 (fromBytes [b3, b4]))
            (BitVec.ofNat 16 (fromBytes [b5, b6])) (BitVec.ofNat 16 (fromBytes [b7, b8]))) =
              [b0, b1, b2, b3, b4, b5, b6, b7, b8] := by
          rw [Notice.body, ← h1, ← h2, leader.1, bigEndian_fromBytes_two, bigEndian_fromBytes_two,
            bigEndian_fromBytes_two]
          rfl
        have check := (byteSum_check [b0, b1, b2, b3, b4, b5, b6, b7, b8] c).1 sum
        rw [encodeNotice, body, ← check]
        rfl
      · exact absurd h (by simp)
    · exact absurd h (by simp)

/-! Requests. -/

theorem decodeRequest_encodeRequest {r : Request} (h : r ≠ .malformed) :
    decodeRequest (encodeRequest r) = r := by
  cases r with
  | release id => exact congrArg Request.release (fromBytes_bigEndian_two id)
  | wave id q p => exact congrArg (Request.wave · q p) (fromBytes_bigEndian_two id)
  | interval n => exact congrArg Request.interval (fromBytes_bigEndian_four n)
  | set i v => exact congrArg (Request.set i) (fromBytes_bigEndian_four v)
  | malformed => exact absurd rfl h
  | _ => rfl

/-- The bytes `code :: ops` are malformed, or the bytes of the request that they form. -/
def Spells (code : Byte) (ops : List Byte) : Prop :=
  decodeRequest (code :: ops) = .malformed ∨
    code :: ops = encodeRequest (decodeRequest (code :: ops))

/-- A code without operands spells its request alone. -/
theorem Spells.alone {code : Byte} {r : Request} (decoded : decodeRequest [code] = r)
    (encoded : encodeRequest r = [code])
    (longer : ∀ a ops, decodeRequest (code :: a :: ops) = .malformed) (ops : List Byte) :
    Spells code ops := by
  cases ops with
  | nil => exact .inr (by rw [decoded, encoded])
  | cons a ops => exact .inl (longer a ops)

/-- A code that is not in the table spells nothing (R170). -/
theorem decodeRequest_unknown {code : Byte} (h : code.toNat = 0 ∨ code.toNat = 13 ∨
    code.toNat = 14 ∨ code.toNat = 15 ∨ ∃ n, code.toNat = n + 19) (ops : List Byte) :
    decodeRequest (code :: ops) = .malformed := by
  delta decodeRequest
  rcases h with h | h | h | h | ⟨n, h⟩ <;> dsimp only <;> rw [h]
  all_goals rfl

/-- The table of R170, code by code. -/
theorem spells (code : Byte) (ops : List Byte) : Spells code ops := by
  by_cases unknown : code.toNat = 0 ∨ code.toNat = 13 ∨ code.toNat = 14 ∨ code.toNat = 15 ∨
      ∃ n, code.toNat = n + 19
  · exact .inl (decodeRequest_unknown unknown ops)
  · have known : code.toNat ∈ [1, 2, 3, 4, 5, 6, 7, 8, 9, 10, 11, 12, 16, 17, 18] := by
      simp only [not_or] at unknown
      obtain ⟨n0, n13, n14, n15, n19⟩ := unknown
      have : code.toNat < 19 := Nat.lt_of_not_le fun le => n19 ⟨_, (Nat.sub_add_cancel le).symm⟩
      simp
      omega
    have codeIs (n : Nat) (e : code.toNat = n) : code = BitVec.ofNat 8 n := by
      rw [← e, BitVec.ofNat_toNat, BitVec.setWidth_eq]
    simp only [List.mem_cons, List.not_mem_nil, or_false] at known
    rcases known with e | e | e | e | e | e | e | e | e | e | e | e | e | e | e <;> cases codeIs _ e
    · exact .alone rfl rfl (fun _ _ => rfl) ops
    · match ops with
      | [q] => exact .inr rfl
      | [] | _ :: _ :: _ => exact .inl rfl
    · exact .alone rfl rfl (fun _ _ => rfl) ops
    · exact .alone rfl rfl (fun _ _ => rfl) ops
    · match ops with
      | [a, b] => exact .inr (congrArg (0x05 :: ·) (bigEndian_fromBytes_two a b).symm)
      | [] | [_] | _ :: _ :: _ :: _ => exact .inl rfl
    · match ops with
      | [a, b, q, h] =>
        exact .inr (congrArg (0x06 :: · ++ [q, h]) (bigEndian_fromBytes_two a b).symm)
      | [] | [_] | [_, _] | [_, _, _] | _ :: _ :: _ :: _ :: _ :: _ => exact .inl rfl
    · match ops with
      | [a, b, c, d] => exact .inr (congrArg (0x07 :: ·) (bigEndian_fromBytes_four a b c d).symm)
      | [] | [_] | [_, _] | [_, _, _] | _ :: _ :: _ :: _ :: _ :: _ => exact .inl rfl
    · exact .alone rfl rfl (fun _ _ => rfl) ops
    · exact .alone rfl rfl (fun _ _ => rfl) ops
    · exact .alone rfl rfl (fun _ _ => rfl) ops
    · match ops with
      | [i, a, b, c, d] =>
        exact .inr (congrArg (0x0B :: i :: ·) (bigEndian_fromBytes_four a b c d).symm)
      | [] | [_] | [_, _] | [_, _, _] | [_, _, _, _] | _ :: _ :: _ :: _ :: _ :: _ :: _ => exact .inl rfl
    · match ops with
      | [q] => exact .inr rfl
      | [] | _ :: _ :: _ => exact .inl rfl
    · exact .alone rfl rfl (fun _ _ => rfl) ops
    · exact .alone rfl rfl (fun _ _ => rfl) ops
    · exact .alone rfl rfl (fun _ _ => rfl) ops

/-- Settles O44: each direction by the fields of the frame. -/
theorem framesDecodeAndEncodeAgree : Obligations.FramesDecodeAndEncodeAgree := by
  unfold Obligations.FramesDecodeAndEncodeAgree
  refine ⟨fun n => ⟨checkByte n.body, ?_, encodeNotice_sum n, ?_⟩,
    fun bs n => ⟨eq_encodeNotice_of_decodeNotice, fun h => h ▸ decodeNotice_encodeNotice n⟩,
    fun r known => ?_, fun bs r known => ⟨fun decoded => ?_, fun h => h ▸ decodeRequest_encodeRequest known⟩⟩
  · cases n with
    | present addr level wiring freq =>
      refine congrArg (fun bs : List Byte => bs ++ [checkByte (Notice.body _)]) ?_
      rw [Notice.body, Nat.mul_comm]
      cases wiring <;> cases freq <;> rfl
    | verdict addr level v k origin age dU dI =>
      refine congrArg (fun bs : List Byte => bs ++ [checkByte (Notice.body _)]) ?_
      dsimp only
      rw [i16_toInt, i16_toInt, ← bigEndian_two, Notice.body, Nat.mul_comm 64, Nat.mul_comm 4]
      cases v <;> cases origin <;> rfl
  · cases n <;> rfl
  · cases r with
    | malformed => exact absurd rfl known
    | live q => exact congrArg (0x02 :: ·) (u8_toNat q).symm
    | release id => exact congrArg (0x05 :: ·) (bigEndian_two _)
    | wave id q p =>
      dsimp only
      rw [u8_toNat, u8_toNat]
      exact congrArg (0x06 :: · ++ [q, p]) (bigEndian_two _)
    | interval seq => exact congrArg (0x07 :: ·) (bigEndian_four _)
    | set item v =>
      dsimp only
      rw [u8_toNat]
      exact congrArg (0x0B :: item :: ·) (bigEndian_four _)
    | get item => exact congrArg (0x0C :: ·) (u8_toNat item).symm
    | _ => rfl
  · cases bs with
    | nil => exact absurd (decoded.symm.trans (by delta decodeRequest; rfl)) known
    | cons code ops =>
      rcases spells code ops with malformed | bytes
      · exact absurd (decoded.symm.trans malformed) known
      · rw [bytes, decoded]

end Sys2Proof.Machine
end


section
/-! The detector and the refreshes it takes in RUN: judging, measuring, the end of an event and the
expiry of MAX_OPEN (R46, R51 to R58). -/

namespace Sys2Proof.Machine

variable {s : State} {t : Nat} {failed : Option (Fin 9)} {e : Refresh} {rest : List Refresh}
  {conds : Vector Cond 3}

/-! Conditions. -/

theorem isAllBack_iff : isAllBack conds = true ↔ ∀ k : Fin 3, conds[k] = .back := by
  simp [isAllBack]

theorem someCond_iff {c : Cond} : someCond conds c = true ↔ ∃ k : Fin 3, conds[k] = c := by
  simp [someCond]

theorem not_isAllBack (h : ∃ k : Fin 3, conds[k] ≠ .back) : ¬isAllBack conds = true :=
  fun back => h.elim fun k out => out (isAllBack_iff.1 back k)

theorem State.interrupted_iff : s.interrupted e = true ↔
    ∀ k : Fin 3, e.value[dIndex k] < (s.setFor e.index k).intStart := by
  simp [State.interrupted]

theorem State.judgeConds_eq
    (h : ∀ k : Fin 3, conds[k] = judgeCond (s.setFor e.index k) e.value[dIndex k] s.det.cond[k]) :
    s.judgeConds e = conds := by
  ext k hk
  exact (Vector.getElem_ofFn hk).trans (h ⟨k, hk⟩).symm

/-- The set for a refresh that still waits for the tracker is the following one, else the one in
force (R39, R44). -/
theorem State.setFor_spec (s : State) (n : RefIndex) (k : Fin 3) :
    ((∃ x ∈ s.ref.handed, x.index = n) → s.setFor n k = s.ref.d[k].following) ∧
    ((∀ x ∈ s.ref.handed, x.index ≠ n) → s.setFor n k = s.ref.d[k].inForce) := by
  have behind : s.trackerBehind n = true ↔ ∃ x ∈ s.ref.handed, x.index = n := by
    simp [State.trackerBehind]
  exact ⟨fun h => if_pos (behind.2 h), fun h => if_neg fun b =>
    (behind.1 b).elim fun x hx => h x hx.1 hx.2⟩

/-! The refresh taken. -/

/-- The state in which the detector judges the refresh that it has taken off. -/
def State.judging (s : State) (t : Nat) (rest : List Refresh) : State :=
  (s.elapse t).withDet { s.det with handed := rest }

theorem State.judging_conds
    (h : ∀ k : Fin 3, conds[k] = judgeCond (s.setFor e.index k) e.value[dIndex k] s.det.cond[k]) :
    (s.judging t rest).judgeConds e = conds :=
  State.judgeConds_eq (s := s.judging t rest) h

/-- Outside RUN the refresh is only taken off (R45). -/
theorem exec_detectorTakes_of_stopped (handed : s.det.handed = e :: rest) (stopped : s.ctl.state ≠ .run) :
    exec (.detectorTakesRefresh t failed) s = .next (s.judging t rest) := by
  refine congrArg Host.Outcome.next ?_
  unfold State.detectorTakes
  rw [State.elapse_det, handed]
  exact if_neg stopped

theorem exec_detectorTakes_of_run (handed : s.det.handed = e :: rest) (run : s.ctl.state = .run) :
    exec (.detectorTakesRefresh t failed) s =
      .next ((s.judging t rest).judgeRefresh e failed id) := by
  refine congrArg Host.Outcome.next ?_
  unfold State.detectorTakes
  rw [State.elapse_det, handed]
  exact if_pos run

theorem State.judgeRefresh_watch {between : State → State} (mode : s.det.mode = .watch) :
    s.judgeRefresh e failed between =
      if isAllBack (s.judgeConds e) then s.withDet { s.det with cond := s.judgeConds e }
      else s.takeCrossing e (s.judgeConds e) failed between := by
  unfold State.judgeRefresh
  rw [mode]

theorem State.judgeRefresh_event {between : State → State} {m : Measurement} {id : Nat} {expiry : Ms}
    (mode : s.det.mode = .event m id expiry) :
    s.judgeRefresh e failed between =
      if isAllBack (s.judgeConds e) then s.endEvent m id e
      else s.measureEvent m id expiry e (s.judgeConds e) := by
  unfold State.judgeRefresh
  rw [mode]

theorem State.judgeRefresh_held {between : State → State} {m : Measurement} {id : Nat}
    (mode : s.det.mode = .held m id) :
    s.judgeRefresh e failed between =
      if isAllBack (s.judgeConds e) then s.takeReturn m id e failed
      else s.measureHeld m id e (s.judgeConds e) := by
  unfold State.judgeRefresh
  rw [mode]

/-- A measured refresh: extremes, directions and flags (R51 to R53). -/
theorem State.updateMeasure_spec (s : State) (m : Measurement) (e : Refresh) (conds : Vector Cond 3) :
    let m' := s.updateMeasure m e conds
    m'.crossing = m.crossing ∧ m'.time = m.time ∧ m'.last = e.index ∧ m'.onset = m.onset ∧
    (∀ k : Fin 3, m'.dmin[k] = min m.dmin[k] e.value[dIndex k] ∧
      m'.dmax[k] = max m.dmax[k] e.value[dIndex k]) ∧
    (m'.low = true ↔ m.low = true ∨ ∃ k : Fin 3, conds[k] = .outLow) ∧
    (m'.high = true ↔ m.high = true ∨ ∃ k : Fin 3, conds[k] = .outHigh) ∧
    (m'.int = true ↔ m.int = true ∨
      ∀ k : Fin 3, e.value[dIndex k] < (s.setFor e.index k).intStart) ∧
    (m'.clip = true ↔ m.clip = true ∨ ∃ q : Fin 11, e.clip[q] = true) ∧
    (m'.freeRun = true ↔ m.freeRun = true ∨ e.freeRun = true) := by
  have d (k : Fin 3) : e.dValues[k] = e.value[dIndex k] := Vector.getElem_ofFn k.isLt
  refine ⟨rfl, rfl, rfl, rfl, fun k => ?_, ?_, ?_, ?_, ?_, ?_⟩
  · rw [← d k]
    exact ⟨Vector.getElem_ofFn k.isLt, Vector.getElem_ofFn k.isLt⟩
  · rw [← someCond_iff]
    exact Bool.or_eq_true _ _ ▸ Iff.rfl
  · rw [← someCond_iff]
    exact Bool.or_eq_true _ _ ▸ Iff.rfl
  · rw [← State.interrupted_iff]
    exact Bool.or_eq_true _ _ ▸ Iff.rfl
  · rw [← Refresh.anyClip_iff]
    exact Bool.or_eq_true _ _ ▸ Iff.rfl
  · exact Bool.or_eq_true _ _ ▸ Iff.rfl

/-- Settles O26, by the mode of the detector. -/
theorem detectorJudgesTheRefresh : Obligations.DetectorJudgesTheRefresh := by
  unfold Obligations.DetectorJudgesTheRefresh
  refine ⟨State.setFor_spec, fun t failed e rest s conds handed judged => ?_⟩
  intro below clipped
  have judged : (s.judging t rest).judgeConds e = conds := State.judging_conds judged
  refine ⟨exec_detectorTakes_of_stopped handed, fun run watch back => ?_,
    fun m id expiry run event out => ?_, fun m id run held out => ?_⟩
  · rw [exec_detectorTakes_of_run handed run, State.judgeRefresh_watch (show (s.judging t rest).det.mode = _
      from watch), judged, if_pos (isAllBack_iff.2 back)]
    exact congrArg (fun mode => Host.Outcome.next ((s.elapse t).withDet ⟨mode, conds, rest⟩)) watch
  · have served : exec (.detectorTakesRefresh t failed) s =
        .next ((s.judging t rest).measureEvent m id expiry e conds) := by
      rw [exec_detectorTakes_of_run handed run, State.judgeRefresh_event
        (show (s.judging t rest).det.mode = _ from event), judged, if_neg (not_isAllBack out)]
    refine ⟨_, (s.judging t rest).updateMeasure m e conds, served, ?_, ?_, ?_⟩
    · have clock : onlyChanges [.det, .store] s (s.elapse t) :=
        ⟨fun b _ => by cases b <;> rfl, rfl⟩
      refine onlyChanges_trans clock (((State.withDet_frame _ _).comp
        (State.measureEvent_frame _ _ _ _ _ _)).mono (by simp)).only
    · unfold State.measureEvent
      split <;> rfl
    · obtain ⟨crossing, time, last, onset, extremes, low, high, int, clip, freeRun⟩ :=
        (s.judging t rest).updateMeasure_spec m e conds
      refine ⟨crossing, time, last, onset, extremes, low, high, int, clip, freeRun, ?_⟩
      unfold State.measureEvent
      by_cases none : id = 0
      · rw [if_pos none]
        exact ((List.map_congr_left fun r _ => if_neg fun h => h.1 none).trans (List.map_id' _)).symm
      · rw [if_neg none]
        exact List.map_congr_left fun r _ => if_congr (by simp [none]) rfl rfl
  · have served : exec (.detectorTakesRefresh t failed) s =
        .next ((s.judging t rest).measureHeld m id e conds) := by
      rw [exec_detectorTakes_of_run handed run, State.judgeRefresh_held
        (show (s.judging t rest).det.mode = _ from held), judged, if_neg (not_isAllBack out)]
    exact ⟨(s.judging t rest).updateMeasure m e conds, served,
      (s.judging t rest).updateMeasure_spec m e conds⟩

/-! The end of an event. -/

/-- The record of an event that is finished (R54, R58, R63). -/
def Record.finished (m : Measurement) (halves durationMs : Nat) (ongoing aborted : Bool) (r : Record) :
    Record :=
  { r with
    durationMs := saturate32 durationMs, halfCycles := halves, cls := m.cls, running := false
    flags := { r.flags with
      ongoing := r.flags.ongoing || ongoing, aborted := r.flags.aborted || aborted } }

/-- Finishing an event changes its record alone, and judges it. -/
theorem State.finishEvent_record (s : State) (m : Measurement) {id : Nat} (halves durationMs : Nat)
    (ongoing aborted : Bool) (recorded : id ≠ 0) : ∃ g : Record → Record,
      (s.finishEvent m id halves durationMs ongoing aborted).store.queue = s.store.queue.map g ∧
      ∀ r : Record, (if r.id = id then r.finished m halves durationMs ongoing aborted else r).Judged (g r) := by
  unfold State.finishEvent
  rw [if_neg recorded]
  obtain ⟨g, queue, judged⟩ := State.judge_map
    (s.editRecord id (Record.finished m halves durationMs ongoing aborted)) id
  refine ⟨_, queue.trans (List.map_map ..), fun r => ?_⟩
  exact judged _

/-- An event without a record is counted by the tally of its class (R50, R147). -/
theorem State.finishEvent_tally (s : State) (m : Measurement) (halves durationMs : Nat)
    (ongoing aborted : Bool) :
    (s.finishEvent m 0 halves durationMs ongoing aborted).store.queue = s.store.queue ∧
    (s.finishEvent m 0 halves durationMs ongoing aborted).store.tally[m.cls.index] =
      s.store.tally[m.cls.index].add m.measure.residual m.measure.maximum (saturate32 durationMs) :=
  ⟨rfl, Vector.getElem_set_self _⟩

/-- The finished record of the event, found in the queue after it (R54 to R56). -/
theorem State.finishEvent_mem (s : State) (m : Measurement) {id : Nat} (halves durationMs : Nat)
    (ongoing aborted : Bool) (recorded : id ≠ 0) {r : Record} (hr : r ∈ s.store.queue) (hid : r.id = id) :
    ∃ r' ∈ (s.finishEvent m id halves durationMs ongoing aborted).store.queue,
      (r.finished m halves durationMs ongoing aborted).Judged r' := by
  obtain ⟨g, queue, judged⟩ := s.finishEvent_record m halves durationMs ongoing aborted recorded
  refine ⟨g r, queue ▸ List.mem_map_of_mem hr, ?_⟩
  have := judged r
  rwa [if_pos hid] at this

/-- Settles O28, by the record of the event or the tally. -/
theorem eventEndsWhenAllAreBack : Obligations.EventEndsWhenAllAreBack := by
  unfold Obligations.EventEndsWhenAllAreBack
  intro t failed e rest s m id expiry handed back run event
  have judged : isAllBack ((s.judging t rest).judgeConds e) = true :=
    isAllBack_iff.2 fun k => (Vector.getElem_ofFn k.isLt).trans (back k)
  have served : exec (.detectorTakesRefresh t failed) s =
      .next ((s.judging t rest).endEvent m id e) := by
    rw [exec_detectorTakes_of_run handed run, State.judgeRefresh_event
      (show (s.judging t rest).det.mode = _ from event), if_pos judged]
  have finished := (s.judging t rest).finishEvent_frame m id (saturate32 (e.index - m.crossing).toNat)
    (e.stamp - m.time).toNat false false
  refine ⟨_, served, rfl, fun k => ?_, ?_, ?_, fun recorded r hr hid => ?_, fun none => ?_⟩
  · exact Vector.getElem_replicate k.isLt
  · exact congrArg Detector.handed (finished.only.1 .det (by decide))
  · exact congrArg (fun x : RefTracker => x.endReports + 1) (finished.only.1 .ref (by decide))
  · obtain ⟨r', mem, judged⟩ := (s.judging t rest).finishEvent_mem m
      (saturate32 (e.index - m.crossing).toNat) (e.stamp - m.time).toNat false false recorded hr hid
    refine ⟨r', mem, ?_⟩
    rw [judged]
    exact ⟨hid, rfl, rfl, rfl, rfl, rfl⟩
  · subst none
    exact (s.judging t rest).finishEvent_tally m 0 (e.stamp - m.time).toNat false false

/-- Settles O29, by the record of the event or the tally. -/
theorem maxOpenHoldsTheEvent : Obligations.MaxOpenHoldsTheEvent := by
  unfold Obligations.MaxOpenHoldsTheEvent
  intro t s m id expiry event reached
  have served : exec (.maxOpenExpiry t) s = .next
      ((((s.elapse t).finishEvent m id m.halves (1000 * s.maxOpen) true false).reportEnd).withDet
        { ((s.elapse t).finishEvent m id m.halves (1000 * s.maxOpen) true false).det with
          mode := .held m id }) := by
    refine congrArg Host.Outcome.next ?_
    rw [State.elapse_det, event]
    exact if_pos reached
  have finished := (s.elapse t).finishEvent_frame m id m.halves (1000 * s.maxOpen) true false
  refine ⟨_, served, ?_, ?_, fun recorded r hr hid => ?_, fun none => ?_⟩
  · exact congrArg (fun x : Detector => { x with mode := .held m id }) (finished.only.1 .det (by decide))
  · exact congrArg (fun x : RefTracker => x.endReports + 1) (finished.only.1 .ref (by decide))
  · obtain ⟨r', mem, judged⟩ := (s.elapse t).finishEvent_mem m m.halves (1000 * s.maxOpen) true false
      recorded hr hid
    refine ⟨r', mem, ?_⟩
    rw [judged]
    exact ⟨hid, rfl, Bool.or_true _, rfl, rfl, rfl⟩
  · subst none
    exact (s.elapse t).finishEvent_tally m 0 (1000 * s.maxOpen) true false

end Sys2Proof.Machine
end


section
/-! A record made: what the store adds (R145) and what its capture request makes of it (R71 to R79);
and the CONTINUATION that the return makes (R60 to R62). -/

namespace Sys2Proof.Machine

variable {s u : State} {r r' : Record} {t : Ms} {id : Nat} {a : RefIndex} {failed : Option (Fin 9)}

/-! The record added. -/

theorem State.addRecord_queue (s : State) (r : Record) (t : Ms) :
    (s.addRecord r t).store.queue = s.store.queue ++ [s.made r t] := by
  rw [State.addRecord_store]
  rfl

theorem State.addRecord_nextId (s : State) (r : Record) (t : Ms) :
    (s.addRecord r t).store.nextId = if 65535 ≤ s.store.nextId then 1 else s.store.nextId + 1 := by
  rw [State.addRecord_store]
  rfl

/-- STORE_FULL is raised at the 48th record (R145). -/
theorem State.addRecord_storeFull (s : State) (r : Record) (t : Ms) :
    (s.addRecord r t).ctl.causes[(9 : Fin 13)] =
      if s.store.queue.length = 47 then ⟨true, 0, false⟩ else s.ctl.causes[(9 : Fin 13)] := by
  have full : (s.store.queue ++ [s.made r t]).length = 48 ↔ s.store.queue.length = 47 := by
    rw [List.length_append, List.length_singleton]
    omega
  unfold State.addRecord
  dsimp only
  split
  · next h => exact (State.raise_causes _ .storeFull 0 9).trans (if_pos (full.1 h)).symm
  · next h => exact (if_neg fun e => h (full.2 e)).symm

theorem State.addRecord_idsSound (ids : s.ledger.IdsSound) (room : s.hasRoom = true) (r : Record)
    (t : Ms) : (s.addRecord r t).ledger.IdsSound := by
  have length : s.ledger.ids.length < 48 := by
    have := State.room_of_hasRoom room
    simpa [Ledger.ids] using this
  have := ids.append length
  rw [State.addRecord_ledger]
  unfold Ledger.IdsSound Ledger.ids at *
  rw [List.map_append]
  exact this

theorem State.idsUnique_of_sound (ids : s.ledger.IdsSound) : s.IdsUnique := by
  have nodup := ids.nodup
  unfold Ledger.ids State.ledger at nodup
  rw [List.map_map] at nodup
  exact nodup

/-! The capture request. -/

/-- A capture request writes a waveform part, or ends in a memory check error of the slot that it has
just opened, where one of its copies fails (R71 to R74, R79). -/
theorem State.captureRequest_cases (s : State) (id : Nat) (a : RefIndex) (failed : Option (Fin 9)) :
    (∃ x w, s.captureRequest id a failed = (s.withCap x).writeWave id w ∧ x.on = s.cap.on) ∨
    ∃ k sl, s.fillingSlot = none ∧ sl.state = .filling ∧ failed ≠ none ∧
      s.captureRequest id a failed = ((s.slotOpened k id a).setSlot k sl).memoryError k := by
  have answered (w : WavePart) : s.writeWave id w = (s.withCap s.cap).writeWave id w := rfl
  unfold State.captureRequest
  split
  · exact .inl ⟨_, _, answered _, rfl⟩
  split
  · exact .inl ⟨_, _, answered _, rfl⟩
  · next newest _ _ =>
    split
    · dsimp only
      split
      · exact .inl ⟨_, _, rfl, rfl⟩
      · exact .inl ⟨_, _, answered _, rfl⟩
    · next none =>
      split
      · next k _ =>
        rw [State.openSlot_eq]
        generalize (newest.index - a).toNat = ahead
        generalize (if ahead = 0 then 8 else 9) = n
        have opened (m : Nat) :
            (((s.slotOpened k id a).cap.slots[k].putAll (s.behind ahead) m)).state = .filling := by
          induction m with
          | zero => exact s.slotOpened_fills k id a
          | succ m ih => rw [Slot.putAll_succ, Slot.put_state, ih]
        by_cases bad : ∃ i : Fin 9, failed = some i ∧ i.val < n
        · obtain ⟨i, rfl, hi⟩ := bad
          exact .inr ⟨k, _, none, opened _, Option.some_ne_none _, State.copies_failed (s.slotOpened_fills k id a) _ _ hi
            (fun j hj => beq_eq_false_iff_ne.2 fun e => absurd (Option.some.inj e) (by omega))
            (beq_iff_eq.2 rfl)⟩
        · refine .inl ⟨_, _, State.copies_clean (s.slotOpened_fills k id a) _ _ fun j hj =>
            beq_eq_false_iff_ne.2 fun e => ?_, rfl⟩
          obtain ⟨i, hi, rfl⟩ := Option.map_eq_some_iff.1 e
          exact bad ⟨i, hi, hj⟩
      · exact .inl ⟨_, _, answered _, rfl⟩

/-- `r'` is `r`, but for the waveform part, the state OPEN, and the flags ABORTED and WAVE_LOST. -/
def Record.Captured (r r' : Record) : Prop :=
  r' = { r with
    isOpen := r'.isOpen, wave := r'.wave
    flags := { r.flags with aborted := r'.flags.aborted, waveLost := r'.flags.waveLost } }

theorem Record.Captured.trans {r r' r'' : Record} (h : r.Captured r') (h' : r'.Captured r'') :
    r.Captured r'' := by
  unfold Record.Captured at *
  rw [h', h]

theorem Record.Judged.captured (h : r.Judged r') : r.Captured r' := by
  unfold Record.Judged at h
  unfold Record.Captured
  rw [h]

theorem State.spoils_captured (s : State) (k : Fin 8) (r : Record) : r.Captured (s.spoils k r) := by
  rw [State.spoils_eq]
  rfl

/-- A capture request keeps every other field of the records. -/
theorem State.captureRequest_map (s : State) (id : Nat) (a : RefIndex) (failed : Option (Fin 9)) :
    ∃ g : Record → Record, (s.captureRequest id a failed).store.queue = s.store.queue.map g ∧
      ∀ r : Record, r.Captured (g r) := by
  have named (w : WavePart) (r : Record) :
      r.Captured (if r.id = id then { r with wave := w } else r) := by
    split <;> rfl
  rcases s.captureRequest_cases id a failed with ⟨x, w, e, -⟩ | ⟨k, sl, -, -, -, e⟩
  · exact ⟨_, congrArg (fun u : State => u.store.queue) e, named w⟩
  · obtain ⟨g, queue, spoilt⟩ := State.memoryError_map ((s.slotOpened k id a).setSlot k sl) k
    refine ⟨_, ((congrArg (fun u : State => u.store.queue) e).trans queue).trans (List.map_map ..),
      fun r => ?_⟩
    exact ((named (.present k 8) r).trans (State.spoils_captured _ k _)).trans (spoilt _).captured

/-- The record that a capture request is for has its waveform part, or has lost it to a memory check
error, and is judged then (R71, R79, R149). -/
theorem State.captureRequest_own (unique : s.IdsUnique) (hr : r ∈ s.store.queue) (a : RefIndex)
    (failed : Option (Fin 9)) : ∃ r' ∈ (s.captureRequest r.id a failed).store.queue,
      (∃ w, r' = { r with wave := w }) ∨
      r' = ({ r with wave := .absent .waveLost, flags := { r.flags with waveLost := true } } :
        Record).settled s.store.view true := by
  classical
  rcases s.captureRequest_cases r.id a failed with ⟨x, w, e, -⟩ | ⟨k, sl, none, fills, -, e⟩
  · refine ⟨{ r with wave := w }, ?_, .inl ⟨w, rfl⟩⟩
    rw [e]
    exact List.mem_map.2 ⟨r, hr, if_pos rfl⟩
  · let opened := (s.slotOpened k r.id a).setSlot k sl
    let named (x : Record) : Record := if x.id = r.id then { x with wave := .present k 8 } else x
    have queue : opened.store.queue = s.store.queue.map named := rfl
    have unique' : opened.IdsUnique := unique.map queue fun x => by
      dsimp only [named]
      split <;> rfl
    have slot (j : Fin 8) : opened.cap.slots[j] = if j = k then sl else s.cap.slots[j] := by
      refine (State.setSlot_slot _ k sl j).trans ?_
      split
      · rfl
      · next other => exact (State.setSlot_slot s k _ j).trans (if_neg other)
    have only (j : Fin 8) (hj : opened.fills j) : j = k := by
      by_contra other
      unfold State.fills at hj
      rw [slot j, if_neg other] at hj
      exact State.not_fills_of_fillingSlot none j hj
    have used : opened.cap.slots[k].inUse = true := by
      rw [slot k, if_pos rfl]
      unfold Slot.inUse
      rw [fills]
      rfl
    have names : ({ r with wave := .present k 8 } : Record).names k = true := beq_self_eq_true k
    refine ⟨_, ?_, .inr rfl⟩
    rw [e, State.memoryError_queue unique' (fun i j hi hj => (only i hi).trans (only j hj).symm) k, queue]
    refine List.mem_map.2 ⟨{ r with wave := .present k 8 }, List.mem_map.2 ⟨r, hr, if_pos rfl⟩, ?_⟩
    rw [State.spoils_eq, used, names]
    simp only [Bool.and_self, Bool.true_or, Bool.or_true, if_true]
    rfl

/-- A record made by `made`, captured, is the one that the statements on new records speak of. -/
theorem recordMade_of {made : State} (queue : made.store.queue = s.store.queue ++ [r])
    (rid : r.id = s.store.nextId) (cap : made.cap = s.cap) (rms : made.rms = s.rms)
    (cfe : made.cfe = s.cfe)
    (next : made.store.nextId = if 65535 ≤ s.store.nextId then 1 else s.store.nextId + 1)
    (full : made.ctl.causes[(9 : Fin 13)] =
      if s.store.queue.length = 47 then ⟨true, 0, false⟩ else s.ctl.causes[(9 : Fin 13)])
    (a : RefIndex) (failed : Option (Fin 9)) :
    recordMade s (made.captureRequest s.store.nextId a failed) a failed := by
  refine ⟨⟨made, r, rfl, queue, rid, cap, rms, cfe⟩, ?_, ?_⟩
  · rw [(made.captureRequest_rewrites _ a failed).store]
    exact next
  · exact (made.captureRequest_raises s.store.nextId a failed 9 (by decide)).trans full

/-! The return (R60 to R62). -/

/-- A judgement settles the records. -/
theorem State.judge_settles (s : State) (id : Nat) : Settles s (s.judge id) := fun due => by
  rw [State.judge_ledger]
  exact ((Ledger.Move.relax _ fun _ h => List.mem_cons_of_mem _ h).moves).trans
    (Ledger.moves_judgeAll [id] due _)

/-- The new CONTINUATION that has been captured and judged: OPEN exactly where its slot fills, and
RECORD_CLOSED where it is not (R149, R150). -/
theorem State.continuation_judged {made : State} (ids : made.ledger.IdsSound)
    (hr : r ∈ made.store.queue) (isOpen : r.isOpen = true) (running : r.running = false)
    (anchor : r.anchorOpen = false) (newest : made.ledger.Newest r.id) (a : RefIndex)
    (failed : Option (Fin 9)) :
    let asked := made.captureRequest r.id a failed
    ∃ r0 ∈ asked.store.queue, r0.id = r.id ∧ ∃ r' ∈ (asked.judge r.id).store.queue, r'.id = r.id ∧
      r.Captured r' ∧ r'.wave = r0.wave ∧
      (r'.isOpen = true ↔ ∃ (k : Fin 8) (offset : Nat), r'.wave = .present k offset ∧
        (asked.judge r.id).cap.slots[k].state = .filling) ∧
      (r'.isOpen = false → (asked.judge r.id).ctl.causes[(8 : Fin 13)] = ⟨true, 0, false⟩) := by
  intro asked
  have unique := State.idsUnique_of_sound ids
  obtain ⟨g, map, captured⟩ := made.captureRequest_map r.id a failed
  have unique' : asked.IdsUnique := unique.map map fun x => by rw [captured x]
  obtain ⟨r0, mem, own⟩ := State.captureRequest_own unique hr a failed
  have rid0 : r0.id = r.id := by
    rcases own with ⟨w, rfl⟩ | rfl
    · rfl
    · exact Record.settled_id _ _ _
  have judged : asked.judged [r.id] r0 ∈ (asked.judge r.id).store.queue := by
    rw [State.judge_queue unique']
    exact List.mem_map_of_mem mem
  have wave : (asked.judged [r.id] r0).wave = r0.wave := by
    unfold State.judged
    split <;> rfl
  have rid' : (asked.judged [r.id] r0).id = r.id := by
    rw [← rid0]
    unfold State.judged
    split <;> rfl
  have kept : r.Captured (asked.judged [r.id] r0) := by
    have first : r.Captured r0 := by
      rcases own with ⟨w, rfl⟩ | rfl
      · rfl
      · exact Record.Captured.trans (r' := { r with
          wave := .absent .waveLost, flags := { r.flags with waveLost := true } }) rfl
          (Record.settled_judged _ _ _).captured
    refine first.trans ?_
    unfold State.judged
    split
    · exact (closedRecord_judged _ _).captured
    · rfl
  have filling : asked.slotFilling r0 = true ↔ ∃ (k : Fin 8) (offset : Nat),
      (asked.judged [r.id] r0).wave = .present k offset ∧
        (asked.judge r.id).cap.slots[k].state = .filling := by
    rw [wave, State.judge_cap]
    unfold State.slotFilling
    cases r0.wave with
    | present k offset =>
      rw [beq_iff_eq]
      exact ⟨fun h => ⟨k, offset, rfl, h⟩, fun ⟨j, o, e, h⟩ => by
        obtain ⟨rfl, -⟩ := WavePart.present.inj e
        exact h⟩
    | absent why => simp
  refine ⟨r0, mem, rid0, _, judged, rid', kept, wave, ?_, fun closed => ?_⟩
  · rw [← filling]
    rcases own with ⟨w, e⟩ | e
    · have closable : asked.closable r0 = !asked.slotFilling r0 := by
        unfold State.closable
        rw [e]
        simp [running, anchor]
      unfold State.judged
      rw [closable]
      cases hf : asked.slotFilling r0 with
      | true =>
        simp [e, isOpen]
      | false =>
        rw [if_pos (by simp [e, isOpen])]
        simp [closedRecord]
    · have shut : r0.isOpen = false := by
        rw [e]
        unfold Record.settled
        rw [if_pos (by simp [isOpen, running, anchor])]
        rfl
      have lost : asked.slotFilling r0 = false := by
        have gone : r0.wave = .absent .waveLost := by
          rw [e, Record.settled_judged]
        unfold State.slotFilling
        rw [gone]
      unfold State.judged
      rw [lost, if_neg (by simp [shut]), shut]
  · have settles : Settles made (asked.judge r.id) :=
      (State.captureRequest_settles _ newest a failed).trans (asked.judge_settles r.id)
    exact (settles.closedOnce ids r hr _ judged rid').2 isOpen closed

/-- Settles O30, by the room in the store. -/
theorem returnMakesAContinuation : Obligations.ReturnMakesAContinuation := by
  unfold Obligations.ReturnMakesAContinuation
  intro t failed e rest s m id handed back run held
  have judged : isAllBack ((s.judging t rest).judgeConds e) = true :=
    isAllBack_iff.2 fun k => (Vector.getElem_ofFn k.isLt).trans (back k)
  have served : exec (.detectorTakesRefresh t failed) s =
      .next ((s.judging t rest).takeReturn m id e failed) := by
    rw [exec_detectorTakes_of_run handed run, State.judgeRefresh_held
      (show (s.judging t rest).det.mode = _ from held), if_pos judged]
  let new := continuationRecord m id (saturate32 (e.index - m.crossing).toNat) (e.stamp - m.time).toNat
    false
  let made := (s.judging t rest).addRecord new e.stamp
  let asked := made.captureRequest s.store.nextId e.index failed
  let tallied := (s.judging t rest).handToTally .continuation m.measure.residual m.measure.maximum
    (saturate32 (e.stamp - m.time).toNat)
  have taken : (s.judging t rest).takeReturn m id e failed =
      (if s.hasRoom then asked.judge s.store.nextId else tallied).reportEnd.toWatch := rfl
  rw [taken] at served
  have ref : (if s.hasRoom then asked.judge s.store.nextId else tallied).ref = s.ref := by
    split
    · exact (((State.addRecord_frame _ new e.stamp).comp (State.captureRequest_frame _ _ _ _)).comp
        (State.judge_frame asked _)).only.1 .ref (by decide)
    · rfl
  refine ⟨_, served, rfl, fun k => Vector.getElem_replicate k.isLt,
    congrArg (fun x : RefTracker => x.endReports + 1) ref, fun few => ?_, fun full => ?_⟩
  · have room : s.hasRoom = true := decide_eq_true few
    have queue : made.store.queue = s.store.queue ++ [(s.judging t rest).made new e.stamp] :=
      State.addRecord_queue _ _ _
    have recorded : recordMade s asked e.index failed :=
      recordMade_of queue rfl ((State.addRecord_frame _ _ _).only.1 .cap (by decide))
        ((State.addRecord_frame _ _ _).only.1 .rms (by decide))
        ((State.addRecord_frame _ _ _).only.1 .cfe (by decide))
        (State.addRecord_nextId _ _ _) (State.addRecord_storeFull _ _ _) _ _
    rw [if_pos room]
    refine ⟨?_, ?_⟩
    · refine ((asked.judge_rewrites _).length.trans (made.captureRequest_rewrites _ _ _).length).trans ?_
      rw [queue, List.length_append, List.length_singleton]
    · have mem : (s.judging t rest).made new e.stamp ∈ made.store.queue := by
        rw [queue]
        exact List.mem_append_right _ (List.mem_singleton_self _)
      have cap (x : State) : ((x.judge s.store.nextId).reportEnd.toWatch).cap = x.cap :=
        x.judge_cap s.store.nextId
      have full (x : State) : ((x.judge s.store.nextId).reportEnd.toWatch).ctl.causes[(9 : Fin 13)] =
          x.ctl.causes[(9 : Fin 13)] := x.judge_raises s.store.nextId 9 (by decide)
      have fields {x : Record} (h : ((s.judging t rest).made new e.stamp).Captured x) :
          x.id = s.store.nextId ∧ x.cls = .continuation ∧ x.link = id ∧ x.running = false ∧
          x.anchorOpen = false ∧ x.verdict = none ∧ x.locus = none ∧ x.peers = [] ∧
          x.onset = m.onset ∧ x.measure.dmin = m.dmin ∧ x.measure.dmax = m.dmax ∧
          x.halfCycles = min (e.index - m.crossing).toNat 4294967295 ∧
          x.durationMs = min (e.stamp - m.time).toNat 4294967295 ∧
          x.time = s.recordTime e.stamp := by
        rw [h]
        exact ⟨rfl, rfl, rfl, rfl, rfl, rfl, rfl, rfl, rfl, rfl, rfl, rfl, rfl, rfl⟩
      by_cases sound : s.idsInOrder ∧ s.withinCapacity
      · have ids : made.ledger.IdsSound := State.addRecord_idsSound
          (s := s.judging t rest) (State.idsSound_of sound.1 sound.2) room new e.stamp
        obtain ⟨r0, mem0, rid0, r', mem', -, captured, wave, isOpen, closed⟩ :=
          State.continuation_judged ids mem rfl rfl rfl
            (State.addRecord_newest (s.judging t rest) e.stamp rfl) e.index failed
        refine ⟨r', mem', ?_⟩
        obtain ⟨rid, cls, link, run, anchor, verdict, locus, peers, onset, dmin, dmax, halves, ms, time⟩ :=
          fields captured
        exact ⟨rid, cls, link, run, anchor, verdict, locus, peers, onset, dmin, dmax, halves, ms, time,
          asked, recorded, cap asked, full asked,
          fun _ _ => ⟨⟨r0, mem0, rid0.trans rid.symm, wave⟩, isOpen, closed⟩⟩
      · obtain ⟨f, captures, captured⟩ := made.captureRequest_map s.store.nextId e.index failed
        obtain ⟨g, judges, judged⟩ := asked.judge_map s.store.nextId
        refine ⟨g (f _), judges ▸ List.mem_map_of_mem (captures ▸ List.mem_map_of_mem mem), ?_⟩
        obtain ⟨rid, cls, link, run, anchor, verdict, locus, peers, onset, dmin, dmax, halves, ms, time⟩ :=
          fields ((captured _).trans (judged _).captured)
        exact ⟨rid, cls, link, run, anchor, verdict, locus, peers, onset, dmin, dmax, halves, ms, time,
          asked, recorded, cap asked, full asked,
          fun order capacity => absurd ⟨order, capacity⟩ sound⟩
  · have noRoom : ¬s.hasRoom = true := by
      rw [State.hasRoom, decide_eq_true_eq]
      exact not_lt.2 full
    rw [if_neg noRoom]
    exact ⟨rfl, Vector.getElem_set_self _⟩

end Sys2Proof.Machine
end


section
/-! CONTEXT_CLOSE: the VERDICT of the context leaves the queue (R105), and its results reach the linked
record, which the store judges (R134, R136, R149). -/

namespace Sys2Proof.Machine

variable {s u : State} {r : Record} {edge : Ms} {id : Nat}

/-! The window's expiry at the notice link. -/

/-- The VERDICT of the context at place `i` of the queue, the first there. -/
theorem expiry_place {l : List QueuedFrame} {i : Nat}
    (h : l.findIdx? (QueuedFrame.isVerdictOf edge) = some i) :
    ∃ v : QueuedVerdict, v.edge = edge ∧ ∃ before after, l = before ++ .verdict v :: after ∧
      i = before.length ∧ (∀ f ∈ before, f.isVerdictOf edge = false) ∧
      l.find? (QueuedFrame.isVerdictOf edge) = some (.verdict v) ∧ l.getD i .present = .verdict v := by
  obtain ⟨lt, isVerdict, first⟩ := List.findIdx?_eq_some_iff_getElem.1 h
  have split : l = l.take i ++ l[i] :: l.drop (i + 1) := by simp
  have before (f : QueuedFrame) (hf : f ∈ l.take i) : f.isVerdictOf edge = false := by
    obtain ⟨j, hj, rfl⟩ := List.mem_take_iff_getElem.1 hf
    exact Bool.eq_false_iff.2 (first j (lt_of_lt_of_le hj (min_le_left _ _)))
  cases at' : l[i] with
  | present => exact absurd isVerdict (by simp [at', QueuedFrame.isVerdictOf])
  | verdict v =>
    rw [at'] at split isVerdict
    refine ⟨v, beq_iff_eq.1 isVerdict, _, _, split, by simp [lt.le], before, ?_, ?_⟩
    · rw [split, List.find?_append, List.find?_eq_none.2 fun f hf => by simp [before f hf]]
      exact List.find?_cons_of_pos isVerdict
    · rw [List.getD_eq_getElem _ _ lt, at']

/-- The drop of a queued VERDICT of the context is reported at the expiry (R105, R132). -/
def State.expiryReported (s : State) (edge : Ms) : Prop :=
  ∃ v, s.link.queue.find? (QueuedFrame.isVerdictOf edge) = some (.verdict v) ∧ v.withdrawn = false

/-- The link after the expiry: no VERDICT of the context, or its first one withdrawn or gone. -/
theorem State.windowExpiry_cases (s : State) (edge : Ms) :
    (∀ f ∈ s.link.queue, f.isVerdictOf edge = false) ∧ s.windowExpiry edge = s ∨
    ∃ v : QueuedVerdict, v.edge = edge ∧ ∃ before after,
      s.link.queue = before ++ .verdict v :: after ∧ (∀ f ∈ before, f.isVerdictOf edge = false) ∧
      s.link.queue.find? (QueuedFrame.isVerdictOf edge) = some (.verdict v) ∧
      s.windowExpiry edge = (s.reportFrame (.verdict v)).withLink
        (if before.length = 0 ∧ s.link.tx = .sending then
          { s.link with queue := s.link.queue.modify 0 QueuedFrame.withdraw }
        else s.link.removeAt before.length) := by
  cases place : s.link.queue.findIdx? (QueuedFrame.isVerdictOf edge) with
  | none =>
    refine .inl ⟨List.findIdx?_eq_none_iff.1 place, ?_⟩
    unfold State.windowExpiry
    rw [place]
  | some i =>
    obtain ⟨v, hv, before, after, queue, rfl, none, found, head⟩ := expiry_place place
    refine .inr ⟨v, hv, before, after, queue, none, found, ?_⟩
    unfold State.windowExpiry
    rw [place]
    dsimp only
    rw [head]
    split <;> rfl

/-- Drops reported, in the contexts and the records of `u`: UNSENT, where `reported` holds (R132). -/
structure MarksUnsent (s u : State) (edge : Ms) (reported : Prop) : Prop where
  records : ∃ f : Record → Record, u.store = { s.store with queue := s.store.queue.map f } ∧
    ∀ r : Record, ∃ b, f r = { r with flags := { r.flags with unsent := r.flags.unsent || b } } ∧
      (b = true → reported)
  slots : ∀ k : Fin 4, u.corr.slots[k].isSome = s.corr.slots[k].isSome
  contexts : ∀ (k : Fin 4) (c : Context), s.corr.slots[k] = some c → c.edge = edge → ∃ b,
    u.corr.slots[k] = some { c with unsent := c.unsent || b } ∧ (b = true ↔ reported)

theorem MarksUnsent.of_same {reported : Prop} (h : ¬reported) (store : u.store = s.store)
    (corr : u.corr = s.corr) : MarksUnsent s u edge reported := by
  refine ⟨⟨fun r => r, ?_, fun r => ⟨false, by simp, by simp⟩⟩, fun k => ?_,
    fun k c hc _ => ⟨false, ?_, by simp [h]⟩⟩
  · rw [store, List.map_id']
  · rw [corr]
  · rw [corr, hc, Bool.or_false]

theorem State.windowExpiry_unsent (s : State) (edge : Ms) :
    MarksUnsent s (s.windowExpiry edge) edge (s.expiryReported edge) := by
  rcases s.windowExpiry_cases edge with ⟨none, same⟩ | ⟨v, hv, before, after, queue, -, found, link⟩
  · refine .of_same ?_ (by rw [same]) (by rw [same])
    rintro ⟨v, found, -⟩
    have := none _ (List.mem_of_find?_eq_some found)
    rw [List.find?_some found] at this
    exact absurd this (by simp)
  · cases withdrawn : v.withdrawn with
    | true =>
      rw [State.reportFrame_of_withdrawn (f := .verdict v) withdrawn] at link
      refine .of_same ?_ (by rw [link]; rfl) (by rw [link]; rfl)
      rintro ⟨w, found', queued⟩
      obtain rfl := QueuedFrame.verdict.inj (Option.some.inj (found.symm.trans found'))
      exact absurd withdrawn (by simp [queued])
    | false =>
      rw [State.reportFrame_of_queued withdrawn] at link
      have reported : s.expiryReported edge := ⟨v, found, withdrawn⟩
      have store : (s.windowExpiry edge).store = _ :=
        (congrArg State.store link).trans (s.dropReport_store v.edge v.recordId)
      refine ⟨⟨_, store, fun r => ?_⟩, fun k => ?_, fun k c hc he => ⟨true, ?_, by simp [reported]⟩⟩
      · dsimp only
        split
        · exact ⟨true, by rw [Bool.or_true], fun _ => reported⟩
        · exact ⟨false, by rw [Bool.or_false], by simp⟩
      · rw [link, State.withLink_corr, State.dropReport_corr]
        refine (congrArg Option.isSome (Vector.getElem_ofFn k.isLt)).trans ?_
        exact Option.isSome_map
      · rw [link, State.withLink_corr, State.dropReport_context s v.edge v.recordId hc,
          show (c.edge == v.edge) = true from beq_iff_eq.2 (he.trans hv.symm)]

/-- With one VERDICT of the context queued at most, what is left of it is withdrawn (R105). -/
theorem State.windowExpiry_withdrawn
    (few : s.link.queue.countP (QueuedFrame.isVerdictOf edge) ≤ 1) {f : QueuedFrame}
    (hf : f ∈ (s.windowExpiry edge).link.queue) (isVerdict : f.isVerdictOf edge = true) :
    f.isWithdrawn = true := by
  rcases s.windowExpiry_cases edge with ⟨none, same⟩ | ⟨v, hv, before, after, queue, none, -, link⟩
  · rw [same] at hf
    exact absurd isVerdict (by simp [none f hf])
  · have isV : (QueuedFrame.verdict v).isVerdictOf edge = true := beq_iff_eq.2 hv
    have rest : ∀ g ∈ after, g.isVerdictOf edge = false := by
      rw [queue, List.countP_append, List.countP_cons_of_pos isV] at few
      have : after.countP (QueuedFrame.isVerdictOf edge) = 0 := by omega
      exact fun g hg => Bool.eq_false_iff.2 (List.countP_eq_zero.1 this g hg)
    rw [link, State.withLink_link] at hf
    split at hf
    · next head =>
      obtain rfl := List.eq_nil_of_length_eq_zero head.1
      simp only [queue, List.nil_append, List.modify_zero_cons, List.mem_cons] at hf
      rcases hf with rfl | later
      · rfl
      · exact absurd isVerdict (by simp [rest f later])
    · rw [(s.link.removeAt_queue _).1, queue, List.eraseIdx_append_of_length_le le_rfl, Nat.sub_self,
        List.eraseIdx_cons_zero, List.mem_append] at hf
      rcases hf with earlier | later
      · exact absurd isVerdict (by simp [none f earlier])
      · exact absurd isVerdict (by simp [rest f later])

/-- The first VERDICT of the context is withdrawn while it is sent, else it leaves the queue (R105). -/
theorem State.windowExpiry_first {i : Nat} {v : QueuedVerdict}
    (at' : s.link.queue[i]? = some (.verdict v)) (hv : v.edge = edge)
    (first : ∀ j w, j < i → s.link.queue[j]? = some (.verdict w) → w.edge ≠ edge) :
    (s.windowExpiry edge).link = if i = 0 ∧ s.link.tx = .sending then
      { s.link with queue := s.link.queue.set 0 (.verdict { v with withdrawn := true }) }
    else s.link.removeAt i := by
  have isV : (QueuedFrame.verdict v).isVerdictOf edge = true := beq_iff_eq.2 hv
  rcases s.windowExpiry_cases edge with ⟨none, -⟩ | ⟨w, hw, before, after, queue, none, -, link⟩
  · exact absurd isV (by simp [none _ (List.mem_of_getElem? at')])
  · have place : i = before.length := by
      rcases lt_trichotomy i before.length with lt | eq | gt
      · rw [queue, List.getElem?_append_left lt] at at'
        exact absurd isV (by simp [none _ (List.mem_of_getElem? at')])
      · exact eq
      · refine absurd hw (first _ w gt ?_)
        rw [queue, List.getElem?_append_right le_rfl, Nat.sub_self]
        rfl
    subst place
    rw [queue, List.getElem?_append_right le_rfl, Nat.sub_self] at at'
    obtain rfl := QueuedFrame.verdict.inj (Option.some.inj at')
    rw [link, State.withLink_link]
    by_cases head : before.length = 0 ∧ s.link.tx = .sending
    · rw [if_pos head, if_pos head, queue, List.eq_nil_of_length_eq_zero head.1]
      rfl
    · rw [if_neg head, if_neg head]

/-! A record judged for a reason of its own. -/

/-- A judgement, record by record; with unique ids the record judged is settled. -/
theorem State.judge_each (s : State) (id : Nat) : ∃ g : Record → Record,
    (s.judge id).store.queue = s.store.queue.map g ∧ (∀ r : Record, r.Judged (g r)) ∧
    (s.IdsUnique → ∀ r, g r = s.judged [id] r) := by
  by_cases unique : s.IdsUnique
  · refine ⟨s.judged [id], State.judge_queue unique id, fun r => ?_, fun _ _ => rfl⟩
    unfold State.judged
    split
    · exact closedRecord_judged _ r
    · exact .refl r
  · obtain ⟨g, queue, judged⟩ := s.judge_map id
    exact ⟨g, queue, judged, fun h => absurd h unique⟩

/-- A judgement that closes its record raises RECORD_CLOSED (R149). -/
theorem State.judge_recordClosed (unique : s.IdsUnique) (hr : r ∈ s.store.queue)
    (isOpen : r.isOpen = true) (closable : s.closable r = true) :
    (s.judge r.id).ctl.causes[(8 : Fin 13)] = ⟨true, 0, false⟩ := by
  unfold State.judge
  rw [unique.recordOf hr]
  dsimp only
  rw [isOpen, closable]
  exact State.raise_causes _ .recordClosed 0 8

/-- The judged record of a context that closes: OPEN where its event runs or its slot fills (R149). -/
theorem State.judged_isOpen (s : State) (hid : r.id = id) (anchor : r.anchorOpen = false) :
    (s.judged [id] r).isOpen = true ↔
      r.isOpen = true ∧ (r.running = true ∨ s.slotFilling r = true) := by
  unfold State.judged State.closable
  rw [hid, anchor]
  cases ho : r.isOpen <;> cases hr : r.running <;> cases hf : s.slotFilling r <;>
    simp [closedRecord, ho]

/-! The context freed, with its results copied. -/

theorem State.freeContext_corr (s : State) (k : Fin 4) (linked : Nat) :
    (s.freeContext k linked).corr = { s.corr with slots := s.corr.slots.set k none } := by
  unfold State.freeContext
  split
  · rfl
  · exact (State.judge_frame _ _).only.1 .corr (by decide)

/-- The results that a context copies at the end of its window (R136). -/
theorem State.copyResults_spec (s : State) (c : Context) (r : Record) :
    let x := s.copyResults c true r
    x.id = r.id ∧ x.isOpen = r.isOpen ∧ x.running = r.running ∧ x.wave = r.wave ∧
    x.peers = c.peers ∧ x.flags.unsent = (r.flags.unsent || c.unsent) ∧
    x.locus = some (s.locusBlock c) ∧
    (∀ o, c.own = some o → x.verdict = some ⟨o.verdict, o.k, o.dU, o.dI⟩ ∧
      x.flags.preDisturbed = o.preDisturbed) ∧
    (c.own = none → x.verdict = r.verdict) := by
  unfold State.copyResults
  cases own : c.own with
  | none => exact ⟨rfl, rfl, rfl, rfl, rfl, rfl, rfl, fun o h => absurd h (by simp), fun _ => rfl⟩
  | some o =>
    refine ⟨rfl, rfl, rfl, rfl, rfl, rfl, rfl, fun x h => ?_, fun h => absurd h (by simp)⟩
    obtain rfl := Option.some.inj h
    exact ⟨rfl, rfl⟩

/-- The locus block: the locus of the reporters, their number and that of the silent peers (R136). -/
theorem State.locusBlock_spec (s : State) (c : Context) :
    let l := s.locusBlock c
    (l.kind, l.level, l.addr, l.ambiguous) = locusOf (reporters s.ctl.straps c) ∧
    l.reporters = (if c.own = none then 0 else 1) + c.peers.length ∧
    l.silent = (List.finRange 16).countP fun a =>
      s.link.peers[a].present && c.peers.all fun p => p.addr != a := by
  refine ⟨rfl, ?_, ?_⟩
  · unfold State.locusBlock reporters
    cases c.own <;> simp
    omega
  · refine List.countP_congr fun a _ => ?_
    simp [bne]

theorem State.closeContext_corr (s : State) (k : Fin 4) (c : Context) :
    (s.closeContext k c).corr = { s.corr with slots := s.corr.slots.set k none } := by
  refine (State.freeContext_corr _ _ _).trans ?_
  split <;> rfl

theorem State.windowExpiry_peers (s : State) (edge : Ms) :
    (s.windowExpiry edge).link.peers = s.link.peers := by
  rcases s.windowExpiry_cases edge with ⟨-, same⟩ | ⟨v, -, before, after, -, -, -, same⟩
  · rw [same]
  · rw [same, State.withLink_link]
    split
    · rfl
    · unfold NoticeLink.removeAt
      split <;> rfl

/-- The linked record of a context that closes has its results, and is judged without the anchor (R134,
R136, R149). -/
theorem State.closeContext_record (s : State) (k : Fin 4) (c : Context) (linked : c.linked ≠ 0)
    {r : Record} (hr : r ∈ s.store.queue) (rid : r.id = c.linked) :
    ∃ r' ∈ (s.closeContext k c).store.queue,
      Record.Judged { s.copyResults c true r with anchorOpen := false } r' ∧
      (s.IdsUnique →
        (r'.isOpen = true ↔ r.isOpen = true ∧ (r.running = true ∨ s.slotFilling r = true)) ∧
        (r.isOpen = true → r'.isOpen = false →
          (s.closeContext k c).ctl.causes[(8 : Fin 13)] = ⟨true, 0, false⟩)) := by
  let onto (x : Record) : Record := if x.id = c.linked then s.copyResults c true x else x
  let shut (x : Record) : Record := if x.id = c.linked then { x with anchorOpen := false } else x
  let w := ((s.editRecord c.linked (s.copyResults c true)).setContext k none).editRecord c.linked
    fun x => { x with anchorOpen := false }
  have freed : s.closeContext k c = w.judge c.linked := by
    unfold State.closeContext State.freeContext
    rw [if_neg linked, if_neg linked]
  have queue : w.store.queue = s.store.queue.map fun x => shut (onto x) := List.map_map ..
  obtain ⟨hid, hopen, hrun, hwave, -⟩ := s.copyResults_spec c r
  have image : shut (onto r) = { s.copyResults c true r with anchorOpen := false } := by
    dsimp only [onto, shut]
    rw [if_pos rid, if_pos (hid.trans rid)]
  have mem : { s.copyResults c true r with anchorOpen := false } ∈ w.store.queue := by
    rw [← image, queue]
    exact List.mem_map_of_mem hr
  obtain ⟨g, judges, judged, settled⟩ := w.judge_each c.linked
  rw [freed]
  refine ⟨g _, judges ▸ List.mem_map_of_mem mem, judged _, fun unique => ?_⟩
  have unique' : w.IdsUnique := unique.map queue fun x => by
    have copied : (onto x).id = x.id := by
      dsimp only [onto]
      split
      · exact (s.copyResults_spec c x).1
      · rfl
    refine Eq.trans ?_ copied
    dsimp only [shut]
    split <;> rfl
  have filling : w.slotFilling { s.copyResults c true r with anchorOpen := false } = s.slotFilling r := by
    unfold State.slotFilling
    rw [hwave]
    rfl
  have isOpen : (g { s.copyResults c true r with anchorOpen := false }).isOpen = true ↔
      r.isOpen = true ∧ (r.running = true ∨ s.slotFilling r = true) := by
    rw [settled unique', State.judged_isOpen w (r := { s.copyResults c true r with anchorOpen := false })
      (hid.trans rid) rfl, filling]
    exact and_congr (by rw [← hopen]) (or_congr_left (by rw [← hrun]))
  refine ⟨isOpen, fun wasOpen closed => ?_⟩
  have done : ¬(r.running = true ∨ s.slotFilling r = true) := fun h =>
    absurd (isOpen.2 ⟨wasOpen, h⟩) (by simp [closed])
  have still := not_or.1 done
  have closable : w.closable { s.copyResults c true r with anchorOpen := false } = true := by
    unfold State.closable
    rw [filling, show (s.copyResults c true r).running = r.running from hrun]
    simp [still.1, still.2]
  have raised := State.judge_recordClosed unique' mem (hopen.trans wasOpen) closable
  rwa [show ({ s.copyResults c true r with anchorOpen := false } : Record).id = c.linked from
    hid.trans rid] at raised

/-- UNSENT of the record, of its context and by a drop that is reported to both. -/
theorem unsent_iff {x b' y b : Bool} (h : b' = true → b = true) :
    ((x || b') || (y || b)) = true ↔ x = true ∨ y = true ∨ b = true := by
  cases b
  · cases b'
    · simp
    · exact absurd (h rfl) (by simp)
  · simp

/-- Settles O46: the queue by `windowExpiry_cases`, the record by the copy and the judgement. -/
theorem contextCloses : Obligations.ContextCloses := by
  unfold Obligations.ContextCloses
  intro t k s c hc reached
  obtain ⟨⟨f, store, dropped⟩, slots, contexts⟩ := (s.elapse t).windowExpiry_unsent c.edge
  obtain ⟨b, hc', reported⟩ := contexts k c hc rfl
  let u := (s.elapse t).windowExpiry c.edge
  let c' := { c with unsent := c.unsent || b }
  have served : exec (.contextClose t k) s = .next (u.closeContext k c') := by
    show execContextClose t k s = _
    have slot : (s.elapse t).corr.slots[k] = some c := hc
    unfold execContextClose
    dsimp only
    rw [slot]
    refine congrArg Host.Outcome.next ((if_pos reached).trans ?_)
    rw [hc']
  have corr := u.closeContext_corr k c'
  have link := (u.closeContext_frame k c').only.1 .link (by decide)
  refine ⟨_, served, ?_, fun j hj => ?_, fun few f hf isVerdict => ?_, fun none => ?_,
    fun i v at' edge first => ?_, fun linked r hr rid => ?_⟩
  · rw [corr]
    exact Vector.getElem_set_self _
  · rw [corr]
    refine (congrArg Option.isSome (Vector.getElem_set_ne k.isLt j.isLt fun e => hj (Fin.ext e.symm))).trans ?_
    exact slots j
  · rw [link] at hf
    exact State.windowExpiry_withdrawn (s := s.elapse t) few hf isVerdict
  · rw [link]
    rcases (s.elapse t).windowExpiry_cases c.edge with ⟨-, same⟩ | ⟨v, hv, before, after, queue, -⟩
    · exact (congrArg State.link same : u.link = (s.elapse t).link)
    · refine absurd hv (none v ?_)
      rw [show s.link.queue = before ++ .verdict v :: after from queue]
      simp
  · have left := State.windowExpiry_first (s := s.elapse t) at' edge first
    rw [← link, State.elapse_link] at left
    rw [left]
    refine ⟨?_, ?_, fun head sending => ?_, fun still => ?_⟩
    · split
      · rfl
      · unfold NoticeLink.removeAt
        split <;> rfl
    · split
      · rfl
      · unfold NoticeLink.removeAt
        split <;> rfl
    · rw [if_pos ⟨head, sending⟩]
      exact ⟨sending, rfl, rfl⟩
    · rw [if_neg still]
      refine ⟨(s.link.removeAt_queue i).1, fun later => ?_, fun head => ?_⟩
      · rw [show s.link.removeAt i = { s.link with queue := s.link.queue.eraseIdx i } from if_neg later]
        exact ⟨rfl, rfl⟩
      · subst head
        refine ⟨rfl, (restingTx_eq _ _).trans (if_congr (and_congr_left' ?_) rfl rfl)⟩
        cases s.link.queue with
        | nil => simp
        | cons f l => cases l <;> simp
  · obtain ⟨b', hf, reported'⟩ := dropped r
    have fid : (f r).id = c.linked := by rw [hf]; exact rid
    have mem : f r ∈ u.store.queue := by
      rw [show u.store.queue = s.store.queue.map f from congrArg RecordStore.queue store]
      exact List.mem_map_of_mem hr
    obtain ⟨r', mem', judged, settled⟩ := u.closeContext_record k c' linked mem fid
    have kept := (s.elapse t).windowExpiry_frame c.edge
    have straps : u.ctl.straps = s.ctl.straps :=
      congrArg Controller.straps (kept.only.1 .ctl (by decide) : u.ctl = _)
    have cap : u.cap = s.cap := (kept.only.1 .cap (by decide) : u.cap = _)
    have peers : u.link.peers = s.link.peers := (s.elapse t).windowExpiry_peers c.edge
    obtain ⟨hid, -, hrun, -, hpeers, hunsent, hlocus, hown, hnone⟩ := u.copyResults_spec c' (f r)
    obtain ⟨locus, count, silent⟩ := u.locusBlock_spec c'
    rw [straps] at locus
    rw [peers] at silent
    have same : b = true ↔ ∃ v, s.link.queue.find? (QueuedFrame.isVerdictOf c.edge) =
      some (.verdict v) ∧ v.withdrawn = false := reported
    refine ⟨r', mem', ?_, ?_, ?_, ?_, ⟨u.locusBlock c', ?_, locus, count, silent⟩, ?_, fun o ho => ?_,
      fun ho => ?_, fun order capacity => ?_⟩
    · rw [judged]
      exact hid.trans fid
    · rw [judged]
    · rw [judged]
      exact hpeers
    · rw [judged]
      exact hrun.trans (by rw [hf])
    · rw [judged]
      exact hlocus
    · have unsent : r'.flags.unsent = ((r.flags.unsent || b') || (c.unsent || b)) := by
        rw [judged]
        exact hunsent.trans (by rw [hf])
      rw [unsent, ← same]
      exact unsent_iff fun h => reported.2 (reported' h)
    · rw [judged]
      exact hown o ho
    · rw [judged]
      exact (hnone ho).trans (by rw [hf])
    · have unique : u.IdsUnique := (State.idsUnique_of order capacity).map
        (congrArg RecordStore.queue store) fun x => by
          obtain ⟨_, hx, -⟩ := dropped x
          rw [hx]
      have filling : u.slotFilling (f r) = s.slotFilling r := by
        unfold State.slotFilling
        rw [cap, hf]
      obtain ⟨isOpen, closed⟩ := settled unique
      rw [filling] at isOpen
      rw [show (f r).isOpen = r.isOpen by rw [hf]] at isOpen closed
      rw [show (f r).running = r.running by rw [hf]] at isOpen
      exact ⟨isOpen, closed⟩

end Sys2Proof.Machine
end


section
/-! CORRELATION_TAKES_REFRESH: the own verdicts of the due contexts (R127 to R131). -/

namespace Sys2Proof.Machine

variable {s u : State} {e : Refresh} {k : Fin 4} {c : Context}

/-! Measurement fields. -/

/-- The residual is the least minimum, the maximum the greatest maximum (ch. 4 sec. 4.1). -/
theorem measureOf_spec (dmin dmax : Vector Nat 3) :
    (∀ k : Fin 3, (measureOf dmin dmax).residual ≤ dmin[k] ∧ dmax[k] ≤ (measureOf dmin dmax).maximum) ∧
    (∃ k : Fin 3, (measureOf dmin dmax).residual = dmin[k]) ∧
    ∃ k : Fin 3, (measureOf dmin dmax).maximum = dmax[k] := by
  refine ⟨fun k => ?_, ?_, ?_⟩
  · fin_cases k <;> simp [measureOf, least3, greatest3]
  · show ∃ k : Fin 3, min dmin[0] (min dmin[1] dmin[2]) = dmin[k]
    rcases min_choice dmin[0] (min dmin[1] dmin[2]) with h | h
    · exact ⟨0, h⟩
    · rcases min_choice dmin[1] dmin[2] with h' | h'
      · exact ⟨1, h.trans h'⟩
      · exact ⟨2, h.trans h'⟩
  · show ∃ k : Fin 3, max dmax[0] (max dmax[1] dmax[2]) = dmax[k]
    rcases max_choice dmax[0] (max dmax[1] dmax[2]) with h | h
    · exact ⟨0, h⟩
    · rcases max_choice dmax[1] dmax[2] with h' | h'
      · exact ⟨1, h.trans h'⟩
      · exact ⟨2, h.trans h'⟩

/-! The own verdict of one context (R128 to R130). -/

/-- The chosen k has the greatest movement, and of equals it is the lowest (R128). -/
theorem chosenK_spec (dU : Vector Int 3) :
    (∀ j : Fin 3, dU[j].natAbs ≤ dU[chosenK dU].natAbs) ∧
    ∀ j : Fin 3, j < chosenK dU → dU[j].natAbs < dU[chosenK dU].natAbs := by
  have all {k : Fin 3} (h : chosenK dU = k) (h0 : dU[0].natAbs ≤ dU[k].natAbs)
      (h1 : dU[1].natAbs ≤ dU[k].natAbs) (h2 : dU[2].natAbs ≤ dU[k].natAbs)
      (l0 : 0 < k → dU[0].natAbs < dU[k].natAbs) (l1 : 1 < k → dU[1].natAbs < dU[k].natAbs) :
      (∀ j : Fin 3, dU[j].natAbs ≤ dU[chosenK dU].natAbs) ∧
        ∀ j : Fin 3, j < chosenK dU → dU[j].natAbs < dU[chosenK dU].natAbs := by
    subst h
    refine ⟨fun j => ?_, fun j hj => ?_⟩
    · fin_cases j
      · exact h0
      · exact h1
      · exact h2
    · fin_cases j
      · exact l0 hj
      · exact l1 hj
      · exact absurd hj (not_lt.2 (Fin.le_last (chosenK dU)))
  by_cases a : dU[0].natAbs < dU[1].natAbs
  · by_cases b : dU[1].natAbs < dU[2].natAbs
    · exact all (k := 2) (by simp [chosenK, a, b]) (a.trans b).le b.le le_rfl (fun _ => a.trans b) fun _ => b
    · exact all (k := 1) (by simp [chosenK, a, b]) a.le le_rfl (not_lt.1 b) (fun _ => a)
        fun h => absurd h (by decide)
  · by_cases b : dU[0].natAbs < dU[2].natAbs
    · exact all (k := 2) (by simp [chosenK, a, b]) b.le ((not_lt.1 a).trans b.le) le_rfl (fun _ => b)
        fun _ => (not_lt.1 a).trans_lt b
    · exact all (k := 0) (by simp [chosenK, a, b]) le_rfl (not_lt.1 a) (not_lt.1 b)
        (fun h => absurd h (by decide)) fun h => absurd h (by decide)

theorem verdictOf_eq (pre : DetState) (dU dI : Int) (uBand iBand : Nat) :
    (verdictOf pre dU dI uBand iBand).2 = decide (pre ≠ .watch) ∧
    (verdictOf pre dU dI uBand iBand).1 =
      if pre ≠ .watch ∨ dU.natAbs < uBand then .indeterminate
      else if dI.natAbs < iBand then .upstream
      else if (0 < dU ∧ dI < 0) ∨ (dU < 0 ∧ 0 < dI) then .downstream
      else .upstream := by
  unfold verdictOf
  by_cases h : pre = .watch
  · by_cases hu : dU.natAbs < uBand
    · simp [h, hu]
    · by_cases hi : dI.natAbs < iBand
      · simp [h, hu, hi]
      · simp only [h, hu, hi, ne_eq, not_true_eq_false, if_false, or_self, decide_false]
        split <;> simp
  · simp [h]

/-- The own verdict that context `c` gets from refresh `e`. -/
def State.verdictOf (s : State) (e : Refresh) (c : Context) : OwnVerdict :=
  ownVerdict c e s.uDeadband s.iDeadband

theorem State.verdictOf_spec (s : State) (e : Refresh) (c : Context) :
    let o := s.verdictOf e c
    o.origin = (if c.anchored then .triggered else .sympathetic) ∧
    (c.pre = none → o.verdict = .indeterminate ∧ o.k = 0 ∧ o.dU = 0 ∧ o.dI = 0 ∧
      o.preDisturbed = false) ∧
    ∀ p, c.pre = some p →
      let dU (j : Fin 3) : Int := (e.value[dIndex j] : Int) - (p.d[j] : Int)
      let dI (j : Fin 3) : Int := (e.value[iIndex j] : Int) - (p.i[j] : Int)
      o.dU = dU o.k ∧ o.dI = dI o.k ∧
      (∀ j : Fin 3, (dU j).natAbs ≤ o.dU.natAbs) ∧
      (∀ j : Fin 3, j < o.k → (dU j).natAbs < o.dU.natAbs) ∧
      o.preDisturbed = decide (p.det ≠ .watch) ∧
      o.verdict =
        if p.det ≠ .watch ∨ o.dU.natAbs < s.uDeadband then .indeterminate
        else if o.dI.natAbs < s.iDeadband then .upstream
        else if (0 < o.dU ∧ o.dI < 0) ∨ (o.dU < 0 ∧ 0 < o.dI) then .downstream
        else .upstream := by
  have delta (pre during : Vector Nat 3) (j : Fin 3) :
      (deltas pre during)[j] = (during[j] : Int) - (pre[j] : Int) := Vector.getElem_ofFn j.isLt
  have d (j : Fin 3) : e.dValues[j] = e.value[dIndex j] := Vector.getElem_ofFn j.isLt
  have i (j : Fin 3) : e.iValues[j] = e.value[iIndex j] := Vector.getElem_ofFn j.isLt
  unfold State.verdictOf ownVerdict
  cases pre : c.pre with
  | none => exact ⟨rfl, fun _ => ⟨rfl, rfl, rfl, rfl, rfl⟩, fun p h => absurd h (by simp)⟩
  | some p =>
    refine ⟨rfl, fun h => absurd h (by simp), fun p' h => ?_⟩
    obtain rfl := Option.some.inj h
    obtain ⟨greatest, lowest⟩ := chosenK_spec (deltas p.d e.dValues)
    have dU (j : Fin 3) : (e.value[dIndex j] : Int) - (p.d[j] : Int) = (deltas p.d e.dValues)[j] := by
      rw [delta, d]
    have dI (j : Fin 3) : (e.value[iIndex j] : Int) - (p.i[j] : Int) = (deltas p.i e.iValues)[j] := by
      rw [delta, i]
    obtain ⟨disturbed, verdict⟩ := verdictOf_eq p.det
      (deltas p.d e.dValues)[chosenK (deltas p.d e.dValues)]
      (deltas p.i e.iValues)[chosenK (deltas p.d e.dValues)] s.uDeadband s.iDeadband
    exact ⟨(dU _).symm, (dI _).symm, fun j => (congrArg Int.natAbs (dU j)).trans_le (greatest j),
      fun j hj => (congrArg Int.natAbs (dU j)).trans_lt (lowest j hj), disturbed, verdict⟩

/-! The VERDICT of one context, handed over. -/

/-- A VERDICT handed over is queued, which leaves contexts and records, or dropped (R104). -/
theorem State.handVerdict_cases (s : State) (v : QueuedVerdict) :
    (s.handVerdict v).corr = s.corr ∧ (s.handVerdict v).store = s.store ∨
    s.handVerdict v = s.dropReport v.edge v.recordId := by
  unfold State.handVerdict
  split
  · exact .inr rfl
  split
  · exact .inl ⟨rfl, rfl⟩
  split
  · exact .inl ⟨rfl, rfl⟩
  · exact .inr rfl

/-- A VERDICT handed over sets UNSENT at most, on contexts with its edge time. -/
theorem State.handVerdict_slot (s : State) (v : QueuedVerdict) (k : Fin 4) : ∃ b,
    (s.handVerdict v).corr.slots[k] =
      (s.corr.slots[k].map fun c => { c with unsent := c.unsent || b }) ∧
    (b = true → ∃ c, s.corr.slots[k] = some c ∧ c.edge = v.edge) := by
  rcases s.handVerdict_cases v with ⟨corr, -⟩ | dropped
  · refine ⟨false, ?_, by simp⟩
    rw [corr]
    simp
  · rw [dropped]
    cases hc : s.corr.slots[k] with
    | none =>
      refine ⟨false, ?_, by simp⟩
      rw [State.dropReport_corr]
      refine (Vector.getElem_ofFn k.isLt).trans ?_
      rw [show s.corr.slots[(⟨k.val, k.isLt⟩ : Fin 4)] = none from hc]
      rfl
    | some c =>
      exact ⟨c.edge == v.edge, s.dropReport_context v.edge v.recordId hc,
        fun h => ⟨c, rfl, beq_iff_eq.1 h⟩⟩

theorem State.handVerdict_handed (s : State) (v : QueuedVerdict) :
    (s.handVerdict v).corr.handed = s.corr.handed := by
  rcases s.handVerdict_cases v with ⟨corr, -⟩ | dropped
  · rw [corr]
  · rw [dropped, State.dropReport_corr]

/-- With room it is placed at the tail (R104). -/
theorem State.handVerdict_queue (run : s.link.view = .run) (room : s.link.queue.length < 8)
    (v : QueuedVerdict) : (s.handVerdict v).link.queue = s.link.queue ++ [.verdict v] ∧
      (s.handVerdict v).link.view = .run := by
  have queued : s.handVerdict v = s.withLink (s.link.enqueue (.verdict v)) :=
    (if_neg (by simp [run])).trans (if_pos room)
  rw [queued]
  exact ⟨rfl, run⟩

/-- The state before the VERDICT of context `k` is handed over. -/
def State.withVerdict (s : State) (e : Refresh) (k : Fin 4) (c : Context) : State :=
  s.editContext k fun x => { x with own := some (s.verdictOf e c) }

theorem State.withVerdict_slot (hc : s.corr.slots[k] = some c) (j : Fin 4) :
    (s.withVerdict e k c).corr.slots[j] =
      if j = k then some { c with own := some (s.verdictOf e c) } else s.corr.slots[j] := by
  refine (Vector.getElem_set k.isLt j.isLt).trans ?_
  by_cases h : j = k
  · subst h
    rw [if_pos rfl, if_pos rfl, hc]
    rfl
  · rw [if_neg fun e => h (Fin.ext e.symm), if_neg h]
    rfl

theorem State.judgeContext_eq (hc : s.corr.slots[k] = some c) : s.judgeContext e k =
    if c.linked = 0 then
      (s.withVerdict e k c).handVerdict ((s.withVerdict e k c).verdictFrame c (s.verdictOf e c))
    else ((s.withVerdict e k c).handVerdict ((s.withVerdict e k c).verdictFrame c
      (s.verdictOf e c))).editRecord c.linked
        (rewriteSympathetic ([e.index - 2, e.index - 1].filterMap s.entry ++ [e])) := by
  unfold State.judgeContext
  rw [hc]
  have entries : ((s.withVerdict e k c).handVerdict ((s.withVerdict e k c).verdictFrame c
      (s.verdictOf e c))).entry = s.entry := by
    have rms : ((s.withVerdict e k c).handVerdict ((s.withVerdict e k c).verdictFrame c
        (s.verdictOf e c))).rms = s.rms := (State.handVerdict_frame _ _).only.1 .rms (by decide)
    unfold State.entry
    rw [rms]
  rfl

/-! The contexts that are due, one after the other. -/

/-- `u` is `s` once the own verdicts of the contexts in the slots `l` have been made from `e`, in that
order. -/
structure VerdictsMade (e : Refresh) (s : State) (l : List (Fin 4)) (u : State) : Prop where
  frame : Frame [.link, .corr, .store] s u
  handed : u.corr.handed = s.corr.handed
  slots : ∀ k : Fin 4, ∃ b, u.corr.slots[k] = (s.corr.slots[k].map fun c => { c with
      own := if k ∈ l then some (s.verdictOf e c) else c.own, unsent := c.unsent || b }) ∧
    (b = true → ∃ j ∈ l, ∃ c d, s.corr.slots[j] = some c ∧ s.corr.slots[k] = some d ∧ c.edge = d.edge)
  queued : s.link.view = .run → s.link.queue.length + l.length ≤ 8 →
    u.link.view = .run ∧ ∃ frames : List QueuedVerdict, frames.length = l.length ∧
      u.link.queue = s.link.queue ++ frames.map QueuedFrame.verdict ∧
      ∀ (i : Nat) (k : Fin 4) (c : Context), l[i]? = some k → s.corr.slots[k] = some c →
        frames[i]? = some (s.verdictFrame c (s.verdictOf e c))

theorem VerdictsMade.nil (e : Refresh) (s : State) : VerdictsMade e s [] s where
  frame := .refl _ _
  handed := rfl
  slots k := ⟨false, by simp, by simp⟩
  queued run _ := ⟨run, [], rfl, by simp, by simp⟩

/-- One context more. -/
theorem VerdictsMade.append {l : List (Fin 4)} (h : VerdictsMade e s l u) (fresh : k ∉ l)
    (hc : s.corr.slots[k] = some c) : VerdictsMade e s (l ++ [k]) (u.judgeContext e k) := by
  obtain ⟨bk, hk, -⟩ := h.slots k
  rw [hc, Option.map_some, if_neg fresh] at hk
  let x : Context := { c with own := c.own, unsent := c.unsent || bk }
  have hk : u.corr.slots[k] = some x := hk
  have ctl : u.ctl = s.ctl := h.frame.only.1 .ctl (by decide)
  have verdict (d : Context) : u.verdictOf e d = s.verdictOf e d := by
    unfold State.verdictOf State.uDeadband State.iDeadband State.item
    rw [ctl]
  have same : u.verdictOf e x = s.verdictOf e c := verdict x
  let v := (u.withVerdict e k x).verdictFrame x (u.verdictOf e x)
  have frame : v = s.verdictFrame c (s.verdictOf e c) := by
    have straps : (u.withVerdict e k x).ctl.straps = s.ctl.straps := congrArg Controller.straps ctl
    dsimp only [v]
    unfold State.verdictFrame
    rw [straps, same]
  have judged := State.judgeContext_eq (e := e) hk
  have corr : (u.judgeContext e k).corr = ((u.withVerdict e k x).handVerdict v).corr := by
    rw [judged]
    split <;> rfl
  have link : (u.judgeContext e k).link = ((u.withVerdict e k x).handVerdict v).link := by
    rw [judged]
    split <;> rfl
  refine ⟨h.frame.trans (u.judgeContext_frame e k), ?_, fun j => ?_, fun run few => ?_⟩
  · rw [corr, State.handVerdict_handed]
    exact h.handed
  · obtain ⟨b, slot, why⟩ := (u.withVerdict e k x).handVerdict_slot v j
    rw [← corr, State.withVerdict_slot hk] at slot
    rw [State.withVerdict_slot hk] at why
    by_cases hj : j = k
    · subst hj
      rw [if_pos rfl] at slot
      refine ⟨bk || b, ?_, fun _ => ⟨j, by simp, c, c, hc, hc, rfl⟩⟩
      rw [slot, hc, same]
      simp only [Option.map_some, List.mem_append, List.mem_singleton, or_true, if_true, x,
        Bool.or_assoc]
    · rw [if_neg hj] at slot why
      obtain ⟨bj, hslot, earlier⟩ := h.slots j
      rw [hslot] at slot why
      have mem : j ∈ l ++ [k] ↔ j ∈ l := by simp [hj]
      refine ⟨bj || b, ?_, fun hb => ?_⟩
      · rw [slot, Option.map_map]
        simp only [mem, Function.comp_def, Bool.or_assoc]
      · rcases Bool.or_eq_true _ _ ▸ hb with old | new
        · obtain ⟨i, hi, rest⟩ := earlier old
          exact ⟨i, List.mem_append_left _ hi, rest⟩
        · obtain ⟨d', hd', edge⟩ := why new
          obtain ⟨d, hd, rfl⟩ := Option.map_eq_some_iff.1 hd'
          refine ⟨k, by simp, c, d, hc, hd, ?_⟩
          rw [frame] at edge
          exact edge.symm
  · rw [List.length_append, List.length_singleton] at few
    obtain ⟨view, frames, length, queue, each⟩ := h.queued run (by omega)
    have room : (u.withVerdict e k x).link.queue.length < 8 := by
      show u.link.queue.length < 8
      rw [queue, List.length_append, List.length_map]
      omega
    obtain ⟨queued, view'⟩ := State.handVerdict_queue (s := u.withVerdict e k x) view room v
    rw [link]
    refine ⟨view', frames ++ [v], by simp [length], ?_, fun i j d hi hd => ?_⟩
    · rw [queued, List.map_append, ← List.append_assoc]
      exact congrArg (· ++ [QueuedFrame.verdict v]) queue
    · rcases lt_or_ge i l.length with lt | ge
      · rw [List.getElem?_append_left lt] at hi
        rw [List.getElem?_append_left (length ▸ lt)]
        exact each i j d hi hd
      · rw [List.getElem?_append_right ge] at hi
        obtain ⟨last, rfl⟩ : i = l.length ∧ k = j := by
          obtain ⟨lt, same⟩ := List.getElem?_eq_some_iff.1 hi
          rw [List.length_singleton] at lt
          exact ⟨by omega, by simpa using same⟩
        obtain rfl := Option.some.inj (hc.symm.trans hd)
        rw [List.getElem?_append_right (length ▸ ge), length, last, Nat.sub_self, frame]
        rfl

theorem VerdictsMade.all {l : List (Fin 4)} (nodup : l.Nodup)
    (contexts : ∀ k ∈ l, ∃ c, s.corr.slots[k] = some c) :
    VerdictsMade e s l (l.foldl (fun st k => st.judgeContext e k) s) := by
  induction l using List.reverseRecOn with
  | nil => exact .nil e s
  | append_singleton l k ih =>
    obtain ⟨fresh, nodup'⟩ : k ∉ l ∧ l.Nodup := by
      rw [List.nodup_append] at nodup
      exact ⟨fun h => nodup.2.2 k h k (by simp) rfl, nodup.1⟩
    obtain ⟨c, hc⟩ := contexts k (by simp)
    rw [List.foldl_append]
    exact (ih nodup' fun j hj => contexts j (List.mem_append_left _ hj)).append fresh hc

end Sys2Proof.Machine
end


section
/-! The order of the due contexts, and CORRELATION_TAKES_REFRESH as a whole (R127, R131). -/

namespace Sys2Proof.Machine

variable {s u : State} {e : Refresh} {k : Fin 4} {c : Context} {m : RefIndex}

/-! The due contexts. -/

theorem State.verdictDue_iff : s.verdictDue m k = true ↔
    ∃ c, s.corr.slots[k] = some c ∧ c.own = none ∧ c.ref = m - 2 := by
  unfold State.verdictDue
  cases s.corr.slots[k] <;> simp

/-- The order rests on the slots alone. -/
theorem State.dueContexts_congr (same : u.corr.slots = s.corr.slots) (m : RefIndex) :
    u.dueContexts m = s.dueContexts m := by
  have edge : u.edgeOf = s.edgeOf := by
    unfold State.edgeOf
    rw [same]
  have due : u.verdictDue m = s.verdictDue m := by
    unfold State.verdictDue
    rw [same]
  have insert (k : Fin 4) (l : List (Fin 4)) : u.insertByEdge k l = s.insertByEdge k l := by
    induction l with
    | nil => rfl
    | cons j rest ih => rw [State.insertByEdge, State.insertByEdge, edge, ih]
  unfold State.dueContexts
  simp only [due, insert]

theorem State.insertByEdge_perm (s : State) (k : Fin 4) (l : List (Fin 4)) :
    (s.insertByEdge k l).Perm (k :: l) := by
  induction l with
  | nil => exact .refl _
  | cons j rest ih =>
    unfold State.insertByEdge
    split
    · exact .refl _
    · exact (ih.cons j).trans (.swap k j rest)

theorem State.insertsByEdge_perm (s : State) (l acc : List (Fin 4)) :
    (l.foldl (fun acc k => s.insertByEdge k acc) acc).Perm (l ++ acc) := by
  induction l generalizing acc with
  | nil => exact .refl _
  | cons k rest ih =>
    exact (ih _).trans (((s.insertByEdge_perm k acc).append_left rest).trans List.perm_middle)

/-- The due contexts are those of the filter, in some order. -/
theorem State.dueContexts_perm (s : State) (m : RefIndex) :
    (s.dueContexts m).Perm ((List.finRange 4).filter (s.verdictDue m)) := by
  have perm := s.insertsByEdge_perm ((List.finRange 4).filter (s.verdictDue m)) []
  rw [List.append_nil] at perm
  exact perm

theorem State.dueContexts_nodup (s : State) (m : RefIndex) : (s.dueContexts m).Nodup :=
  (s.dueContexts_perm m).nodup_iff.2 ((List.nodup_finRange 4).filter _)

theorem State.mem_dueContexts : k ∈ s.dueContexts m ↔
    ∃ c, s.corr.slots[k] = some c ∧ c.own = none ∧ c.ref = m - 2 := by
  rw [(s.dueContexts_perm m).mem_iff, List.mem_filter, State.verdictDue_iff]
  simp

/-- Two due contexts stand with the older mark first (log entry 14). -/
theorem State.dueContexts_pair {j k : Fin 4} (differ : j ≠ k)
    (due : ∀ i, s.verdictDue m i = true ↔ i = j ∨ i = k)
    (older : isBefore (s.edgeOf j) (s.edgeOf k) = true)
    (younger : isBefore (s.edgeOf k) (s.edgeOf j) = false) : s.dueContexts m = [j, k] := by
  let l := (List.finRange 4).filter (s.verdictDue m)
  have mem (i : Fin 4) : i ∈ l ↔ i = j ∨ i = k := by
    rw [List.mem_filter, due]
    simp
  have perm : l.Perm [j, k] :=
    (List.perm_ext_iff_of_nodup ((List.nodup_finRange 4).filter _) (by simp [differ])).2
      fun i => (mem i).trans (by simp)
  have ordered : l = [j, k] ∨ l = [k, j] := by
    obtain ⟨a, b, eq⟩ := List.length_eq_two.1 (perm.length_eq : l.length = 2)
    have ab : a ≠ b := by
      have nodup : l.Nodup := (List.nodup_finRange 4).filter _
      rw [eq] at nodup
      simpa using nodup
    have ha := (mem a).1 (by simp [eq])
    have hb := (mem b).1 (by simp [eq])
    rw [eq]
    grind
  unfold State.dueContexts
  rcases ordered with eq | eq
  · rw [show (List.finRange 4).filter (s.verdictDue m) = [j, k] from eq]
    simp [State.insertByEdge, younger]
  · rw [show (List.finRange 4).filter (s.verdictDue m) = [k, j] from eq]
    simp [State.insertByEdge, older]

/-! The linked SYMPATHETIC record. -/

/-- A record keeps all but UNSENT where a VERDICT is handed over (R104). -/
theorem State.handVerdict_record (s : State) (v : QueuedVerdict) {r : Record}
    (hr : r ∈ s.store.queue) : ∃ b, { r with flags := { r.flags with unsent := b } } ∈
      (s.handVerdict v).store.queue := by
  rcases s.handVerdict_cases v with ⟨-, store⟩ | dropped
  · refine ⟨r.flags.unsent, ?_⟩
    rw [store]
    exact hr
  · rw [dropped, State.dropReport_store]
    by_cases named : v.recordId ≠ 0 ∧ r.id = v.recordId
    · exact ⟨true, List.mem_map.2 ⟨r, hr, if_pos named⟩⟩
    · exact ⟨r.flags.unsent, List.mem_map.2 ⟨r, hr, if_neg named⟩⟩

/-- The record linked to a judged context is rewritten, and may come out UNSENT (R131). -/
theorem State.judgeContext_record (hc : s.corr.slots[k] = some c) (linked : c.linked ≠ 0)
    {r : Record} (hr : r ∈ s.store.queue) (hid : r.id = c.linked) :
    ∃ b, rewriteSympathetic ([e.index - 2, e.index - 1].filterMap s.entry ++ [e])
      { r with flags := { r.flags with unsent := b } } ∈ (s.judgeContext e k).store.queue := by
  obtain ⟨b, mem⟩ := (s.withVerdict e k c).handVerdict_record
    ((s.withVerdict e k c).verdictFrame c (s.verdictOf e c)) hr
  refine ⟨b, ?_⟩
  rw [State.judgeContext_eq hc, if_neg linked]
  exact List.mem_map.2 ⟨_, mem, if_pos hid⟩

/-- A rewritten record holds the extremes and flags of the three entries (R131). -/
theorem rewriteSympathetic_spec (e1 e2 e : Refresh) (r : Record) :
    let r' := rewriteSympathetic [e1, e2, e] r
    let v (x : Refresh) (j : Fin 3) : Nat := x.value[dIndex j]
    let clips (x : Refresh) : Prop := ∃ q : Fin 11, x.clip[q] = true
    r'.id = r.id ∧ r'.isOpen = r.isOpen ∧ r'.wave = r.wave ∧
    (r.cls = .sympathetic → r.flags.upgraded = false →
      (∀ j : Fin 3, r'.measure.dmin[j] = min (min (v e1 j) (v e2 j)) (v e j) ∧
        r'.measure.dmax[j] = max (max (v e1 j) (v e2 j)) (v e j) ∧
        r'.measure.residual ≤ r'.measure.dmin[j] ∧ r'.measure.dmax[j] ≤ r'.measure.maximum) ∧
      (∃ j : Fin 3, r'.measure.residual = r'.measure.dmin[j]) ∧
      (∃ j : Fin 3, r'.measure.maximum = r'.measure.dmax[j]) ∧
      (r'.flags.clipped = true ↔ clips e1 ∨ clips e2 ∨ clips e) ∧
      (r'.flags.freeRun = true ↔ e1.freeRun = true ∨ e2.freeRun = true ∨ e.freeRun = true)) ∧
    (¬(r.cls = .sympathetic ∧ r.flags.upgraded = false) → r'.measure = r.measure ∧
      r'.flags.clipped = r.flags.clipped ∧ r'.flags.freeRun = r.flags.freeRun) := by
  intro r' v clips
  by_cases rewritten : r.cls = .sympathetic ∧ r.flags.upgraded = false
  · have written : r' = { r with
        measure := spanMeasure [e1, e2, e]
        flags := { r.flags with
          clipped := [e1, e2, e].any Refresh.anyClip, freeRun := [e1, e2, e].any Refresh.freeRun } } :=
      if_pos rewritten
    rw [written]
    have dValue (x : Refresh) (j : Fin 3) : x.dValues[j] = v x j := Vector.getElem_ofFn j.isLt
    have least (j : Fin 3) : (spanMeasure [e1, e2, e]).dmin[j] = min (min (v e1 j) (v e2 j)) (v e j) := by
      refine (Vector.getElem_ofFn j.isLt).trans ?_
      rw [← dValue, ← dValue, ← dValue]
      rfl
    have greatest (j : Fin 3) :
        (spanMeasure [e1, e2, e]).dmax[j] = max (max (v e1 j) (v e2 j)) (v e j) := by
      refine (Vector.getElem_ofFn j.isLt).trans ?_
      rw [← dValue, ← dValue, ← dValue]
      rfl
    obtain ⟨bounds, residual, maximum⟩ := measureOf_spec (spanMeasure [e1, e2, e]).dmin
      (spanMeasure [e1, e2, e]).dmax
    refine ⟨rfl, rfl, rfl, fun _ _ => ⟨fun j => ⟨least j, greatest j, bounds j⟩, residual, maximum, ?_, ?_⟩,
      fun not => absurd rewritten not⟩
    · simp [Refresh.anyClip_iff, clips]
    · simp
  · have kept : r' = r := if_neg rewritten
    rw [kept]
    exact ⟨rfl, rfl, rfl, fun h h' => absurd ⟨h, h'⟩ rewritten, fun _ => ⟨rfl, rfl, rfl⟩⟩

/-- The correlation unit takes the oldest refresh handed to it (R127). -/
theorem State.correlationTakes_made {rest : List Refresh} (handed : s.corr.handed = e :: rest) :
    s.correlationTakes = (s.dueContexts e.index).foldl (fun st k => st.judgeContext e k)
      (s.withCorr { s.corr with handed := rest }) ∧
    VerdictsMade e (s.withCorr { s.corr with handed := rest }) (s.dueContexts e.index)
      s.correlationTakes := by
  have taken : s.correlationTakes = (s.dueContexts e.index).foldl (fun st k => st.judgeContext e k)
      (s.withCorr { s.corr with handed := rest }) := by
    unfold State.correlationTakes
    rw [handed]
    dsimp only
    rw [State.dueContexts_congr (s := s) (u := s.withCorr { s.corr with handed := rest }) rfl]
  refine ⟨taken, ?_⟩
  rw [taken]
  refine .all (s.dueContexts_nodup _) fun k hk => ?_
  obtain ⟨c, hc, -⟩ := State.mem_dueContexts.1 hk
  exact ⟨c, hc⟩

/-- Settles O45, by the run over the due contexts. -/
theorem ownVerdictIsComputed : Obligations.OwnVerdictIsComputed := by
  unfold Obligations.OwnVerdictIsComputed
  intro t e rest s handed
  obtain ⟨folded, made⟩ := State.correlationTakes_made (s := s.elapse t) handed
  rw [State.dueContexts_congr (s := s) (u := s.elapse t) rfl] at folded made
  have served : exec (.correlationTakesRefresh t) s = .next (s.elapse t).correlationTakes := rfl
  have context {k : Fin 4} {c : Context} (hc : s.corr.slots[k] = some c) :
      ∃ b, (s.elapse t).correlationTakes.corr.slots[k] = some { c with
        own := if k ∈ s.dueContexts e.index then some (s.verdictOf e c) else c.own
        unsent := c.unsent || b } := by
    obtain ⟨b, slot, -⟩ := made.slots k
    refine ⟨b, slot.trans ?_⟩
    rw [show ((s.elapse t).withCorr { (s.elapse t).corr with handed := rest }).corr.slots[k] = some c from hc]
    rfl
  refine ⟨_, served, (commandsKeepWhatIsNotTheirs _ _ _ served).1, made.handed, fun k c o hc ho => ?_,
    fun differ k notDue => ?_, s.dueContexts_nodup _, fun k => State.mem_dueContexts,
    fun j k c d jk dueJ dueK others hc hd older younger => ?_, fun run few => ?_,
    fun k c hc own ref => ?_⟩
  · obtain ⟨b, slot⟩ := context hc
    have past : k ∉ s.dueContexts e.index := fun h => by
      obtain ⟨d, hd, own, -⟩ := State.mem_dueContexts.1 h
      obtain rfl := Option.some.inj (hc.symm.trans hd)
      rw [ho] at own
      exact absurd own (by simp)
    exact ⟨_, slot, (if_neg past).trans ho⟩
  · obtain ⟨b, slot, why⟩ := made.slots k
    have past : k ∉ s.dueContexts e.index := fun h => notDue (State.mem_dueContexts.1 h)
    have sent : b = false := Bool.eq_false_iff.2 fun hb => by
      obtain ⟨j, hj, c, d, hc, hd, edge⟩ := why hb
      exact differ j k c d (fun h => past (h ▸ hj)) hc hd edge
    refine slot.trans ?_
    subst sent
    simp only [past, if_false, Bool.or_false]
    exact Option.map_id'
  · refine State.dueContexts_pair jk (fun i => State.verdictDue_iff.trans ⟨others i, ?_⟩) ?_ ?_
    · rintro (rfl | rfl)
      · exact dueJ
      · exact dueK
    · rw [State.edgeOf, State.edgeOf, hc, hd]
      exact older
    · rw [State.edgeOf, State.edgeOf, hc, hd]
      exact younger
  · obtain ⟨-, frames, length, queue, each⟩ := made.queued run few
    refine ⟨frames, length, queue, fun i k c c' o hi hc hc' ho => ?_⟩
    obtain ⟨b, slot⟩ := context hc
    obtain rfl := Option.some.inj (slot.symm.trans hc')
    have mem : k ∈ s.dueContexts e.index := List.mem_of_getElem? hi
    obtain rfl := Option.some.inj ((if_pos mem).symm.trans ho)
    exact each i k c hi hc
  · obtain ⟨b, slot⟩ := context hc
    have mem : k ∈ s.dueContexts e.index := State.mem_dueContexts.2 ⟨c, hc, own, ref⟩
    obtain ⟨origin, absent, present⟩ := s.verdictOf_spec e c
    refine ⟨_, s.verdictOf e c, slot, if_pos mem, rfl, rfl, origin, absent, present, ?_⟩
    intro e1 e2 r only linked hr hid he1 he2 v clips
    obtain ⟨b, rewritten⟩ := State.judgeContext_record
      (s := (s.elapse t).withCorr { (s.elapse t).corr with handed := rest }) (e := e) hc linked hr hid
    obtain ⟨rid, isOpen, wave, changed, kept⟩ := rewriteSympathetic_spec e1 e2 e
      { r with flags := { r.flags with unsent := b } }
    refine ⟨_, ?_, rid, isOpen, wave, changed, kept⟩
    have entries : [e.index - 2, e.index - 1].filterMap s.entry ++ [e] = [e1, e2, e] := by
      rw [List.filterMap_cons_some he1, List.filterMap_cons_some he2]
      rfl
    rw [folded, only, ← entries]
    exact rewritten

end Sys2Proof.Machine
end


section
/-! MARK_FALLING_EDGE: the stamp, the context that the edge opens and its SYMPATHETIC record (R87,
R122 to R124). -/

namespace Sys2Proof.Machine

variable {s u : State} {k : Fin 4} {r : Record} {t edge : Ms} {failed : Option (Fin 9)}

/-! A record made for a context. -/

/-- No record held has the id of the next one (R144). -/
theorem State.nextId_fresh (ids : s.ledger.IdsSound) (room : s.hasRoom = true) :
    ∀ r ∈ s.store.queue, r.id ≠ s.store.nextId := by
  have unique := State.idsUnique_of_sound
    (State.addRecord_idsSound ids room s.sympatheticRecord 0)
  unfold State.IdsUnique at unique
  rw [State.addRecord_queue, List.map_append, List.nodup_append] at unique
  exact fun r hr => unique.2.2 _ (List.mem_map_of_mem hr) _ (by simp [State.made])

/-- The record added and linked stands at the tail, with anchor open set (R124, R145). -/
theorem State.addLinked_queue (ids : s.ledger.IdsSound) (room : s.hasRoom = true) (r : Record) (t : Ms)
    (k : Fin 4) : ((s.addRecord r t).linkRecord k s.store.nextId).store.queue =
      s.store.queue ++ [{ s.made r t with anchorOpen := true }] := by
  have queue : ((s.addRecord r t).linkRecord k s.store.nextId).store.queue =
      (s.addRecord r t).store.queue.map fun x =>
        if x.id = s.store.nextId then { x with anchorOpen := true } else x := rfl
  have kept : (s.store.queue.map fun x => if x.id = s.store.nextId then
      ({ x with anchorOpen := true } : Record) else x) = s.store.queue :=
    (List.map_congr_left fun x hx => if_neg (State.nextId_fresh ids room x hx)).trans (List.map_id _)
  rw [queue, State.addRecord_queue, List.map_append, kept]
  exact congrArg (fun x => s.store.queue ++ [x]) (if_pos rfl)

/-- A record that its event or its context keeps OPEN is still so once it has been captured; no
copy that fails can have lost it where none fails (R73, R79, R149). -/
theorem State.captureRequest_kept (hr : r ∈ s.store.queue)
    (busy : r.running = true ∨ r.anchorOpen = true) (a : RefIndex) (failed : Option (Fin 9)) :
    ∃ r' ∈ (s.captureRequest r.id a failed).store.queue, r.Captured r' ∧
      (failed = none ∨ s.IdsUnique → r'.isOpen = r.isOpen ∧ r'.flags.aborted = r.flags.aborted) := by
  have settled (x : Record) (running : x.running = r.running) (anchor : x.anchorOpen = r.anchorOpen)
      (view : StationState) : x.settled view true = x := by
    unfold Record.settled
    rw [running, anchor]
    exact if_neg fun h => by rcases busy with h' | h' <;> simp [h'] at h
  rcases s.captureRequest_cases r.id a failed with ⟨x, w, e, -⟩ | ⟨_, _, -, -, fails, -⟩
  · refine ⟨{ r with wave := w }, ?_, rfl, fun _ => ⟨rfl, rfl⟩⟩
    rw [e]
    exact List.mem_map.2 ⟨r, hr, if_pos rfl⟩
  · by_cases unique : s.IdsUnique
    · obtain ⟨r', mem, own⟩ := State.captureRequest_own unique hr a failed
      refine ⟨r', mem, ?_⟩
      rcases own with ⟨w, rfl⟩ | own
      · exact ⟨rfl, fun _ => ⟨rfl, rfl⟩⟩
      · have open' := settled { r with
          wave := .absent .waveLost, flags := { r.flags with waveLost := true } } rfl rfl s.store.view
        obtain rfl := own.trans open'
        exact ⟨rfl, fun _ => ⟨rfl, rfl⟩⟩
    · obtain ⟨g, queue, captured⟩ := s.captureRequest_map r.id a failed
      exact ⟨g r, queue ▸ List.mem_map_of_mem hr, captured r,
        fun h => (h.elim fails unique).elim⟩

/-! The SYMPATHETIC record. -/

/-- The values and flags of the newest refresh (R124; log entry 26). -/
theorem State.sympatheticRecord_flags (s : State) :
    (s.sympatheticRecord.flags.clipped = true ↔ ∃ x old, s.rms.history = x :: old ∧
      ∃ q : Fin 11, x.clip[q] = true) ∧
    (s.sympatheticRecord.flags.freeRun = true ↔ ∃ x old, s.rms.history = x :: old ∧
      x.freeRun = true) := by
  unfold State.sympatheticRecord
  cases s.rms.history with
  | nil => simp
  | cons x old => simp [Refresh.anyClip_iff]

theorem State.linkRecord_corr (s : State) (k : Fin 4) (id : Nat) :
    (s.linkRecord k id).corr = { s.corr with
      slots := s.corr.slots.set k (s.corr.slots[k].map fun c => { c with linked := id }) } := rfl

theorem State.makeSympathetic_of_room (room : s.hasRoom = true) (hk : s.corr.slots[k].isSome = true) :
    let made := (s.addRecord s.sympatheticRecord edge).linkRecord k s.store.nextId
    s.makeSympathetic k edge failed =
      made.captureRequest s.store.nextId ((s.rms.history.head?.map Refresh.index).getD 0) failed ∧
    (∃ c, s.corr.slots[k] = some c ∧ ∀ j : Fin 4,
      (s.makeSympathetic k edge failed).corr.slots[j] =
        if j = k then some { c with linked := s.store.nextId } else s.corr.slots[j]) := by
  intro made
  have taken : s.makeSympathetic k edge failed =
      made.captureRequest s.store.nextId ((s.rms.history.head?.map Refresh.index).getD 0) failed :=
    if_pos room
  obtain ⟨c, hc⟩ := Option.isSome_iff_exists.1 hk
  refine ⟨taken, c, hc, fun j => ?_⟩
  have corr : (s.makeSympathetic k edge failed).corr = { s.corr with
      slots := s.corr.slots.set k (s.corr.slots[k].map fun c => { c with linked := s.store.nextId }) } := by
    rw [taken, (State.captureRequest_frame _ _ _ _).only.1 .corr (by decide), State.linkRecord_corr,
      (s.addRecord_frame _ _).only.1 .corr (by decide)]
  rw [corr]
  refine (Vector.getElem_set k.isLt j.isLt).trans ?_
  by_cases h : j = k
  · subst h
    rw [if_pos rfl, if_pos rfl, hc]
    rfl
  · rw [if_neg fun e => h (Fin.ext e.symm), if_neg h]
    rfl

/-! The falling edge. -/

theorem State.takeFallingEdge_none (none : s.edgeOpens = none) (failed : Option (Fin 9)) :
    s.takeFallingEdge failed = s.withMark (s.mark.falling s.now) := by
  unfold State.takeFallingEdge
  rw [none]

theorem State.takeFallingEdge_some (opens : s.edgeOpens = some k) (failed : Option (Fin 9)) :
    s.takeFallingEdge failed = (s.withMark (s.mark.falling s.now)).openContext k s.now failed := by
  unfold State.takeFallingEdge
  rw [opens]

theorem State.takeFallingEdge_mark (s : State) (failed : Option (Fin 9)) :
    (s.takeFallingEdge failed).mark = s.mark.falling s.now := by
  cases opens : s.edgeOpens with
  | none => rw [State.takeFallingEdge_none opens]; rfl
  | some k =>
    rw [State.takeFallingEdge_some opens]
    exact (State.openContext_frame _ k s.now failed).only.1 .mark (by decide)

theorem State.edgeOpens_eq_none (why : s.mark.view ≠ .run ∨ s.mark.lastEdge = some s.now ∨
    s.corr.view ≠ .run ∨ ∀ k : Fin 4, s.corr.slots[k] ≠ none) : s.edgeOpens = none := by
  unfold State.edgeOpens State.edgeReported
  split
  · next h =>
    simp only [Bool.and_eq_true, beq_iff_eq, bne_iff_ne] at h
    obtain ⟨⟨view, edge⟩, corr⟩ := h
    rcases why with not | not | not | full
    · exact absurd view not
    · exact absurd not edge
    · exact absurd corr not
    · exact List.find?_eq_none.2 fun k _ => by simpa [Option.isNone_iff_eq_none] using full k
  · rfl

theorem State.edgeOpens_eq_some (view : s.mark.view = .run) (edge : s.mark.lastEdge ≠ some s.now)
    (corr : s.corr.view = .run) (closed : s.corr.slots[k] = none)
    (low : ∀ j : Fin 4, j < k → s.corr.slots[j] ≠ none) : s.edgeOpens = some k := by
  unfold State.edgeOpens State.edgeReported
  rw [if_pos (by simp [view, edge, corr])]
  exact find?_finRange_eq_some (Option.isNone_iff_eq_none.2 closed) fun j hj =>
    Option.isNone_eq_false_iff.2 (Option.isSome_iff_ne_none.2 (low j hj))

/-! What the newest refresh and the tail of the queue give. -/

theorem State.preValues_spec (s : State) (n : RefIndex) :
    ((∀ e ∈ s.rms.history, e.index ≠ n - 2) → s.preValues n = none) ∧
    ∀ newer e older, s.rms.history = newer ++ e :: older → e.index = n - 2 →
      (∀ x ∈ newer, x.index ≠ n - 2) →
      ∃ p, s.preValues n = some p ∧ p.det = e.det ∧
        ∀ k : Fin 3, p.d[k] = e.value[dIndex k] ∧ p.i[k] = e.value[iIndex k] := by
  unfold State.preValues State.entry
  refine ⟨fun no => ?_, fun newer e older history index first => ?_⟩
  · rw [List.find?_eq_none.2 fun e he => by simpa using no e he]
    rfl
  · have found : s.rms.history.find? (fun e => e.index == n - 2) = some e := by
      rw [history, List.find?_append, List.find?_eq_none.2 fun x hx => by simpa using first x hx,
        Option.none_or, List.find?_cons_of_pos (by simpa using index)]
    rw [found]
    exact ⟨_, rfl, rfl, fun k => ⟨Vector.getElem_ofFn k.isLt, Vector.getElem_ofFn k.isLt⟩⟩

theorem State.recordTime_spec (s : State) (t : Ms) :
    let x := s.stationTime t
    (s.store.queue = [] → s.recordTime t = x) ∧
    ∀ old tail, s.store.queue = old ++ [tail] → s.recordTime t =
      if x.sec < tail.time.sec ∨ x.sec = tail.time.sec ∧ x.ms < tail.time.ms then tail.time else x := by
  unfold State.recordTime
  refine ⟨fun empty => by rw [empty]; rfl, fun old tail queue => ?_⟩
  rw [queue, List.getLast?_concat]
  exact ite_congr (by simp [StationTime.earlier]) (fun _ => rfl) fun _ => rfl

theorem State.stationTime_spec (s : State) (t : Ms) : s.stationTime t =
    let ms := if atOrAfter t s.store.startTime then (t - s.store.startTime).toNat else 0
    ⟨(s.stationBase + ms / 1000) % 4294967296, ms % 1000⟩ := by
  unfold State.stationTime State.elapsedAt isBefore
  cases atOrAfter t s.store.startTime <;> rfl

/-- A SYMPATHETIC record as it comes out of its capture (R124; log entries 11, 16, 28). -/
theorem State.sympathetic_made (room : s.hasRoom = true) (hk : s.corr.slots[k].isSome = true)
    (edge : Ms) (failed : Option (Fin 9)) :
    (s.ledger.IdsSound → recordMade s (s.makeSympathetic k edge failed)
      ((s.rms.history.head?).elim 0 Refresh.index) failed) ∧
    ∃ r ∈ (s.makeSympathetic k edge failed).store.queue,
      ({ s.made s.sympatheticRecord edge with anchorOpen := true } : Record).Captured r ∧
      (failed = none ∨ s.ledger.IdsSound → r.isOpen = true ∧ r.flags.aborted = false) := by
  let made := (s.addRecord s.sympatheticRecord edge).linkRecord k s.store.nextId
  have anchor : (s.rms.history.head?.map Refresh.index).getD 0 =
      (s.rms.history.head?).elim 0 Refresh.index := by
    cases s.rms.history.head? <;> rfl
  have taken := (State.makeSympathetic_of_room (edge := edge) (failed := failed) room hk).1
  rw [anchor] at taken
  have frame : Frame [.corr, .store, .ctl] s made :=
    ((s.addRecord_frame _ _).comp (State.linkRecord_frame _ _ _)).mono (by simp)
  refine ⟨fun ids => ?_, ?_⟩
  · rw [taken]
    exact recordMade_of (State.addLinked_queue ids room _ edge k) rfl (frame.only.1 .cap (by decide))
      (frame.only.1 .rms (by decide)) (frame.only.1 .cfe (by decide))
      (s.addRecord_nextId _ edge) (s.addRecord_storeFull _ edge) _ _
  · have mem : ({ s.made s.sympatheticRecord edge with anchorOpen := true } : Record) ∈
        made.store.queue := by
      refine List.mem_map.2 ⟨s.made s.sympatheticRecord edge, ?_, if_pos rfl⟩
      show _ ∈ (s.addRecord s.sympatheticRecord edge).store.queue
      rw [State.addRecord_queue]
      exact List.mem_append_right _ (List.mem_singleton_self _)
    obtain ⟨r, hr, captured, kept⟩ := State.captureRequest_kept mem (.inr rfl)
      ((s.rms.history.head?).elim 0 Refresh.index) failed
    refine ⟨r, taken ▸ hr, captured, fun h => kept (h.imp_right fun ids => ?_)⟩
    have sound := State.idsUnique_of_sound
      (State.addRecord_idsSound ids room s.sympatheticRecord edge)
    exact sound.map rfl fun x => by split <;> rfl

/-- Settles O35, by the context that the edge opens. -/
theorem fallingEdgeOpensAContext : Obligations.FallingEdgeOpensAContext := by
  unfold Obligations.FallingEdgeOpensAContext
  refine ⟨fun t failed s released => ?_, fun s => ⟨fun empty => ?_, fun e old history => ?_,
    s.preValues_spec, fun t => ?_⟩⟩
  · have served : exec (.markFallingEdge t failed) s = .next ((s.elapse t).takeFallingEdge failed) :=
      congrArg Host.Outcome.next (if_neg (by simp [released]))
    have frame := (s.elapse t).takeFallingEdge_frame failed
    have now : ((s.elapse t).takeFallingEdge failed).now = (s.elapse t).now :=
      congrArg (fun n => BitVec.ofNat 48 (n / Config.ticksPerMs)) frame.steady.time
    have mark := (s.elapse t).takeFallingEdge_mark failed
    refine ⟨_, served, ?_, ?_, ?_⟩
    · rw [mark, now]
      rfl
    · rw [now]
      intro why
      rw [State.takeFallingEdge_none (State.edgeOpens_eq_none (s := s.elapse t) why)]
      exact ⟨rfl, rfl, rfl⟩
    · rw [now]
      intro k view edge corr closed low
      have opens : (s.elapse t).edgeOpens = some k :=
        State.edgeOpens_eq_some (s := s.elapse t) view edge corr closed low
      rw [State.takeFallingEdge_some opens]
      let w := (s.elapse t).withMark ((s.elapse t).mark.falling (s.elapse t).now)
      let new := w.newContext (s.elapse t).now
      let v := w.setContext k (some new)
      have slot (j : Fin 4) : v.corr.slots[j] = if j = k then some new else s.corr.slots[j] := by
        refine (Vector.getElem_set k.isLt j.isLt).trans ?_
        by_cases h : j = k
        · rw [if_pos h, if_pos (congrArg Fin.val h.symm)]
        · rw [if_neg h, if_neg fun e => h (Fin.ext e.symm)]
          rfl
      have own : v.corr.slots[k] = some new := (slot k).trans (if_pos rfl)
      have others (j : Fin 4) (h : j ≠ k) : v.corr.slots[j] = s.corr.slots[j] :=
        (slot j).trans (if_neg h)
      have opened : w.openContext k (s.elapse t).now failed =
          if s.det.mode = .watch then v.makeSympathetic k (s.elapse t).now failed else v := rfl
      rw [opened]
      by_cases watch : s.det.mode = .watch
      · rw [if_pos watch]
        by_cases few : s.store.queue.length < 48
        · have room : v.hasRoom = true := decide_eq_true few
          obtain ⟨-, c, hc, linked⟩ := State.makeSympathetic_of_room (s := v) (k := k)
            (edge := (s.elapse t).now) (failed := failed) room (Option.isSome_iff_exists.2 ⟨_, own⟩)
          obtain rfl := Option.some.inj (hc.symm.trans own)
          obtain ⟨recorded, r, hr, captured, kept⟩ := State.sympathetic_made (s := v) (k := k) room
            (Option.isSome_iff_exists.2 ⟨_, own⟩) (s.elapse t).now failed
          obtain ⟨clipped, freeRun⟩ := v.sympatheticRecord_flags
          refine ⟨_, (linked k).trans (if_pos rfl), fun j h => ((linked j).trans (if_neg h)).trans (others j h),
            rfl, rfl, rfl, rfl, rfl, rfl, rfl, rfl, fun h => absurd watch h,
            fun _ _ => ⟨rfl, fun order capacity => recorded (State.idsSound_of (s := s) order capacity),
              r, hr, ?_⟩,
            fun _ full => absurd few (not_lt.2 full)⟩
          rw [captured]
          exact ⟨rfl, rfl, rfl, rfl, rfl, rfl, rfl, rfl, rfl, rfl, rfl, rfl, rfl, rfl, rfl, rfl, rfl, rfl,
            clipped, freeRun, fun h => kept (h.imp_right fun order =>
              State.idsSound_of (s := s) order.1 order.2)⟩
        · have full : ¬v.hasRoom = true := fun h => few (of_decide_eq_true h)
          rw [show v.makeSympathetic k (s.elapse t).now failed = _ from if_neg full]
          exact ⟨new, own, others, rfl, rfl, rfl, rfl, rfl, rfl, rfl, rfl, fun h => absurd watch h,
            fun _ h => absurd h few, fun _ _ => ⟨rfl, rfl, Vector.getElem_set_self _⟩⟩
      · rw [if_neg watch]
        exact ⟨new, own, others, rfl, rfl, rfl, rfl, rfl, rfl, rfl, rfl, fun _ => ⟨rfl, rfl⟩,
          fun h => absurd h watch, fun h => absurd h watch⟩
  · unfold State.nextRefresh State.newestMeasure
    rw [empty]
    exact ⟨rfl, rfl⟩
  · unfold State.nextRefresh State.newestMeasure
    rw [history]
    obtain ⟨bounds, residual, maximum⟩ := measureOf_spec e.dValues e.dValues
    have value (k : Fin 3) : e.dValues[k] = e.value[dIndex k] := Vector.getElem_ofFn k.isLt
    simp only [value] at bounds residual maximum
    exact ⟨rfl, fun k => ⟨value k, value k, (bounds k).1, (bounds k).2⟩, residual, maximum⟩
  · have time := s.stationTime_spec t
    have record := s.recordTime_spec t
    unfold State.stationBase at time
    rw [time] at record
    cases frozen : s.store.frozenBase with
    | none => rw [frozen] at record; exact record
    | some b => rw [frozen] at record; exact record

end Sys2Proof.Machine
end


section
/-! The anchor request, the anchoring and the record of a crossing (R47 to R50, R90, R91, R125, R126). -/

namespace Sys2Proof.Machine

variable {s b u : State} {k : Fin 4} {m : Measurement} {n : RefIndex} {tn expiry : Ms}
  {failed : Option (Fin 9)} {anchor : Option (Fin 4)} {unanchored : Bool}

/-! The answer rests on the mark line, the slots, the records and MARK_JOIN alone. -/

theorem State.anchorAnswer_congr (mark : u.mark = s.mark) (slots : u.corr.slots = s.corr.slots)
    (queue : u.store.queue = s.store.queue) (items : u.ctl.items = s.ctl.items) :
    u.anchorAnswer tn = s.anchorAnswer tn := by
  have edge : u.edgeOf = s.edgeOf := by
    unfold State.edgeOf
    rw [slots]
  have candidates : u.candidates tn = s.candidates tn := by
    unfold State.candidates State.isCandidate State.upgradable State.recordOf State.markJoin State.item
    rw [slots, queue, mark, items]
  have latest (l : List (Fin 4)) : u.latestOf l = s.latestOf l := by
    induction l with
    | nil => rfl
    | cons j rest ih => rw [State.latestOf, State.latestOf, edge, ih]
  unfold State.anchorAnswer
  rw [mark, candidates, latest]

theorem State.upgradable_congr (queue : u.store.queue = s.store.queue) (c : Context) :
    u.upgradable c = s.upgradable c := by
  unfold State.upgradable State.recordOf
  rw [queue]

/-- A context that a request is answered with is OPEN (R90). -/
theorem State.anchorAnswer_open (h : s.anchorAnswer tn = .context k) : s.corr.slots[k].isSome = true := by
  unfold State.anchorAnswer at h
  split at h
  · exact absurd h (by simp)
  split at h
  · exact absurd h (by simp)
  cases latest : s.latestOf (s.candidates tn) with
  | none =>
    rw [latest] at h
    revert h
    dsimp only
    split <;> simp
  | some i =>
    rw [latest] at h
    obtain rfl := AnchorAnswer.context.inj h
    have cand := (List.mem_filter.1 (s.latestOf_mem latest)).2
    cases hc : s.corr.slots[i] with
    | none => simp [hc] at cand
    | some c => rfl

theorem State.edgeOpens_closed (opens : s.edgeOpens = some k) : s.corr.slots[k] = none := by
  obtain ⟨closed, -⟩ := State.edgeOpens_spec opens
  exact Option.map_eq_none_iff.1 closed

/-! What the request leaves (R91). -/

/-- The context in slot `k`, or the one that an edge now opens there. -/
def State.anchorContext (s : State) (k : Fin 4) : Context :=
  (s.corr.slots[k]).getD (s.newContext s.now)

/-- With the detector in EVENT the own edge makes no record. -/
theorem State.afterAnchor_pulse (event : s.det.mode ≠ .watch) (pulse : s.anchorAnswer tn = .pulse) :
    s.afterAnchor tn = match s.edgeOpens with
      | none => s.withMark (s.drivePulse.mark.falling s.now)
      | some k => (s.withMark (s.drivePulse.mark.falling s.now)).setContext k
          (some (s.newContext s.now)) := by
  have taken : s.afterAnchor tn = s.drivePulse.takeFallingEdge none := by
    unfold State.afterAnchor
    rw [pulse]
  have same : s.drivePulse.edgeOpens = s.edgeOpens := rfl
  rw [taken]
  cases opens : s.edgeOpens with
  | none => exact State.takeFallingEdge_none (same.trans opens) none
  | some k =>
    exact (State.takeFallingEdge_some (same.trans opens) none).trans (if_neg event)

theorem State.afterAnchor_of_no_pulse (no : s.anchorAnswer tn ≠ .pulse) : s.afterAnchor tn = s := by
  unfold State.afterAnchor
  cases answer : s.anchorAnswer tn with
  | none => rfl
  | context k => rfl
  | pulse => exact absurd answer no

/-- The request changes the mark line, and opens a context at most. -/
theorem State.afterAnchor_spec (event : s.det.mode ≠ .watch) (tn : Ms) :
    Frame [.mark, .corr] s (s.afterAnchor tn) ∧
    (s.afterAnchor tn).corr.view = s.corr.view ∧
    (s.anchorAnswer tn = .pulse → (s.afterAnchor tn).mark = s.drivePulse.mark.falling s.now) ∧
    (∀ k, s.anchorOf tn = some k → (s.afterAnchor tn).corr.slots[k] = some (s.anchorContext k)) ∧
    ∀ j, s.anchorOf tn ≠ some j → (s.afterAnchor tn).corr.slots[j] = s.corr.slots[j] := by
  by_cases pulse : s.anchorAnswer tn = .pulse
  · have anchor : s.anchorOf tn = s.edgeOpens := by
      unfold State.anchorOf
      rw [pulse]
    rw [State.afterAnchor_pulse event pulse, anchor]
    cases opens : s.edgeOpens with
    | none =>
      exact ⟨(s.withMark_frame _).mono (by simp), rfl, fun _ => rfl, fun k h => absurd h (by simp),
        fun _ _ => rfl⟩
    | some k =>
      refine ⟨((s.withMark_frame _).comp (State.setContext_frame _ _ _)).mono (by simp), rfl,
        fun _ => rfl, fun j h => ?_, fun j h => ?_⟩
      · obtain rfl := Option.some.inj h
        refine (Vector.getElem_set_self _).trans ?_
        rw [State.anchorContext, State.edgeOpens_closed opens]
        rfl
      · exact Vector.getElem_set_ne k.isLt j.isLt fun e => h (congrArg some (Fin.ext e))
  · rw [State.afterAnchor_of_no_pulse pulse]
    refine ⟨.refl _ _, rfl, fun h => absurd h pulse, fun k h => ?_, fun _ _ => rfl⟩
    have answer : s.anchorAnswer tn = .context k := by
      unfold State.anchorOf at h
      cases answer : s.anchorAnswer tn with
      | none => rw [answer] at h; exact absurd h (by simp)
      | context j => rw [answer] at h; rw [Option.some.inj h]
      | pulse => exact absurd answer pulse
    obtain ⟨c, hc⟩ := Option.isSome_iff_exists.1 (State.anchorAnswer_open answer)
    rw [State.anchorContext, hc]
    rfl

/-! The anchoring (R125). -/

/-- The context as the anchoring of a crossing at refresh `n` leaves it. -/
def State.anchored (s : State) (n : RefIndex) (c : Context) : Context :=
  if c.own.isNone then { c with anchored := true, ref := n, pre := s.preValues n }
  else { c with anchored := true }

theorem State.anchored_fields (s : State) (n : RefIndex) (c : Context) :
    (s.anchored n c).anchored = true ∧ (s.anchored n c).linked = c.linked ∧
    (s.anchored n c).edge = c.edge ∧ (s.anchored n c).close = c.close ∧
    (s.anchored n c).own = c.own ∧ (s.anchored n c).peers = c.peers ∧
    (s.anchored n c).unsent = c.unsent ∧
    (s.anchored n c).ref = (if c.own = none then n else c.ref) ∧
    (s.anchored n c).pre = (if c.own = none then s.preValues n else c.pre) ∧
    s.anchored n c = if c.own = none then { c with anchored := true, ref := n, pre := s.preValues n }
      else { c with anchored := true } := by
  unfold State.anchored
  cases c.own <;> simp

theorem State.takeAnchoring_slots (run : s.corr.view = .run) (k : Fin 4) (n : RefIndex) (j : Fin 4) :
    (s.takeAnchoring k n).corr.slots[j] =
      if j = k then s.corr.slots[k].map (s.anchored n) else s.corr.slots[j] := by
  have taken : s.takeAnchoring k n = s.editContext k (s.anchored n) := if_neg (by simp [run])
  rw [taken]
  refine (Vector.getElem_set k.isLt j.isLt).trans ?_
  by_cases h : j = k
  · rw [if_pos h, if_pos (congrArg Fin.val h.symm)]
  · rw [if_neg h, if_neg fun e => h (Fin.ext e.symm)]
    rfl

/-! The record of the event. -/

/-- The record added, linked or not (R48, R124). -/
def State.addAnchored (s : State) (r : Record) (t : Ms) (anchor : Option (Fin 4)) : State :=
  anchor.elim (s.addRecord r t) fun k => (s.addRecord r t).linkRecord k s.store.nextId

theorem State.obtainRecord_of_room (room : s.hasRoom = true) :
    s.obtainRecord m expiry anchor unanchored failed =
      ((s.addAnchored (eventRecord m unanchored) m.time anchor).withDet
        { s.det with mode := .event m s.store.nextId expiry }).captureRequest s.store.nextId
          m.crossing failed := by
  have det : (s.addAnchored (eventRecord m unanchored) m.time anchor).det = s.det := by
    cases anchor with
    | none => exact (s.addRecord_frame _ _).only.1 .det (by decide)
    | some k => exact (s.addRecord_frame _ _).only.1 .det (by decide)
  rw [← det]
  unfold State.obtainRecord
  rw [if_pos room]
  cases anchor <;> rfl

theorem State.addAnchored_frame (s : State) (r : Record) (t : Ms) (anchor : Option (Fin 4)) :
    Frame [.corr, .store, .ctl] s (s.addAnchored r t anchor) := by
  cases anchor with
  | none => exact (s.addRecord_frame _ _).mono (by simp)
  | some k => exact ((s.addRecord_frame _ _).comp (State.linkRecord_frame _ _ _)).mono (by simp)

theorem State.addAnchored_queue (ids : s.ledger.IdsSound) (room : s.hasRoom = true) (r : Record)
    (t : Ms) (anchor : Option (Fin 4)) : (s.addAnchored r t anchor).store.queue =
      s.store.queue ++ [{ s.made r t with anchorOpen := anchor.isSome }] := by
  cases anchor with
  | none => exact State.addRecord_queue s r t
  | some k => exact State.addLinked_queue ids room r t k

theorem State.addAnchored_slot (s : State) (r : Record) (t : Ms) (anchor : Option (Fin 4)) (j : Fin 4) :
    (s.addAnchored r t anchor).corr.slots[j] =
      if anchor = some j then s.corr.slots[j].map fun c => { c with linked := s.store.nextId }
      else s.corr.slots[j] := by
  have corr : (s.addRecord r t).corr = s.corr := (s.addRecord_frame r t).only.1 .corr (by decide)
  cases anchor with
  | none =>
    rw [if_neg (by simp)]
    exact congrArg (fun x : Correlation => x.slots[j]) corr
  | some k =>
    show ((s.addRecord r t).linkRecord k s.store.nextId).corr.slots[j] = _
    rw [State.linkRecord_corr, corr]
    refine (Vector.getElem_set k.isLt j.isLt).trans ?_
    by_cases h : k = j
    · subst h
      rw [if_pos rfl, if_pos rfl]
    · rw [if_neg fun e => h (Option.some.inj e), if_neg fun e => h (Fin.ext e)]
      rfl

/-- The new event record as its capture leaves it, OPEN while the event runs (R49, R71, R149). -/
theorem State.obtainRecord_made (ids : s.ledger.IdsSound) (room : s.hasRoom = true) :
    let obtained := s.obtainRecord m expiry anchor unanchored failed
    recordMade s obtained m.crossing failed ∧
    obtained.det = { s.det with mode := .event m s.store.nextId expiry } ∧
    obtained.mark = s.mark ∧ obtained.store.queue.length = s.store.queue.length + 1 ∧
    (∀ j : Fin 4, obtained.corr.slots[j] =
      if anchor = some j then s.corr.slots[j].map fun c => { c with linked := s.store.nextId }
      else s.corr.slots[j]) ∧
    ∃ r ∈ obtained.store.queue,
      ({ s.made (eventRecord m unanchored) m.time with anchorOpen := anchor.isSome } : Record).Captured r ∧
      r.isOpen = true ∧ r.flags.aborted = false := by
  intro obtained
  let added := s.addAnchored (eventRecord m unanchored) m.time anchor
  let made := added.withDet { s.det with mode := .event m s.store.nextId expiry }
  have taken : obtained = made.captureRequest s.store.nextId m.crossing failed :=
    State.obtainRecord_of_room room
  have frame := s.addAnchored_frame (eventRecord m unanchored) m.time anchor
  have queue : made.store.queue = _ := State.addAnchored_queue ids room (eventRecord m unanchored)
    m.time anchor
  have store : (s.addAnchored (eventRecord m unanchored) m.time anchor).store.nextId =
      (s.addRecord (eventRecord m unanchored) m.time).store.nextId ∧
      (s.addAnchored (eventRecord m unanchored) m.time anchor).ctl =
      (s.addRecord (eventRecord m unanchored) m.time).ctl := by
    cases anchor <;> exact ⟨rfl, rfl⟩
  have capture := made.captureRequest_frame s.store.nextId m.crossing failed
  rw [taken]
  refine ⟨recordMade_of queue rfl (frame.only.1 .cap (by decide)) (frame.only.1 .rms (by decide))
      (frame.only.1 .cfe (by decide)) (store.1.trans (s.addRecord_nextId _ _))
      ((congrArg (fun c : Controller => c.causes[(9 : Fin 13)]) store.2).trans
        (s.addRecord_storeFull _ _)) _ _,
    capture.only.1 .det (by decide),
    (capture.only.1 .mark (by decide)).trans (frame.only.1 .mark (by decide)), ?_, fun j => ?_, ?_⟩
  · rw [(made.captureRequest_rewrites _ _ _).length, queue, List.length_append, List.length_singleton]
  · rw [capture.only.1 .corr (by decide)]
    exact s.addAnchored_slot _ _ anchor j
  · have unique : made.IdsUnique := by
      have sound := State.idsUnique_of_sound
        (State.addRecord_idsSound ids room (eventRecord m unanchored) m.time)
      unfold State.IdsUnique at sound ⊢
      rw [State.addRecord_queue, List.map_append] at sound
      rw [queue, List.map_append]
      exact sound
    have mem : ({ s.made (eventRecord m unanchored) m.time with anchorOpen := anchor.isSome } : Record) ∈
        made.store.queue := by
      rw [queue]
      exact List.mem_append_right _ (List.mem_singleton_self _)
    obtain ⟨r, hr, captured, kept⟩ := State.captureRequest_kept mem (.inl rfl) m.crossing failed
    obtain ⟨isOpen, aborted⟩ := kept (.inr unique)
    exact ⟨r, hr, captured, isOpen, aborted⟩

/-! The crossing's anchor and record together. -/

/-- `b` is `s` once the crossing of measurement `m` has been anchored (R90, R91, R125). -/
structure Anchors (m : Measurement) (s b : State) : Prop where
  frame : Frame [.mark, .corr] s b
  mark : b.mark = (s.afterAnchor m.time).mark
  slot : s.corr.view = .run → ∀ k, s.anchorOf m.time = some k →
    b.corr.slots[k] = some (s.anchored m.crossing (s.anchorContext k))
  others : ∀ j, s.anchorOf m.time ≠ some j → b.corr.slots[j] = s.corr.slots[j]

/-- The record is an upgraded SYMPATHETIC one, or a new one is asked for (R48, R125, R126). -/
theorem State.anchorEvent_cases (event : s.det.mode ≠ .watch) (m : Measurement) (expiry : Ms)
    (failed : Option (Fin 9)) : ∃ b, Anchors m s b ∧
      ((∃ k, s.anchorOf m.time = some k ∧ s.corr.view = .run ∧
          s.upgradable (s.anchorContext k) = true ∧
          s.anchorEvent m expiry failed id = b.upgradeRecord m expiry (s.anchorContext k).linked) ∨
        ((s.corr.view = .run → ∀ k, s.anchorOf m.time = some k →
            s.upgradable (s.anchorContext k) = false) ∧
          s.anchorEvent m expiry failed id =
            b.obtainRecord m expiry (if s.corr.view = .run then s.anchorOf m.time else none)
              (s.anchorOf m.time).isNone failed)) := by
  obtain ⟨frame, view, -, slot, others⟩ := State.afterAnchor_spec event m.time
  unfold State.anchorEvent
  dsimp only [id]
  cases anchor : s.anchorOf m.time with
  | none =>
    refine ⟨s.afterAnchor m.time, ⟨frame, rfl, fun _ k h => ?_, others⟩, .inr ⟨fun _ k h => ?_, ?_⟩⟩
    · exact absurd (anchor.symm.trans h) (by simp)
    · exact absurd h (by simp)
    · rw [ite_self]
      rfl
  | some k =>
    dsimp only
    have slot := slot k anchor
    by_cases run : s.corr.view = .run
    · rw [if_neg (show ¬((s.afterAnchor m.time).corr.view != .run) = true by simp [view, run])]
      have slots := State.takeAnchoring_slots (view.trans run) k m.crossing
      have values : (s.afterAnchor m.time).anchored m.crossing = s.anchored m.crossing := by
        have rms : (s.afterAnchor m.time).rms = s.rms := frame.only.1 .rms (by decide)
        unfold State.anchored State.preValues State.entry
        rw [rms]
      have own := (slots k).trans (if_pos rfl)
      rw [slot, Option.map_some, values] at own
      rw [own]
      have anchors : Anchors m s ((s.afterAnchor m.time).takeAnchoring k m.crossing) := by
        refine ⟨(frame.comp (State.takeAnchoring_frame _ k _)).mono (by simp),
          (State.takeAnchoring_frame _ k _).only.1 .mark (by decide), fun _ j h => ?_, fun j h => ?_⟩
        · obtain rfl := Option.some.inj (anchor.symm.trans h)
          exact own
        · exact ((slots j).trans (if_neg fun e : j = k => h (e ▸ anchor))).trans (others j h)
      have upgradable : ((s.afterAnchor m.time).takeAnchoring k m.crossing).upgradable
          (s.anchored m.crossing (s.anchorContext k)) = s.upgradable (s.anchorContext k) := by
        have linked := (s.anchored_fields m.crossing (s.anchorContext k)).2.1
        rw [State.upgradable_congr (congrArg RecordStore.queue
          (anchors.frame.only.1 .store (by decide)))]
        unfold State.upgradable
        rw [linked]
      refine ⟨_, anchors, ?_⟩
      dsimp only
      rw [upgradable, (s.anchored_fields m.crossing (s.anchorContext k)).2.1, if_pos run]
      cases up : s.upgradable (s.anchorContext k) with
      | true => exact .inl ⟨k, rfl, run, up, rfl⟩
      | false =>
        refine .inr ⟨fun _ j h => ?_, rfl⟩
        obtain rfl := Option.some.inj h
        exact up
    · rw [if_pos (show ((s.afterAnchor m.time).corr.view != .run) = true by simp [view, run]), if_neg run]
      exact ⟨s.afterAnchor m.time, ⟨frame, rfl, fun h => absurd h run, others⟩,
        .inr ⟨fun h => absurd h run, rfl⟩⟩

end Sys2Proof.Machine
end


section
/-! A crossing in RUN and WATCH (R47 to R50, R90, R91, R125, R126). -/

namespace Sys2Proof.Machine

variable {s u : State} {e : Refresh} {k : Fin 4} {conds : Vector Cond 3} {tn : Ms}

theorem State.anchorOf_congr (answer : u.anchorAnswer tn = s.anchorAnswer tn)
    (opens : u.edgeOpens = s.edgeOpens) : u.anchorOf tn = s.anchorOf tn := by
  unfold State.anchorOf
  rw [answer, opens]

/-- A context that an edge has just opened is linked to nothing. -/
theorem State.anchorContext_upgradable : s.upgradable (s.anchorContext k) = true ↔
    ∃ c, s.corr.slots[k] = some c ∧ s.upgradable c = true := by
  unfold State.anchorContext
  cases hc : s.corr.slots[k] with
  | some c => simp
  | none =>
    have new : s.upgradable (s.newContext s.now) = false := by
      unfold State.upgradable
      cases s.recordOf (s.newContext s.now).linked with
      | none => rfl
      | some r => simp [State.newContext]
    simp [new]

theorem State.anchorContext_of_some {c : Context} (hc : s.corr.slots[k] = some c) :
    s.anchorContext k = c := by
  rw [State.anchorContext, hc]
  rfl

theorem State.anchorContext_of_none (hc : s.corr.slots[k] = none) :
    s.anchorContext k = s.newContext s.now := by
  rw [State.anchorContext, hc]
  rfl

/-- An upgradable record is held, SYMPATHETIC and not yet upgraded (R90, R126). -/
theorem State.record_of_upgradable {c : Context} (h : s.upgradable c = true) :
    c.linked ≠ 0 ∧ ∃ r ∈ s.store.queue, r.id = c.linked ∧ r.cls = .sympathetic ∧
      r.flags.upgraded = false := by
  unfold State.upgradable at h
  cases found : s.recordOf c.linked with
  | none =>
    rw [found] at h
    exact absurd h (by simp)
  | some r =>
    rw [found] at h
    simp only [Bool.and_eq_true, bne_iff_ne, beq_iff_eq, Bool.not_eq_true'] at h
    obtain ⟨⟨linked, cls⟩, upgraded⟩ := h
    have same : (r.id == c.linked) = true := List.find?_some (p := fun x : Record => x.id == c.linked) found
    exact ⟨linked, r, List.mem_of_find?_eq_some found, beq_iff_eq.1 same, cls, upgraded⟩

/-- The measurement begun with the crossing refresh (R47). -/
theorem State.beginMeasure_spec (s : State) (e : Refresh) (conds : Vector Cond 3) :
    let m := s.beginMeasure e conds
    m.crossing = e.index ∧ m.time = e.stamp ∧ m.last = e.index ∧
    (∀ k : Fin 3, m.dmin[k] = e.value[dIndex k] ∧ m.dmax[k] = e.value[dIndex k]) ∧
    (m.low = true ↔ ∃ k : Fin 3, conds[k] = .outLow) ∧
    (m.high = true ↔ ∃ k : Fin 3, conds[k] = .outHigh) ∧
    (m.int = true ↔ ∀ k : Fin 3, e.value[dIndex k] < (s.setFor e.index k).intStart) ∧
    (m.clip = true ↔ ∃ q : Fin 11, e.clip[q] = true) ∧ m.freeRun = e.freeRun ∧
    ∀ k : Fin 3, conds[k] ≠ .back → (∀ j : Fin 3, j < k → conds[j] = .back) →
      m.onset = (s.setFor e.index k).ref := by
  refine ⟨rfl, rfl, rfl, fun k => ⟨Vector.getElem_ofFn k.isLt, Vector.getElem_ofFn k.isLt⟩, someCond_iff,
    someCond_iff, State.interrupted_iff, Refresh.anyClip_iff, rfl, fun k out low => ?_⟩
  have first : (List.finRange 3).find? (fun k => conds[k] != .back) = some k :=
    find?_finRange_eq_some (bne_iff_ne.2 out) fun j hj => by simpa using low j hj
  show s.onsetRef e conds = _
  unfold State.onsetRef
  rw [first]

/-! What rests on a few of the blocks alone. -/

theorem State.idsSound_congr (store : u.store = s.store) (ids : s.ledger.IdsSound) :
    u.ledger.IdsSound := by
  unfold Ledger.IdsSound Ledger.ids State.ledger at *
  rwa [store]

theorem recordMade_congr {s' : State} {a : RefIndex} {failed : Option (Fin 9)}
    (store : u.store = s.store) (cap : u.cap = s.cap) (rms : u.rms = s.rms) (cfe : u.cfe = s.cfe)
    (ctl : u.ctl = s.ctl) (h : recordMade u s' a failed) : recordMade s s' a failed := by
  unfold recordMade at h
  rwa [store, cap, rms, cfe, ctl] at h

theorem State.recordTime_congr (store : u.store = s.store) (items : u.ctl.items = s.ctl.items) (t : Ms) :
    u.recordTime t = s.recordTime t := by
  unfold State.recordTime State.stationTime State.elapsedAt State.stationBase State.timeBase State.item
  rw [store, items]

/-- What a record with the fields of the measurement `m` holds (R49, R51 to R53). -/
def Record.Measured (m : Measurement) (r : Record) : Prop :=
  r.running = true ∧ r.onset = m.onset ∧ r.measure.dmin = m.dmin ∧ r.measure.dmax = m.dmax ∧
  (∀ k : Fin 3, r.measure.residual ≤ m.dmin[k] ∧ m.dmax[k] ≤ r.measure.maximum) ∧
  (∃ k : Fin 3, r.measure.residual = m.dmin[k]) ∧ (∃ k : Fin 3, r.measure.maximum = m.dmax[k]) ∧
  r.flags.clipped = m.clip ∧ r.flags.freeRun = m.freeRun ∧ r.flags.mixed = (m.low && m.high)

theorem Record.measured_of {m : Measurement} {r : Record} (running : r.running = true)
    (onset : r.onset = m.onset) (measure : r.measure = m.measure) (clipped : r.flags.clipped = m.clip)
    (freeRun : r.flags.freeRun = m.freeRun) (mixed : r.flags.mixed = (m.low && m.high)) :
    r.Measured m := by
  obtain ⟨bounds, residual, maximum⟩ := measureOf_spec m.dmin m.dmax
  unfold Record.Measured
  rw [measure]
  exact ⟨running, onset, rfl, rfl, bounds, residual, maximum, clipped, freeRun, mixed⟩

/-- The crossing as it is served: the event begins, and is anchored (R47, R48). -/
def State.crossed (s : State) (t : Nat) (e : Refresh) (rest : List Refresh) (conds : Vector Cond 3) :
    State :=
  (s.judging t rest).withDet ⟨.event ((s.judging t rest).beginMeasure e conds) 0
    (e.stamp + msOf (1000 * s.maxOpen)), conds, rest⟩

/-- Settles O27, by the anchor and the record of the crossing. -/
theorem crossingBeginsAnEvent : Obligations.CrossingBeginsAnEvent := by
  unfold Obligations.CrossingBeginsAnEvent
  intro t failed e rest s conds handed judged run watch out order capacity
  let m := (s.judging t rest).beginMeasure e conds
  let expiry := e.stamp + msOf (1000 * s.maxOpen)
  let w := s.crossed t e rest conds
  have judged : (s.judging t rest).judgeConds e = conds := State.judging_conds judged
  have served : exec (.detectorTakesRefresh t failed) s = .next (w.anchorEvent m expiry failed id) := by
    rw [exec_detectorTakes_of_run handed run,
      State.judgeRefresh_watch (show (s.judging t rest).det.mode = _ from watch), judged,
      if_neg (not_isAllBack out)]
    rfl
  have answer (tn : Ms) : w.anchorAnswer tn = s.anchorAnswer tn := State.anchorAnswer_congr rfl rfl rfl rfl
  have anchor : w.anchorOf m.time = (s.elapse t).anchorOf e.stamp :=
    State.anchorOf_congr ((answer _).trans (State.anchorAnswer_congr rfl rfl rfl rfl)) rfl
  have upgradable (c : Context) : w.upgradable c = s.upgradable c := State.upgradable_congr rfl c
  have ids : w.ledger.IdsSound := State.idsSound_of (s := w) order capacity
  obtain ⟨crossing, time, last, extremes, low, high, int, clip, freeRun, onset⟩ :=
    (s.judging t rest).beginMeasure_spec e conds
  have inEvent : w.det.mode ≠ .watch := fun h => nomatch h
  obtain ⟨b, anchors, how⟩ := State.anchorEvent_cases inEvent m expiry failed
  obtain ⟨-, -, pulse, -, -⟩ := State.afterAnchor_spec inEvent m.time
  rw [anchor] at how
  have anchored := anchors.slot
  have others := anchors.others
  rw [anchor] at anchored others
  have now {s' : State} (h : Steady w s') : s'.now = w.now :=
    congrArg (fun n => BitVec.ofNat 48 (n / Config.ticksPerMs)) h.time
  have pulsed {s' : State} (mark : s'.mark = b.mark) (steady : Steady w s')
      (h : s.anchorAnswer e.stamp = .pulse) : s'.mark.drive = true ∧
        s'.mark.pulseEnd = some (s'.now + 2) ∧ s'.mark.asserted = true ∧
        s'.mark.lastEdge = some s'.now := by
    rw [now steady, mark, anchors.mark, pulse ((answer _).trans h)]
    exact ⟨rfl, rfl, rfl, rfl⟩
  have onCtl {s' : State} (h : Frame [.det, .mark, .corr, .store] w s') :
      s'.cap = s.cap ∧ s'.ctl = s.ctl :=
    ⟨h.only.1 .cap (by decide), h.only.1 .ctl (by decide)⟩
  rcases how with ⟨k, hk, view, up, taken⟩ | ⟨noUp, taken⟩
  · obtain ⟨c, hc, upc⟩ := State.anchorContext_upgradable.1 up
    have context : w.anchorContext k = c := State.anchorContext_of_some hc
    have slot := anchored view k hk
    rw [context] at taken slot
    rw [taken] at served
    have upc : s.upgradable c = true := (upgradable c).symm.trans upc
    obtain ⟨linked, r, hr, hid, cls, fresh⟩ := State.record_of_upgradable upc
    have upgrades : ∃ k c, (s.elapse t).anchorOf e.stamp = some k ∧ s.corr.slots[k] = some c ∧
        s.upgradable c = true := ⟨k, c, hk, hc, upc⟩
    have frame : Frame [.det, .mark, .corr, .store] w (b.upgradeRecord m expiry c.linked) :=
      (anchors.frame.comp (State.upgradeRecord_frame _ _ _ _)).mono (by simp)
    have queue : b.store.queue = s.store.queue :=
      congrArg RecordStore.queue (anchors.frame.only.1 .store (by decide))
    have det : b.det = w.det := anchors.frame.only.1 .det (by decide)
    obtain ⟨cap, ctl⟩ := onCtl frame
    refine ⟨_, m, c.linked, served, ?_, crossing, time, last, extremes, low, high, int, clip, freeRun,
      onset, pulsed rfl frame.steady, ?_⟩
    · show { b.det with mode := .event m c.linked expiry } = _
      rw [det]
      rfl
    intro anchor upgrades' measured
    refine ⟨fun j d _ hd hj _ => ?_, fun _ no => ?_, fun _ no => ?_, fun j _ _ no => ?_, fun j no => ?_⟩
    · obtain rfl := Option.some.inj (hk.symm.trans hj)
      obtain rfl := Option.some.inj (hc.symm.trans hd)
      refine ⟨rfl, ?_, cap, ctl, ⟨r, hr, hid, cls, ?_⟩, ?_⟩
      · show (b.store.queue.map _).length = _
        rw [List.length_map, queue]
      · refine ⟨_, List.mem_map.2 ⟨r, queue.symm ▸ hr, if_pos hid⟩, hid, rfl,
          Record.measured_of rfl rfl rfl rfl rfl rfl, rfl, rfl, rfl, rfl, rfl⟩
      · exact slot.trans (congrArg some (w.anchored_fields m.crossing c).2.2.2.2.2.2.2.2.2)
    · exact absurd upgrades (no.resolve_left fun h => h view)
    · exact absurd upgrades (no.resolve_left fun h => h view)
    · exact absurd upgrades no
    · exact others j no
  · rw [taken] at served
    have store : b.store = s.store := anchors.frame.only.1 .store (by decide)
    have det : b.det = w.det := anchors.frame.only.1 .det (by decide)
    have noUpgrade {k : Fin 4} {c : Context} (view : s.corr.view = .run)
        (hk : (s.elapse t).anchorOf e.stamp = some k) (hc : s.corr.slots[k] = some c) :
        ¬s.upgradable c = true := fun up => by
      have := noUp view k hk
      rw [State.anchorContext_of_some (s := w) hc, upgradable, up] at this
      exact Bool.noConfusion this
    -- The context that the event is anchored to, once linked to what is made.
    have context {s' : State} (steady : Steady w s') {k : Fin 4} {x : Nat}
        (slot : s'.corr.slots[k] = some { w.anchored m.crossing (w.anchorContext k) with linked := x }) :
        ∃ c', s'.corr.slots[k] = some c' ∧ c'.anchored = true ∧ c'.linked = x ∧
        (∀ c, s.corr.slots[k] = some c → c'.edge = c.edge ∧ c'.close = c.close ∧
          c'.own = c.own ∧ c'.peers = c.peers ∧ c'.unsent = c.unsent ∧
          c'.ref = (if c.own = none then e.index else c.ref) ∧
          c'.pre = (if c.own = none then s.preValues e.index else c.pre)) ∧
        (s.corr.slots[k] = none → c'.edge = s'.now ∧
          c'.close = s'.now + BitVec.ofNat 48 s.window ∧ c'.own = none ∧ c'.peers = [] ∧
          c'.ref = e.index ∧ c'.pre = s.preValues e.index) := by
      obtain ⟨isAnchored, -, edge, close, own, peers, unsent, ref, pre, -⟩ :=
        w.anchored_fields m.crossing (w.anchorContext k)
      refine ⟨_, slot, isAnchored, rfl, fun c hc => ?_, fun closed => ?_⟩
      · have same : w.anchorContext k = c := State.anchorContext_of_some hc
        rw [same] at edge close own peers unsent ref pre ⊢
        exact ⟨edge, close, own, peers, unsent, ref, pre⟩
      · have same : w.anchorContext k = w.newContext w.now := State.anchorContext_of_none closed
        rw [now steady]
        rw [same] at edge close own peers unsent ref pre ⊢
        exact ⟨edge, close, own, peers, ref, pre⟩
    by_cases room : s.hasRoom = true
    · have room' : b.hasRoom = true := by
        unfold State.hasRoom at room ⊢
        rwa [store]
      have ids' : b.ledger.IdsSound := State.idsSound_congr (s := w) store ids
      obtain ⟨recorded, det', mark, length, slots, r, hr, captured, isOpen, aborted⟩ :=
        State.obtainRecord_made (m := m) (expiry := expiry) (failed := failed)
          (anchor := if w.corr.view = .run then (s.elapse t).anchorOf e.stamp else none)
          (unanchored := ((s.elapse t).anchorOf e.stamp).isNone) ids' room'
      have steady : Steady w (b.obtainRecord m expiry
          (if w.corr.view = .run then (s.elapse t).anchorOf e.stamp else none)
          ((s.elapse t).anchorOf e.stamp).isNone failed) :=
        (anchors.frame.comp (State.obtainRecord_frame _ _ _ _ _ _)).steady
      refine ⟨_, m, s.store.nextId, served, ?_, crossing, time, last, extremes, low, high, int, clip,
        freeRun, onset, pulsed mark steady, ?_⟩
      · rw [det', det, store]
        rfl
      intro anchor' upgrades measured
      refine ⟨fun j d view hd hj up => absurd up (noUpgrade view hj hd), fun _ _ => ⟨rfl, ?_, ?_, ?_⟩,
        fun full => Bool.noConfusion (room.symm.trans full), fun j view hj _ => ?_, fun j no => ?_⟩
      · rw [length, store]
      · exact recordMade_congr store (anchors.frame.only.1 .cap (by decide))
          (anchors.frame.only.1 .rms (by decide)) (anchors.frame.only.1 .cfe (by decide))
          (anchors.frame.only.1 .ctl (by decide)) recorded
      · refine ⟨r, hr, ?_⟩
        have recordTime : b.recordTime e.stamp = s.recordTime e.stamp :=
          State.recordTime_congr store
            (congrArg Controller.items (anchors.frame.only.1 .ctl (by decide))) _
        have open' : (if w.corr.view = .run then anchor' else none).isSome =
            (anchor'.isSome && (s.corr.view == .run)) := by
          by_cases view : s.corr.view = .run
          · rw [if_pos (show w.corr.view = .run from view), view]
            simp
          · rw [if_neg (show ¬w.corr.view = .run from view)]
            simp [view]
        have own : r.id = s.store.nextId ∧ r.time = s.recordTime e.stamp ∧
            r.anchorOpen = (anchor'.isSome && (s.corr.view == .run)) := by
          rw [captured]
          exact ⟨congrArg RecordStore.nextId store, recordTime, open'⟩
        obtain ⟨rid, rtime, ropen⟩ := own
        have fields : Record.Measured m r ∧ r.cls = (if m.low then .dip else .swell) ∧
            r.durationMs = 0 ∧ r.halfCycles = 0 ∧ r.verdict = none ∧ r.locus = none ∧ r.peers = [] ∧
            r.flags.upgraded = false ∧ r.flags.ongoing = false ∧
            r.flags.unanchored = anchor'.isNone := by
          rw [captured]
          exact ⟨Record.measured_of rfl rfl rfl rfl rfl rfl, rfl, rfl, rfl, rfl, rfl, rfl, rfl, rfl, rfl⟩
        obtain ⟨measured', cls, ms, halves, verdict, locus, peers, up, ongoing, un⟩ := fields
        exact ⟨rid, measured', isOpen, cls, rtime, ms, halves, verdict, locus, peers, up, ongoing,
          aborted, un, ropen⟩
      · have link : (if w.corr.view = .run then (s.elapse t).anchorOf e.stamp else none) = some j :=
          (if_pos (show w.corr.view = .run from view)).trans hj
        have slot := slots j
        rw [if_pos link, anchored view j hj, store] at slot
        rw [if_pos room]
        exact context steady slot
      · have link : (if w.corr.view = .run then (s.elapse t).anchorOf e.stamp else none) ≠ some j := by
          split
          · exact no
          · simp
        exact ((slots j).trans (if_neg link)).trans (others j no)
    · have kept : b.obtainRecord m expiry
          (if w.corr.view = .run then (s.elapse t).anchorOf e.stamp else none)
          ((s.elapse t).anchorOf e.stamp).isNone failed = b := by
        refine if_neg ?_
        unfold State.hasRoom at room ⊢
        rwa [store]
      rw [kept] at served
      obtain ⟨cap, ctl⟩ := onCtl (anchors.frame.mono (by simp))
      refine ⟨_, m, 0, served, det, crossing, time, last, extremes, low, high, int, clip,
        freeRun, onset, pulsed rfl anchors.frame.steady, ?_⟩
      intro anchor' upgrades measured
      refine ⟨fun j d view hd hj up => absurd up (noUpgrade view hj hd), fun full => absurd full room,
        fun _ _ => ⟨rfl, store, cap, ctl⟩, fun j view hj _ => ?_, fun j no => others j no⟩
      rw [if_neg room]
      have unlinked : (w.anchored m.crossing (w.anchorContext j)).linked = 0 := by
        obtain ⟨frame, -, -, slot, -⟩ := State.afterAnchor_spec inEvent m.time
        rcases State.afterAnchor_anchorable inEvent (anchor.trans hj) _ (slot j (anchor.trans hj)) with
          none | up
        · exact (w.anchored_fields _ _).2.1.trans none
        · rw [State.upgradable_congr (s := w) (congrArg RecordStore.queue
            (frame.only.1 .store (by decide))), noUp view j hj] at up
          exact Bool.noConfusion up
      refine context anchors.frame.steady ((anchored view j hj).trans (congrArg some ?_))
      rw [← unlinked]

end Sys2Proof.Machine
end


section
/-! What a stop makes of the mark line, the notice link, the detector's conditions and the aggregator
(R63, R97, R98, R120, R121, R166). -/

namespace Sys2Proof.Machine

variable {s u v : State} {k : Stop} {o : StopOrder} {p : StopPhase} {failed : Option (Fin 9)}
  {between act : State → State}

theorem State.now_of_steady (h : Steady s u) : u.now = s.now :=
  congrArg (fun n => BitVec.ofNat 48 (n / Config.ticksPerMs)) h.time

/-! The crossing's pulse (R90, R91). -/

theorem State.afterAnchor_mark (s : State) (tn : Ms) : (s.afterAnchor tn).mark =
    if s.anchorAnswer tn = .pulse then s.drivePulse.mark.falling s.now else s.mark := by
  by_cases pulse : s.anchorAnswer tn = .pulse
  · rw [if_pos pulse]
    unfold State.afterAnchor
    rw [pulse]
    exact State.takeFallingEdge_mark s.drivePulse none
  · rw [if_neg pulse, State.afterAnchor_of_no_pulse pulse]

/-- From the request on, a crossing leaves the mark line to what comes between. -/
theorem State.anchorEvent_mark (s : State) (m : Measurement) (expiry : Ms) (failed : Option (Fin 9))
    (hb : ∀ u, (between u).mark = u.mark) :
    (s.anchorEvent m expiry failed between).mark = (s.afterAnchor m.time).mark := by
  have obtained (u : State) (a : Option (Fin 4)) (n : Bool) :
      (u.obtainRecord m expiry a n failed).mark = u.mark :=
    (u.obtainRecord_frame m expiry a n failed).only.1 .mark (by decide)
  have anchored (u : State) (k : Fin 4) : (u.takeAnchoring k m.crossing).mark = u.mark :=
    (u.takeAnchoring_frame k m.crossing).only.1 .mark (by decide)
  have upgraded (u : State) (id : Nat) : (u.upgradeRecord m expiry id).mark = u.mark :=
    (u.upgradeRecord_frame m expiry id).only.1 .mark (by decide)
  unfold State.anchorEvent
  cases s.anchorOf m.time with
  | none => exact (obtained _ _ _).trans (hb _)
  | some k =>
    dsimp only
    split
    · exact (obtained _ _ _).trans (hb _)
    · split
      · exact ((obtained _ _ _).trans (anchored _ _)).trans (hb _)
      · split
        · exact ((upgraded _ _).trans (anchored _ _)).trans (hb _)
        · exact ((obtained _ _ _).trans (anchored _ _)).trans (hb _)

/-- The detector takes a refresh: in RUN a crossing may drive a pulse, and nothing else reaches the
mark line (R90, R91). -/
theorem State.detectorTakes_mark (s : State) (failed : Option (Fin 9))
    (hb : ∀ u, (between u).mark = u.mark) :
    (s.detectorTakes failed between).mark = s.mark ∨
    s.mark.view = .run ∧ s.det.handed ≠ [] ∧
      (s.detectorTakes failed between).mark = s.drivePulse.mark.falling s.now := by
  unfold State.detectorTakes
  cases handed : s.det.handed with
  | nil => exact .inl rfl
  | cons e rest =>
    let w := s.withDet { s.det with handed := rest }
    have judged : (w.judgeRefresh e failed between).mark = s.mark ∨
        s.mark.view = .run ∧ (w.judgeRefresh e failed between).mark = s.drivePulse.mark.falling s.now := by
      unfold State.judgeRefresh
      cases w.det.mode with
      | watch =>
        dsimp only
        split
        · exact .inl rfl
        · let m := w.beginMeasure e (w.judgeConds e)
          let x := w.withDet ⟨.event m 0 (e.stamp + msOf (1000 * w.maxOpen)), w.judgeConds e, w.det.handed⟩
          have mark : (w.takeCrossing e (w.judgeConds e) failed between).mark =
              (x.afterAnchor m.time).mark := State.anchorEvent_mark x m _ failed hb
          rw [mark, State.afterAnchor_mark]
          split
          · next pulse => exact .inr ⟨Calm.view_of_pulse (s := x) pulse, rfl⟩
          · exact .inl rfl
      | event m id expiry =>
        exact .inl ((Frame.ite ((w.endEvent_frame m id e).mono (by simp))
          ((w.measureEvent_frame m id expiry e (w.judgeConds e)).mono (by simp)) :
            Frame [.ref, .det, .store, .ctl] w _).only.1 .mark (by decide))
      | held m id =>
        exact .inl ((Frame.ite ((w.takeReturn_frame m id e failed).mono (by simp))
          ((w.withDet_frame _).mono (by simp)) :
            Frame [.ref, .det, .cap, .store, .ctl] w _).only.1 .mark (by decide))
    dsimp only
    split
    · exact judged.imp_right fun ⟨run, pulse⟩ => ⟨run, by simp, pulse⟩
    · exact .inl rfl

/-- The correlation unit's stop within a crossing. -/
theorem State.corrWithin_frame (o : StopOrder) (k : Stop) (u : State) :
    Frame [.link, .corr, .store, .ctl] u
      (u.when (o.corrWithin && !o.corrEarly) fun x => x.corrStops k) :=
  u.when_frame _ fun x => x.corrStops_frame k

/-- The readers of a stop: the detector's crossing may drive a pulse. -/
theorem State.readersTake_mark (s : State) (k : Stop) (o : StopOrder) (failed : Option (Fin 9)) :
    (s.readersTake k o failed).mark = s.mark ∨
    s.mark.view = .run ∧ s.det.handed ≠ [] ∧
      (s.readersTake k o failed).mark = s.drivePulse.mark.falling s.now := by
  have corr (u : State) : Frame [.link, .corr, .store] u
      (u.when (o.corrTakes && !o.corrEarly && u.corr.view == .run) State.correlationTakes) :=
    u.when_frame _ State.correlationTakes_frame
  have tracked : Frame [.ref] s (s.when o.trackerTakes State.trackerTakes) :=
    s.when_frame _ State.trackerTakes_frame
  have last (u : State) : ((u.when o.reportTakes State.trackerTakesReport).when
      (o.aggTakes && !o.aggEarly) State.aggregatorTakes).mark = u.mark :=
    ((u.when_frame o.reportTakes State.trackerTakesReport_frame).comp
      (State.when_frame _ (o.aggTakes && !o.aggEarly) State.aggregatorTakes_frame)).only.1 .mark (by simp)
  have det {u : State} (frame : Frame [.ref, .link, .corr, .store] s u) :
      (u.when (o.detTakes && !o.detEarly) fun x => x.detectorTakes failed fun st =>
        st.when (o.corrWithin && !o.corrEarly) fun x => x.corrStops k).mark = s.mark ∨
      s.mark.view = .run ∧ s.det.handed ≠ [] ∧
        (u.when (o.detTakes && !o.detEarly) fun x => x.detectorTakes failed fun st =>
          st.when (o.corrWithin && !o.corrEarly) fun x => x.corrStops k).mark =
            s.drivePulse.mark.falling s.now := by
    have mark : u.mark = s.mark := frame.only.1 .mark (by decide)
    have handed : u.det = s.det := frame.only.1 .det (by decide)
    have now : u.now = s.now := State.now_of_steady frame.steady
    cases o.detTakes && !o.detEarly with
    | false => exact .inl mark
    | true =>
      have taken := u.detectorTakes_mark failed fun x =>
        (State.corrWithin_frame o k x).only.1 .mark (by decide)
      unfold State.drivePulse at taken ⊢
      rw [State.withMark_mark, mark, handed, now] at taken
      exact taken
  unfold State.readersTake
  rw [last]
  split
  · exact det ((tracked.comp (corr _)).mono (by simp))
  · rw [show (State.when _ _ State.correlationTakes).mark = _ from (corr _).only.1 .mark (by decide)]
    exact det (tracked.mono (by simp))

/-! The mark line interface (R97, R98). -/

/-- What a stop taken at `now` makes of the mark line interface. -/
def Stop.ofMark (k : Stop) (now : Ms) (m : MarkLine) : MarkLine :=
  match k with
  | .halt => { m with drive := false, pulseEnd := none, view := .halted }
  | .restart low _ =>
    { asserted := low, drive := false, pulseEnd := none, lastEdge := m.lastEdge
      stuckExpiry := if low then some (now + msOf 51) else none
      recoveryExpiry := none, stuck := false, view := .config }

theorem State.markStops_mark (s : State) (k : Stop) : (s.markStops k).mark = k.ofMark s.now s.mark := by
  cases k <;> rfl

theorem State.stopBlocks_mark (s : State) (k : Stop) (p : StopPhase) (detectorFirst : Bool) :
    (s.stopBlocks k p detectorFirst).mark = if p.mark then k.ofMark s.now s.mark else s.mark := by
  have first : Frame [.store, .link, .corr] s
      ((s.when p.store fun st => st.storeTakes k.view).when p.link fun st => st.linkStops k) :=
    ((s.when_frame p.store fun u => u.storeTakes_frame k.view).comp
      (State.when_frame _ p.link fun u => u.linkStops_frame k)).mono (by simp)
  have det (u : State) : (u.when p.det State.detTakesStop).mark = u.mark :=
    (u.when_frame p.det State.detTakesStop_frame).only.1 .mark (by decide)
  have corr (u : State) : (u.when p.corr fun st => st.corrStops k).mark = u.mark :=
    (u.when_frame p.corr fun x => x.corrStops_frame k).only.1 .mark (by decide)
  have last (u : State) :
      ((u.when p.cap fun st => st.capStops k).when p.agg State.aggTakesStop).mark = u.mark :=
    ((u.when_frame p.cap fun x => x.capStops_frame k).comp
      (State.when_frame _ p.agg State.aggTakesStop_frame)).only.1 .mark (by simp)
  have mark (u : State) (frame : Frame [.store, .link, .corr] s u) :
      (u.when p.mark fun st => st.markStops k).mark =
        if p.mark then k.ofMark s.now s.mark else s.mark := by
    have same : u.mark = s.mark := frame.only.1 .mark (by decide)
    cases p.mark with
    | false => exact same
    | true =>
      rw [← State.now_of_steady frame.steady, ← same]
      exact u.markStops_mark k
  refine (last _).trans ?_
  split
  · rw [corr, det, mark _ first]
  · rw [det, corr, mark _ first]

/-- The mark line interface after a stop: an own pulse that a crossing began within it has left its
edge alone (R97). -/
theorem State.takeStop_mark (s : State) (k : Stop) (o : StopOrder) (failed : Option (Fin 9))
    (hact : ∀ u, (act u).mark = u.mark ∧ (act u).now = u.now) :
    (s.takeStop k o failed act).mark = k.ofMark s.now s.mark ∨
    s.ctl.state = .run ∧ (act (s.stopBlocks k (earlyPhase o) o.detectorFirst)).det.handed ≠ [] ∧
      (s.takeStop k o failed act).mark = k.ofMark s.now (s.drivePulse.mark.falling s.now) := by
  have early : (earlyPhase o).mark = o.markEarly := rfl
  have late : (earlyPhase o).others.mark = !o.markEarly := rfl
  let s1 := act (s.stopBlocks k (earlyPhase o) o.detectorFirst)
  have mark1 : s1.mark = if o.markEarly then k.ofMark s.now s.mark else s.mark :=
    (hact _).1.trans (s.stopBlocks_mark k _ _)
  have now1 : s1.now = s.now :=
    (hact _).2.trans (State.now_of_steady (s.stopBlocks_frame k _ _).steady)
  let s2 := s1.when (s.ctl.state == .run) fun st => st.readersTake k o failed
  have now2 : s2.now = s.now := (State.now_of_steady
    (s1.when_frame _ fun st => st.readersTake_frame k o failed).steady).trans now1
  have stopped : (s.takeStop k o failed act).mark =
      if !o.markEarly then k.ofMark s.now s2.mark else s2.mark := by
    rw [← now2, ← late]
    exact s2.stopBlocks_mark k _ _
  have readers : s2.mark = s1.mark ∨ s.ctl.state = .run ∧ s1.mark.view = .run ∧ s1.det.handed ≠ [] ∧
      s2.mark = s1.drivePulse.mark.falling s.now := by
    cases run : s.ctl.state == .run with
    | false => exact .inl (by rw [show s2 = s1.when (s.ctl.state == .run) _ from rfl, run]; rfl)
    | true =>
      have taken : s2 = s1.readersTake k o failed := by
        rw [show s2 = s1.when (s.ctl.state == .run) _ from rfl, run]
        rfl
      rw [taken, ← now1]
      exact (s1.readersTake_mark k o failed).imp_right fun h => ⟨beq_iff_eq.1 run, h⟩
  rw [stopped]
  cases isEarly : o.markEarly with
  | true =>
    rw [isEarly, if_pos rfl] at mark1
    have view : s1.mark.view ≠ .run := by
      rw [mark1]
      cases k <;> exact fun h => nomatch h
    left
    rcases readers with same | ⟨_, run, _⟩
    · exact same.trans mark1
    · exact absurd run view
  | false =>
    rw [isEarly, if_neg (by simp)] at mark1
    refine readers.imp (fun same => ?_) fun ⟨run, _, handed, pulsed⟩ => ⟨run, handed, ?_⟩
    · rw [same, mark1]
      rfl
    · unfold State.drivePulse at pulsed ⊢
      rw [State.withMark_mark, mark1, now1] at pulsed
      rw [pulsed]
      rfl

end Sys2Proof.Machine
end


section
/-! The aggregator at a stop (R161, R166). -/

namespace Sys2Proof.Machine

variable {s u v : State} {k : Stop} {o : StopOrder} {failed : Option (Fin 9)} {act : State → State}
  {ring : List IntervalEntry} {seq : Nat} {cause : CauseEntry} {i : Interval}

/-! No interval is open. -/

/-- No interval is open, and the ring, the next sequence number and INTERVAL_DONE are these. -/
structure Closed (ring : List IntervalEntry) (seq : Nat) (cause : CauseEntry) (s : State) : Prop where
  cur : s.agg.cur = none
  ring : s.agg.ring = ring
  seq : s.agg.nextSeq = seq
  cause : s.ctl.causes[(10 : Fin 13)] = cause

theorem Closed.of_agg (h : Closed ring seq cause s) (agg : u.agg = s.agg)
    (raises : Raises [2, 3, 7, 8, 9] s u) : Closed ring seq cause u :=
  ⟨agg ▸ h.cur, agg ▸ h.ring, agg ▸ h.seq, (raises 10 (by decide)).trans h.cause⟩

theorem Closed.of_frame {bs : List Block} (h : Closed ring seq cause s) (frame : Frame bs s u)
    (agg : Block.agg ∉ bs) (ctl : Block.ctl ∉ bs) : Closed ring seq cause u :=
  h.of_agg (frame.only.1 .agg agg) (.of_frame frame ctl)

theorem Closed.calm : Calm (Closed ring seq cause) where
  capture u id a failed h := h.of_agg ((u.captureRequest_frame id a failed).only.1 .agg (by decide))
    ((u.captureRequest_raises id a failed).mono (by decide))
  add u r t _ h := h.of_agg ((u.addRecord_frame r t).only.1 .agg (by decide))
    ((u.addRecord_raises r t).mono (by decide))
  edit u id f _ h := h.of_agg rfl (.of_eq rfl)
  judge u id h := h.of_agg ((u.judge_frame id).only.1 .agg (by decide))
    ((u.judge_raises id).mono (by decide))
  tally u c r m d h := h.of_agg rfl (.of_eq rfl)
  contexts u x _ h := h.of_agg rfl (.of_eq rfl)
  det u x _ h := h.of_agg rfl (.of_eq rfl)
  ends u n h := h.of_agg rfl (.of_eq rfl)
  edge u x _ _ h := h.of_agg rfl (.of_eq rfl)

/-- With no interval open a stop writes none (R166). -/
theorem Closed.calmStop (k : Stop) : CalmStop (Closed ring seq cause) k where
  toCalm := Closed.calm
  store u h := h.of_agg rfl (.of_eq rfl)
  link u h := h.of_frame (u.linkStops_frame k) (by decide) (by decide)
  clear _ u h := h.of_agg rfl (.of_eq rfl)
  mark u h := h.of_frame (u.markStops_frame k) (by decide) (by decide)
  corr u h := h.of_agg rfl (.of_eq rfl)
  cap u h := h.of_agg ((u.capStops_frame k).only.1 .agg (by decide))
    ((u.capStops_raises k).mono (by decide))
  agg u h := by
    have none : u.aggTakesStop = u := by
      unfold State.aggTakesStop
      rw [h.cur]
    rwa [none]
  handed u l h := h.of_agg rfl (.of_eq rfl)
  tracker u h := h.of_frame u.trackerTakes_frame (by decide) (by decide)
  report u h := h.of_frame u.trackerTakesReport_frame (by decide) (by decide)
  correlation u h := h.of_frame u.correlationTakes_frame (by decide) (by decide)
  aggregator u h := by
    have ctl : u.aggregatorTakes.ctl = u.ctl := u.aggregatorTakes_frame.only.1 .ctl (by decide)
    refine ⟨?_, ?_, ?_, (congrArg (fun c : Controller => c.causes[(10 : Fin 13)]) ctl).trans h.cause⟩
    · unfold State.aggregatorTakes
      split
      · exact h.cur
      · exact congrArg (Option.map _) h.cur
    · unfold State.aggregatorTakes
      split <;> exact h.ring
    · unfold State.aggregatorTakes
      split <;> exact h.seq
  free u n h := h.of_agg rfl (.of_eq rfl)

theorem noInterval_iff : noInterval s u ↔
    Closed s.agg.ring s.agg.nextSeq s.ctl.causes[(10 : Fin 13)] u :=
  ⟨fun ⟨a, b, c, d⟩ => ⟨a, b, c, d⟩, fun ⟨a, b, c, d⟩ => ⟨a, b, c, d⟩⟩

/-! The open interval. -/

/-- The aggregator takes its stop last of its phase. -/
theorem State.stopBlocks_agg (s : State) (k : Stop) (p : StopPhase) (detectorFirst : Bool) :
    ∃ v, Frame [.det, .cap, .mark, .link, .corr, .store, .ctl] s v ∧
      s.stopBlocks k p detectorFirst = v.when p.agg State.aggTakesStop := by
  have det (u : State) := u.when_frame p.det State.detTakesStop_frame
  have corr (u : State) := u.when_frame p.corr fun x => x.corrStops_frame k
  have first := (((s.when_frame p.store fun u => u.storeTakes_frame k.view).comp
    (State.when_frame _ p.link fun u => u.linkStops_frame k)).comp
    (State.when_frame _ p.mark fun u => u.markStops_frame k)).mono
      (cs := [.det, .cap, .mark, .link, .corr, .store, .ctl]) (by simp)
  have closed := first.trans (Frame.ite (c := detectorFirst = true)
    (((det _).comp (corr _)).mono (by simp)) (((corr _).comp (det _)).mono (by simp)))
  exact ⟨_, closed.trans ((State.when_frame _ p.cap fun x => x.capStops_frame k).mono (by simp)), rfl⟩

/-- The aggregator takes its refresh last of the readers. -/
theorem State.readersTake_agg (s : State) (k : Stop) (o : StopOrder) (failed : Option (Fin 9)) :
    ∃ v, Frame [.ref, .det, .cap, .mark, .link, .corr, .store, .ctl] s v ∧
      s.readersTake k o failed = v.when (o.aggTakes && !o.aggEarly) State.aggregatorTakes := by
  have det (u : State) := u.when_frame (o.detTakes && !o.detEarly) fun x =>
    x.detectorTakes_frame (bs := [.ref, .det, .cap, .mark, .link, .corr, .store, .ctl]) failed
      (fun y => (State.corrWithin_frame o k y).mono (by simp)) (by simp)
  have corr (u : State) := (u.when_frame (o.corrTakes && !o.corrEarly && u.corr.view == .run)
    State.correlationTakes_frame).mono
      (cs := [.ref, .det, .cap, .mark, .link, .corr, .store, .ctl]) (by simp)
  have tracked := (s.when_frame o.trackerTakes State.trackerTakes_frame).mono
      (cs := [.ref, .det, .cap, .mark, .link, .corr, .store, .ctl]) (by simp)
  have taken := tracked.trans (Frame.ite (c := o.corrBeforeDet = true)
    ((corr _).trans (det _)) ((det _).trans (corr _)))
  exact ⟨_, taken.trans ((State.when_frame _ o.reportTakes State.trackerTakesReport_frame).mono (by simp)),
    rfl⟩

/-- The interval stands with accumulators `acc`, and the clock, the ring and INTERVAL_DONE too. -/
structure Stands (s : State) (i : Interval) (acc : Accumulators) (u : State) : Prop where
  cur : u.agg.cur = some { i with acc := acc }
  ring : u.agg.ring = s.agg.ring
  seq : u.agg.nextSeq = s.agg.nextSeq
  now : u.now = s.now
  start : u.store.startTime = s.store.startTime

theorem Stands.of_frame {acc : Accumulators} {bs : List Block} (h : Stands s i acc u)
    (frame : Frame bs u v) (agg : Block.agg ∉ bs) : Stands s i acc v := by
  have same : v.agg = u.agg := frame.only.1 .agg agg
  exact ⟨same ▸ h.cur, same ▸ h.ring, same ▸ h.seq, (State.now_of_steady frame.steady).trans h.now,
    frame.steady.startTime.trans h.start⟩

/-- What the aggregator may take of a refresh within a stop (R29, R160). -/
theorem Stands.aggregatorTakes {acc : Accumulators} (h : Stands s i acc u) (c : Bool) :
    ∃ acc', (acc' = acc ∨ ∃ e ∈ u.agg.handed, acc' = acc.take e) ∧
      Stands s i acc' (u.when c State.aggregatorTakes) := by
  cases c with
  | false => exact ⟨acc, .inl rfl, h⟩
  | true =>
    show ∃ acc', _ ∧ Stands s i acc' u.aggregatorTakes
    unfold State.aggregatorTakes
    cases handed : u.agg.handed with
    | nil => exact ⟨acc, .inl rfl, h⟩
    | cons e rest =>
      dsimp only
      by_cases run : u.ctl.state = .run
      · refine ⟨acc.take e, .inr ⟨e, by simp, rfl⟩, ?_, h.ring, h.seq, h.now, h.start⟩
        show Option.map _ u.agg.cur = _
        rw [h.cur]
        exact congrArg some (if_pos run)
      · refine ⟨acc, .inl rfl, ?_, h.ring, h.seq, h.now, h.start⟩
        show Option.map _ u.agg.cur = _
        rw [h.cur]
        exact congrArg some (if_neg run)

/-- The interval that ends with a stop, as it is written (R166). -/
def State.Ended (s : State) (i : Interval) (u : State) : Prop :=
  ∃ en, Closed (pushEntry s.agg.ring en) ((s.agg.nextSeq + 1) % 4294967296) ⟨true, 0, false⟩ u ∧ en.seq = s.agg.nextSeq ∧
    en.start = i.start ∧ en.length = (s.now - s.store.startTime - i.elapsed).toNat / 1000 ∧
    en.isPartial = true ∧ entryHolds i en

theorem Stands.ends {acc : Accumulators} (h : Stands s i acc u) :
    s.Ended { i with acc := acc } u.aggTakesStop := by
  let j : Interval := { i with acc := acc }
  let length := (u.now - u.store.startTime - j.elapsed).toNat / 1000
  have written : u.aggTakesStop = u.writeInterval j length true none := by
    unfold State.aggTakesStop
    rw [h.cur]
  refine ⟨entryOf j u.agg.nextSeq length true, ?_, h.seq, rfl, ?_, rfl, entryOf_holds ..⟩
  · rw [written, ← h.ring, ← h.seq]
    exact ⟨rfl, rfl, rfl, State.raise_causes _ .intervalDone 0 10⟩
  · rw [← h.now, ← h.start]
    rfl

theorem State.Ended.endsPartial (few : s.agg.ring.length ≤ 144) (h : s.Ended i u) (now : u.now = s.now) : endsPartial s u i := by
  obtain ⟨en, ⟨cur, ring, seq, cause⟩, eseq, start, length, isPartial, holds⟩ := h
  rw [← now] at length
  rw [pushEntry_eq few] at ring
  exact ⟨cur, cause, seq, en, ring, eseq, start, length, isPartial, holds⟩

/-- An interval open at a stop is written with all that the aggregator took into it: what the events
`act` have added, and one refresh at most (R29, R161, R166). -/
theorem State.takeStop_interval (cur : s.agg.cur = some i)
    {A : Accumulators → Prop}
    (closed : ∀ {ring seq cause} u, Closed ring seq cause u → Closed ring seq cause (act u))
    (stands : ∀ u, Stands s i i.acc u → u.ctl.state = s.ctl.state → ∃ acc, A acc ∧ Stands s i acc (act u)) :
    ∃ acc, (acc = i.acc ∨ A acc ∨ s.ctl.state = .run ∧ ∃ acc', A acc' ∧ ∃ e ∈
        (act (s.stopBlocks k (earlyPhase o) o.detectorFirst)).agg.handed, acc = acc'.take e) ∧
      s.Ended { i with acc := acc } (s.takeStop k o failed act) := by
  have start : Stands s i i.acc s := ⟨cur, rfl, rfl, rfl, rfl⟩
  obtain ⟨v, frame, early⟩ := s.stopBlocks_agg k (earlyPhase o) o.detectorFirst
  have first := start.of_frame frame (by decide)
  have aggEarly : (earlyPhase o).agg = o.aggEarly := rfl
  have aggLate : (earlyPhase o).others.agg = !o.aggEarly := rfl
  unfold State.takeStop
  dsimp only
  cases isEarly : o.aggEarly with
  | true =>
    have stopped : s.stopBlocks k (earlyPhase o) o.detectorFirst = v.aggTakesStop := by
      rw [early, aggEarly, isEarly]
      rfl
    obtain ⟨en, done, fields⟩ := first.ends
    refine ⟨i.acc, .inl rfl, en, ?_, fields⟩
    have calm := Closed.calmStop (ring := pushEntry s.agg.ring en)
      (seq := (s.agg.nextSeq + 1) % 4294967296) (cause := ⟨true, 0, false⟩) k
    rw [stopped]
    have acted := closed _ done
    exact calm.free _ _ (calm.stopBlocks _ _ (State.when_keeps _ _ _ acted (calm.readersTake o failed acted)))
  | false =>
    have stopped : s.stopBlocks k (earlyPhase o) o.detectorFirst = v := by
      rw [early, aggEarly, isEarly]
      rfl
    rw [stopped]
    obtain ⟨acc, added, acted⟩ := stands v first frame.steady.state
    have readers : ∃ acc', (acc' = acc ∨ s.ctl.state = .run ∧ ∃ e ∈ (act v).agg.handed, acc' = acc.take e) ∧
        Stands s i acc' ((act v).when (s.ctl.state == .run) fun st => st.readersTake k o failed) := by
      cases run : s.ctl.state == .run with
      | false => exact ⟨acc, .inl rfl, acted⟩
      | true =>
        obtain ⟨w, frame', taken⟩ := (act v).readersTake_agg k o failed
        have agg : w.agg = (act v).agg := frame'.only.1 .agg (by decide)
        obtain ⟨acc', what, stands'⟩ := (acted.of_frame frame' (by decide)).aggregatorTakes _
        rw [agg] at what
        refine ⟨acc', what.imp_right fun h => ⟨beq_iff_eq.1 run, h⟩, ?_⟩
        show Stands s i acc' ((act v).readersTake k o failed)
        rwa [taken]
    obtain ⟨acc', what, stands'⟩ := readers
    obtain ⟨x, frame'', late⟩ := State.stopBlocks_agg
      ((act v).when (s.ctl.state == .run) fun st => st.readersTake k o failed) k (earlyPhase o).others
      o.detectorFirst
    rw [aggLate, isEarly] at late
    obtain ⟨en, done, fields⟩ := (stands'.of_frame frame'' (by decide)).ends
    refine ⟨acc', ?_, en, ?_, fields⟩
    · rcases what with rfl | ⟨run, e, he, rfl⟩
      · exact .inr (.inl added)
      · exact .inr (.inr ⟨run, acc, added, e, he, rfl⟩)
    · rw [late]
      exact (Closed.calmStop k).free _ _ done

end Sys2Proof.Machine
end


section
/-! The reports of dropped VERDICTs (R120, R132), and what each block reaches in a stop (R184). -/

namespace Sys2Proof.Machine

variable {s u : State} {k : Stop} {o : StopOrder} {failed : Option (Fin 9)} {act : State → State}
  {P : State → Prop}

/-! The drop of every queued VERDICT is reported (R120). -/

/-- The frame is a VERDICT with property `p`, not already withdrawn: its drop is reported. -/
def QueuedFrame.drops (p : QueuedVerdict → Bool) : QueuedFrame → Bool
  | .present => false
  | .verdict v => !v.withdrawn && p v

/-- A record with UNSENT set too where `b`. -/
def Record.unsentOr (r : Record) (b : Bool) : Record :=
  { r with flags := { r.flags with unsent := r.flags.unsent || b } }

/-- A context with UNSENT set too where `b`. -/
def Context.unsentOr (c : Context) (b : Bool) : Context := { c with unsent := c.unsent || b }

/-- The VERDICT names the record `r`. -/
def QueuedVerdict.names (r : Record) (v : QueuedVerdict) : Bool := v.recordId != 0 && v.recordId == r.id

theorem State.verdictQueued_iff {p : QueuedVerdict → Prop} {q : QueuedVerdict → Bool}
    (h : ∀ v, q v = true ↔ p v) : s.link.queue.any (QueuedFrame.drops q) = true ↔ s.verdictQueued p := by
  rw [List.any_eq_true]
  constructor
  · rintro ⟨f, hf, drops⟩
    cases f with
    | present => exact absurd drops (by simp [QueuedFrame.drops])
    | verdict v =>
      simp only [QueuedFrame.drops, Bool.and_eq_true, Bool.not_eq_true'] at drops
      exact ⟨v, hf, drops.1, (h v).1 drops.2⟩
  · rintro ⟨v, hv, withdrawn, hp⟩
    exact ⟨.verdict v, hv, by simp [QueuedFrame.drops, withdrawn, (h v).2 hp]⟩

theorem QueuedVerdict.names_iff {r : Record} {v : QueuedVerdict} :
    v.names r = true ↔ v.recordId ≠ 0 ∧ v.recordId = r.id := by
  simp [QueuedVerdict.names]

theorem State.reportFrame_slot (s : State) (f : QueuedFrame) (j : Fin 4) :
    (s.reportFrame f).corr.slots[j] =
      s.corr.slots[j].map fun c => c.unsentOr (f.drops fun v => v.edge == c.edge) := by
  have kept : s.corr.slots[j] = s.corr.slots[j].map fun c => c.unsentOr false := by
    cases s.corr.slots[j] with
    | none => rfl
    | some c => simp [Context.unsentOr]
  cases f with
  | present => exact kept
  | verdict v =>
    show (if v.withdrawn then s else s.dropReport v.edge v.recordId).corr.slots[j] = _
    cases withdrawn : v.withdrawn with
    | true =>
      rw [if_pos rfl]
      simp only [QueuedFrame.drops, withdrawn, Bool.not_true, Bool.false_and]
      exact kept
    | false =>
      rw [if_neg (by simp)]
      simp only [QueuedFrame.drops, withdrawn, Bool.not_false, Bool.true_and]
      cases hc : s.corr.slots[j] with
      | none =>
        rw [State.dropReport_corr]
        refine (Vector.getElem_ofFn j.isLt).trans ?_
        rw [show s.corr.slots[(⟨j.val, j.isLt⟩ : Fin 4)] = none from hc]
        rfl
      | some c =>
        rw [s.dropReport_context v.edge v.recordId hc]
        simp only [Option.map_some, Context.unsentOr, Bool.beq_comm]

theorem State.reportFrame_store (s : State) (f : QueuedFrame) : (s.reportFrame f).store =
    { s.store with queue := s.store.queue.map fun r => r.unsentOr (f.drops fun v => v.names r) } := by
  have kept : s.store = { s.store with queue := s.store.queue.map fun r => r.unsentOr false } := by
    have same : (fun r : Record => r.unsentOr false) = id := by
      funext r
      simp [Record.unsentOr]
    rw [same, List.map_id]
  cases f with
  | present => exact kept
  | verdict v =>
    show (if v.withdrawn then s else s.dropReport v.edge v.recordId).store = _
    cases withdrawn : v.withdrawn with
    | true =>
      rw [if_pos rfl]
      simp only [QueuedFrame.drops, withdrawn, Bool.not_true, Bool.false_and]
      exact kept
    | false =>
      rw [if_neg (by simp), State.dropReport_store]
      simp only [QueuedFrame.drops, withdrawn, Bool.not_false, Bool.true_and]
      congr 2
      funext r
      by_cases named : v.recordId ≠ 0 ∧ r.id = v.recordId
      · rw [if_pos named, QueuedVerdict.names_iff.2 ⟨named.1, named.2.symm⟩]
        simp [Record.unsentOr]
      · have no : v.names r = false := Bool.eq_false_iff.2 fun h =>
          named ((QueuedVerdict.names_iff.1 h).imp_right Eq.symm)
        rw [if_neg named, no]
        simp [Record.unsentOr]

theorem State.reportFrames (l : List QueuedFrame) (s : State) :
    (∀ j : Fin 4, (l.foldl State.reportFrame s).corr.slots[j] =
      s.corr.slots[j].map fun c => c.unsentOr (l.any (QueuedFrame.drops fun v => v.edge == c.edge))) ∧
    (l.foldl State.reportFrame s).store = { s.store with
      queue := s.store.queue.map fun r => r.unsentOr (l.any (QueuedFrame.drops fun v => v.names r)) } := by
  induction l generalizing s with
  | nil =>
    have same : (fun r : Record => r.unsentOr false) = id := by
      funext r
      simp [Record.unsentOr]
    refine ⟨fun j => ?_, ?_⟩
    · show s.corr.slots[j] = s.corr.slots[j].map fun c => c.unsentOr false
      cases s.corr.slots[j] <;> simp [Context.unsentOr]
    · show s.store = { s.store with queue := s.store.queue.map fun r => r.unsentOr false }
      rw [same, List.map_id]
  | cons f rest ih =>
    obtain ⟨slots, store⟩ := ih (s.reportFrame f)
    refine ⟨fun j => ?_, ?_⟩
    · rw [List.foldl_cons, slots j, s.reportFrame_slot f j, Option.map_map]
      simp only [Function.comp_def, Context.unsentOr, List.any_cons, Bool.or_assoc]
    · rw [List.foldl_cons, store, s.reportFrame_store f]
      simp only [List.map_map, Function.comp_def, Record.unsentOr, List.any_cons, Bool.or_assoc,
        QueuedVerdict.names]

/-- What the reports leave of contexts and records: all but UNSENT (R132). -/
theorem State.reportQueue_slot (s : State) (j : Fin 4) : s.reportQueue.corr.slots[j] =
    s.corr.slots[j].map fun c =>
      c.unsentOr (s.link.queue.any (QueuedFrame.drops fun v => v.edge == c.edge)) :=
  (State.reportFrames s.link.queue s).1 j

theorem State.reportQueue_store (s : State) : s.reportQueue.store = { s.store with
    queue := s.store.queue.map fun r =>
      r.unsentOr (s.link.queue.any (QueuedFrame.drops fun v => v.names r)) } :=
  (State.reportFrames s.link.queue s).2

/-! What a block reaches as it takes a stop stands, where everything else keeps it. -/

/-- The stop of one block. -/
def State.stopBlock (k : Stop) (b : Block) (s : State) : State :=
  match b with
  | .store => s.storeTakes k.view
  | .link => s.linkStops k
  | .mark => s.markStops k
  | .corr => s.corrStops k
  | .cap => s.capStops k
  | .agg => s.aggTakesStop
  | .det => s.detTakesStop
  | .cfe | .rms | .ref | .port | .ctl => s

theorem CalmBlocks.stopBlocks_reaches (h : CalmBlocks P k) {b : Block} {p : StopPhase}
    (takes : p.takes b = true) (set : ∀ u, P (State.stopBlock k b u)) (s : State)
    (detectorFirst : Bool) : P (s.stopBlocks k p detectorFirst) := by
  have on {s : State} (c : Bool) {f : State → State} (hf : ∀ u, P u → P (f u)) (hs : P s) :
      P (s.when c f) := State.when_keeps s c f hs (hf s hs)
  have last (u : State) (hu : P u) : P ((u.when p.cap fun st => st.capStops k).when p.agg State.aggTakesStop) :=
    on p.agg h.agg (on p.cap h.cap hu)
  have det {u : State} (hu : P u) : P (u.when p.det State.detTakesStop) :=
    on p.det (fun _ => h.toCalm.detTakesStop) hu
  have corr {u : State} (hu : P u) : P (u.when p.corr fun st => st.corrStops k) :=
    on p.corr (fun _ => h.corrStops) hu
  have rest (u : State) (hu : P u) : P (if detectorFirst = true then
      (u.when p.det State.detTakesStop).when p.corr fun st => st.corrStops k
      else (u.when p.corr fun st => st.corrStops k).when p.det State.detTakesStop) :=
    ite_keeps (corr (det hu)) (det (corr hu))
  have reached (u : State) {c : Bool} (hc : c = true) {f : State → State} (hf : ∀ u, P (f u)) :
      P (u.when c f) := by
    rw [hc]
    exact hf u
  cases b with
  | store => exact last _ (rest _ (on p.mark h.mark (on p.link h.link (reached s takes set))))
  | link => exact last _ (rest _ (on p.mark h.mark (reached _ takes set)))
  | mark => exact last _ (rest _ (reached _ takes set))
  | corr => exact last _ (ite_keeps (reached _ takes set) (det (reached _ takes set)))
  | cap => exact on p.agg h.agg (reached _ takes set)
  | agg => exact reached _ takes set
  | cfe | rms | ref | det | port | ctl => exact absurd takes (by simp [StopPhase.takes])

/-- So it stands at the end of the stop, whatever the order (log entry 3). -/
theorem CalmStop.takeStop_reaches (h : CalmStop P k) {b : Block} (stops : b ∈ stopping)
    (set : ∀ u, P (State.stopBlock k b u)) (hact : ∀ u, P u → P (act u)) (s : State) (o : StopOrder)
    (failed : Option (Fin 9)) : P (s.takeStop k o failed act) := by
  refine h.free _ _ ?_
  rcases StopPhase.others_takes (p := earlyPhase o) stops with early | late
  · have acted := hact _ (h.stopBlocks_reaches early set s o.detectorFirst)
    exact h.stopBlocks _ _ (State.when_keeps _ _ _ acted (h.readersTake o failed acted))
  · exact h.stopBlocks_reaches late set _ _

/-! What rests on one block alone. -/

/-- A property of the notice link. -/
theorem CalmStop.of_link {q : NoticeLink → Prop} (hand : ∀ (s : State) v, q s.link → q (s.handVerdict v).link)
    (stops : ∀ s : State, q s.link → q (s.linkStops k).link)
    (clear : k ≠ .halt → ∀ s : State, q s.link → q s.linkClearsPeers.link) : CalmStop (fun s => q s.link) k := by
  have kept {bs : List Block} {s u : State} (frame : Frame bs s u) (out : Block.link ∉ bs) (h : q s.link) :
      q u.link := (show u.link = s.link from frame.only.1 .link out) ▸ h
  refine {
    capture := fun s id a failed => kept (s.captureRequest_frame id a failed) (by decide)
    add := fun s r t _ => kept (s.addRecord_frame r t) (by decide)
    edit := fun _ _ _ _ h => h
    judge := fun s id => kept (s.judge_frame id) (by decide)
    tally := fun _ _ _ _ _ h => h
    contexts := fun _ _ _ h => h
    det := fun _ _ _ h => h
    ends := fun _ _ h => h
    edge := fun _ _ _ _ h => h
    store := fun _ h => h
    link := stops
    clear := clear
    mark := fun s => kept (s.markStops_frame k) (by decide)
    corr := fun _ h => h
    cap := fun s => kept (s.capStops_frame k) (by decide)
    agg := fun s => kept s.aggTakesStop_frame (by decide)
    handed := fun _ _ h => h
    tracker := fun s => kept s.trackerTakes_frame (by decide)
    report := fun s => kept s.trackerTakesReport_frame (by decide)
    correlation := fun s hs => ?_
    aggregator := fun s => kept s.aggregatorTakes_frame (by decide)
    free := fun _ _ h => h }
  unfold State.correlationTakes
  split
  · exact hs
  · refine foldl_keeps (P := fun s => q s.link) (fun u j hu => ?_) _ hs
    unfold State.judgeContext
    split
    · exact hu
    · exact ite_keeps (P := fun s => q s.link) (hand _ _ hu) (hand _ _ hu)

/-- A property of the correlation unit outside RUN. -/
theorem CalmStop.of_corr {q : Correlation → Prop} (slots : ∀ c x, (∀ k : Fin 4, c.slots[k] = none →
      x[k] = none ∨ c.view = .run) → q c → q { c with slots := x })
    (stopped : ∀ c, q c → q { c with view := k.view })
    (takes : ∀ s : State, q s.corr → q s.correlationTakes.corr) : CalmStop (fun s => q s.corr) k := by
  have kept {bs : List Block} {s u : State} (frame : Frame bs s u) (out : Block.corr ∉ bs) (h : q s.corr) :
      q u.corr := (show u.corr = s.corr from frame.only.1 .corr out) ▸ h
  have calm : Calm (fun s => q s.corr) := {
    capture := fun s id a failed => kept (s.captureRequest_frame id a failed) (by decide)
    add := fun s r t _ => kept (s.addRecord_frame r t) (by decide)
    edit := fun _ _ _ _ h => h
    judge := fun s id => kept (s.judge_frame id) (by decide)
    tally := fun _ _ _ _ _ h => h
    contexts := fun s x hx h => slots s.corr x hx h
    det := fun _ _ _ h => h
    ends := fun _ _ h => h
    edge := fun _ _ _ _ h => h }
  exact {
    toCalm := calm
    store := fun _ h => h
    link := fun s h => by
      match k with
      | .halt => exact calm.reportQueue h
      | .restart _ tableFirst => cases tableFirst <;> exact calm.reportQueue h
    clear := fun _ _ h => h
    mark := fun s => kept (s.markStops_frame k) (by decide)
    corr := fun s h => stopped s.corr h
    cap := fun s => kept (s.capStops_frame k) (by decide)
    agg := fun s => kept s.aggTakesStop_frame (by decide)
    handed := fun _ _ h => h
    tracker := fun s => kept s.trackerTakes_frame (by decide)
    report := fun s => kept s.trackerTakesReport_frame (by decide)
    correlation := takes
    aggregator := fun s => kept s.aggregatorTakes_frame (by decide)
    free := fun _ _ h => h }

/-- A property of the capture unit outside RUN. -/
theorem CalmStop.of_cap {q : CaptureUnit → Prop} (stopped : ∀ c, q c → c.view ≠ .run)
    (stops : ∀ s : State, q s.cap → q (s.capStops k).cap) : CalmStop (fun s => q s.cap) k := by
  have kept {bs : List Block} {s u : State} (frame : Frame bs s u) (out : Block.cap ∉ bs) (h : q s.cap) :
      q u.cap := (show u.cap = s.cap from frame.only.1 .cap out) ▸ h
  exact {
    capture := fun s id a failed h => by
      obtain ⟨-, off, -⟩ := captureRequestIsDecided s id a failed
      exact (off (.inl (stopped _ h))).2 ▸ h
    add := fun s r t _ => kept (s.addRecord_frame r t) (by decide)
    edit := fun _ _ _ _ h => h
    judge := fun s id h => (s.judge_cap id).symm ▸ h
    tally := fun _ _ _ _ _ h => h
    contexts := fun _ _ _ h => h
    det := fun _ _ _ h => h
    ends := fun _ _ h => h
    edge := fun _ _ _ _ h => h
    store := fun _ h => h
    link := fun s => kept (s.linkStops_frame k) (by decide)
    clear := fun _ _ h => h
    mark := fun s => kept (s.markStops_frame k) (by decide)
    corr := fun _ h => h
    cap := stops
    agg := fun s => kept s.aggTakesStop_frame (by decide)
    handed := fun _ _ h => h
    tracker := fun s => kept s.trackerTakes_frame (by decide)
    report := fun s => kept s.trackerTakesReport_frame (by decide)
    correlation := fun s => kept s.correlationTakes_frame (by decide)
    aggregator := fun s => kept s.aggregatorTakes_frame (by decide)
    free := fun _ _ h => h }

end Sys2Proof.Machine
end


section
/-! RESTART and LINK_RESET (R98, R121, R140, R186). -/

namespace Sys2Proof.Machine

variable {s u : State} {k : Stop} {o : StopOrder} {failed : Option (Fin 9)} {act : State → State}

/-! What each block is after a stop, whatever else comes with it. -/

/-- The correlation unit has closed every context (R138). -/
def CorrShut (w : StationState) (c : Correlation) : Prop := c.view = w ∧ ∀ j : Fin 4, c.slots[j] = none

theorem State.correlationTakes_shut {w : StationState} (h : CorrShut w s.corr) :
    CorrShut w s.correlationTakes.corr := by
  obtain ⟨view, shut⟩ := h
  unfold State.correlationTakes
  split
  · exact ⟨view, shut⟩
  · next e rest _ =>
    refine foldl_keeps (P := fun u : State => CorrShut w u.corr) (fun u j hu => ?_) _ ⟨view, shut⟩
    have closed : u.judgeContext e j = u := by
      unfold State.judgeContext
      rw [hu.2 j]
    rwa [closed]

theorem corrShut_calmStop (k : Stop) : CalmStop (fun s => CorrShut k.view s.corr) k :=
  .of_corr (fun _ _ hx ⟨view, shut⟩ => ⟨view, fun j =>
      (hx j (shut j)).resolve_right fun run => k.view_ne_run (view.symm.trans run)⟩)
    (fun _ ⟨_, shut⟩ => ⟨rfl, shut⟩) fun _ => State.correlationTakes_shut

theorem State.takeStop_shut (s : State) (k : Stop) (o : StopOrder) (failed : Option (Fin 9))
    (hact : ∀ u, CorrShut k.view u.corr → CorrShut k.view (act u).corr) :
    CorrShut k.view (s.takeStop k o failed act).corr :=
  (corrShut_calmStop k).takeStop_reaches (b := .corr) (by simp [stopping]) (fun u => by
    show CorrShut _ (u.corrStops k).corr
    rw [State.corrStops_corr]
    exact ⟨rfl, fun j => Vector.getElem_replicate j.isLt⟩) hact s o failed

/-- Outside RUN a VERDICT handed over leaves the notice link (R120). -/
theorem State.handVerdict_stopped (stopped : s.link.view ≠ .run) (v : QueuedVerdict) :
    (s.handVerdict v).link = s.link := by
  have dropped : s.handVerdict v = s.dropReport v.edge v.recordId :=
    if_pos (bne_iff_ne.2 stopped)
  rw [dropped]
  exact (State.dropReport_frame _ _ _).only.1 .link (by decide)

theorem NoticeLink.removeAt_kept (l : NoticeLink) (i : Nat) :
    (l.removeAt i).peers = l.peers ∧ (l.removeAt i).rx = l.rx := by
  unfold NoticeLink.removeAt
  split <;> exact ⟨rfl, rfl⟩

/-- A VERDICT handed over leaves peer table and receiver. -/
theorem State.handVerdict_kept (s : State) (v : QueuedVerdict) :
    (s.handVerdict v).link.peers = s.link.peers ∧ (s.handVerdict v).link.rx = s.link.rx := by
  have dropped : (s.dropReport v.edge v.recordId).link = s.link :=
    (State.dropReport_frame _ _ _).only.1 .link (by decide)
  unfold State.handVerdict
  split
  · rw [dropped]
    exact ⟨rfl, rfl⟩
  split
  · exact ⟨rfl, rfl⟩
  split
  · exact s.link.removeAt_kept _
  · rw [dropped]
    exact ⟨rfl, rfl⟩

/-- The notice link after RESTART, but for the peer table (R121). -/
def LinkReset (l : NoticeLink) : Prop :=
  l.view = .config ∧ l.queue = [] ∧ l.tx = .idle ∧ l.attempts = 0 ∧ l.rx = .recovering

theorem linkDropsQueue_reset (s : State) : LinkReset (s.linkDropsQueue .config).link :=
  ⟨rfl, rfl, rfl, rfl, rfl⟩

theorem linkStops_reset (s : State) (low tableFirst : Bool) :
    LinkReset (s.linkStops (.restart low tableFirst)).link := by
  cases tableFirst
  · exact linkDropsQueue_reset s
  · exact linkDropsQueue_reset s

theorem takeRestart_link (s : State) (low tableFirst : Bool) (o : StopOrder) (failed : Option (Fin 9)) :
    LinkReset (s.takeStop (.restart low tableFirst) o failed id).link :=
  (CalmStop.of_link (q := LinkReset) (fun s v h => (s.handVerdict_stopped (by rw [h.1]; decide) v).symm ▸ h)
    (fun s _ => linkStops_reset s low tableFirst) fun _ _ h => h).takeStop_reaches (b := .link)
      (by simp [stopping]) (fun u => linkStops_reset u low tableFirst) (fun _ h => h) s o failed

/-- The peer table is cleared by RESTART, before the contexts close or after (R121; log entry 3). -/
theorem takeRestart_peers (s : State) (low tableFirst : Bool) (o : StopOrder) (failed : Option (Fin 9)) :
    (s.takeStop (.restart low tableFirst) o failed id).link.peers = Vector.replicate 16 peerReset := by
  have dropped (s : State) : (s.linkDropsQueue .config).link.peers = s.link.peers := by
    have same : s.reportQueue.link = s.link := s.reportQueue_frame.only.1 .link (by decide)
    show s.reportQueue.link.peers = _
    rw [same]
  have calm : CalmStop (fun s => s.link.peers = Vector.replicate 16 peerReset) (.restart low tableFirst) :=
    .of_link (q := fun l => l.peers = Vector.replicate 16 peerReset)
      (fun s v h => (s.handVerdict_kept v).1.trans h)
      (fun s h => by
        cases tableFirst
        · rfl
        · exact (dropped s).trans h) fun _ _ _ => rfl
  cases tableFirst with
  | false => exact calm.takeStop_reaches (b := .link) (by simp [stopping]) (fun _ => rfl) (fun _ h => h) s o failed
  | true => exact calm.takeStop_reaches (b := .corr) (by simp [stopping]) (fun _ => rfl) (fun _ h => h) s o failed

/-- The capture unit after RESTART: ON, with every scrub running (R85). -/
def CapReset (c : CaptureUnit) : Prop :=
  c.view = .config ∧ c.on = true ∧
  ∀ j : Fin 8, c.slots[j].state = .scrubbing → c.slots[j].scrubEnd ≠ none

theorem capTakesRestart_reset (s : State) : CapReset s.capTakesRestart.cap := by
  refine ⟨(s.withCap { s.cap with view := .config }).stopFill_subsides.view, rfl, fun j => ?_⟩
  let held := (s.withCap { s.cap with view := .config }).stopFill
  have slot : s.capTakesRestart.cap.slots[j] =
      if held.cap.slots[j].state = .scrubbing ∧ held.cap.slots[j].scrubEnd = none then
        { held.cap.slots[j] with scrubEnd := some (held.now + msOf 5) }
      else held.cap.slots[j] := Vector.getElem_ofFn j.isLt
  rw [slot]
  split
  · exact fun _ => Option.some_ne_none _
  · next running => exact fun scrubbing ends => running ⟨scrubbing, ends⟩

theorem takeRestart_cap (s : State) (low tableFirst : Bool) (o : StopOrder) (failed : Option (Fin 9)) :
    CapReset (s.takeStop (.restart low tableFirst) o failed id).cap :=
  (CalmStop.of_cap (k := .restart low tableFirst) (q := CapReset) (fun _ h => by rw [h.1]; decide)
    fun s _ => capTakesRestart_reset s).takeStop_reaches (b := .cap) (by simp [stopping])
      (fun u => capTakesRestart_reset u) (fun _ h => h) s o failed

/-- At the end of a stop every condition is BACK (R63, R64). -/
theorem State.takeStop_cond (s : State) (k : Stop) (o : StopOrder) (failed : Option (Fin 9))
    (hact : ∀ u, (act u).det.cond = u.det.cond) : (s.takeStop k o failed act).det.cond = allBack := by
  have late : (earlyPhase o).others.det = !o.detEarly := rfl
  unfold State.takeStop
  dsimp only [State.withFree]
  rw [State.stopBlocks_det, late]
  cases h : o.detEarly with
  | false => rfl
  | true =>
    have acted : (act (s.stopBlocks k (earlyPhase o) o.detectorFirst)).det.cond = allBack := by
      rw [hact, State.stopBlocks_det, show (earlyPhase o).det = o.detEarly from rfl, h]
      rfl
    simp only [Bool.not_true, Bool.false_eq_true, if_false]
    cases s.ctl.state == .run
    · exact acted
    · exact (congrArg Detector.cond (State.readersTake_det h _ k failed)).trans acted

/-! RESTART (R186). -/

/-- Settles O60: RESTART by what each block is after the stop, LINK_RESET by the reports of the
drops. -/
theorem restartAndLinkReset : Obligations.RestartAndLinkReset := by
  unfold Obligations.RestartAndLinkReset
  refine ⟨fun t low s served => ?_, fun t low s served => ?_⟩
  · have out : exec (.restart t low) s = .next (((s.elapse t).takeRestart low).answer .done []) :=
      congrArg Host.Outcome.next (if_pos served)
    obtain ⟨u, frame, eq⟩ := takeRestart_frame (s.elapse t) low
    let st := (s.elapse t).takeStop (.restart low (s.elapse t).order.tableFirst) (s.elapse t).order
      (s.elapse t).order.checkFails id
    have seeded (j : Fin 3) : ((s.elapse t).takeRestart low).ref.d[j] = seededReference st.ctl.items :=
      Vector.getElem_replicate j.isLt
    have items : ((s.elapse t).takeRestart low).ctl.items = s.ctl.items := by
      rw [eq]
      exact frame.steady.items
    have same : st.ctl.items = s.ctl.items := items
    have link : LinkReset st.link := takeRestart_link _ _ _ _ _
    have peers : st.link.peers = Vector.replicate 16 peerReset := takeRestart_peers _ _ _ _ _
    have cap : CapReset st.cap := takeRestart_cap _ _ _ _ _
    have corr : CorrShut .config st.corr := State.takeStop_shut _ _ _ _ fun _ h => h
    have watch : st.det.mode = .watch := State.takeStop_watch _ _ _ _ fun _ => rfl
    have cond : st.det.cond = allBack := State.takeStop_cond _ _ _ _ fun _ => rfl
    have mark := (s.elapse t).takeStop_mark (.restart low (s.elapse t).order.tableFirst)
      (s.elapse t).order (s.elapse t).order.checkFails (act := id) fun _ => ⟨rfl, rfl⟩
    have now : ((s.elapse t).takeRestart low).now = (s.elapse t).now := by
      rw [eq]
      exact (State.now_of_steady frame.steady : u.now = (s.elapse t).now)
    obtain ⟨-, queue, tx, attempts, rx⟩ := link
    obtain ⟨-, on, scrubs⟩ := cap
    have handed : ((s.elapse t).stopBlocks (.restart low (s.elapse t).order.tableFirst)
        (earlyPhase (s.elapse t).order) (s.elapse t).order.detectorFirst).det.handed = s.det.handed :=
      congrArg Queues.det (State.stopBlocks_queues _ _ _ _)
    have agg : st.agg.cur = none := by
      cases cur : s.agg.cur with
      | none =>
        have closed : Closed s.agg.ring s.agg.nextSeq s.ctl.causes[(10 : Fin 13)] st :=
          (Closed.calmStop _).takeStop _ _ (act := id) (fun _ h => h) ⟨cur, rfl, rfl, rfl⟩
        exact closed.cur
      | some i =>
        obtain ⟨acc, -, en, closed, -⟩ := State.takeStop_interval (s := s.elapse t) (act := id) cur
          (A := fun acc => acc = i.acc) (fun _ h => h) fun _ h _ => ⟨_, rfl, h⟩
        exact closed.cur
    refine ⟨(s.elapse t).takeRestart low, out, rfl, rfl, items, ?_, ?_, ?_, watch, fun j => ⟨?_, ?_⟩, rfl,
      on, fun one => ?_, scrubs, ?_⟩
    · rw [eq]
      exact frame.only.1 .port (by decide)
    · rw [eq]
      exact frame.only.1 .cfe (by decide)
    · rw [eq]
      exact frame.only.1 .rms (by decide)
    · show st.det.cond[j] = _
      rw [cond]
      exact Vector.getElem_replicate j.isLt
    · rw [seeded j, same]
      exact ⟨rfl, rfl, rfl, rfl⟩
    · have quiet := (s.elapse t).takeRestart_quiet (State.fillings_le_one.1 one) low
      exact State.fillings_eq_zero.2 ((quiet.blocks.rests .cap (by simp [butDet])).2 (by decide))
    · have stands : ((s.elapse t).takeRestart low).store.startTime = s.store.startTime ∧
          ((s.elapse t).takeRestart low).store.frozenBase = s.store.frozenBase := by
        rw [eq]
        exact ⟨frame.steady.startTime, frame.steady.frozenBase⟩
      rw [now]
      have marked : st.mark.lastEdge = s.mark.lastEdge ∨
          s.ctl.state = .run ∧ s.det.handed ≠ [] ∧ st.mark.lastEdge = some (s.elapse t).now := by
        rcases mark with same | ⟨run, taken, pulsed⟩
        · exact .inl ((congrArg MarkLine.lastEdge same).trans rfl)
        · exact .inr ⟨run, fun none => taken (handed.trans none),
            (congrArg MarkLine.lastEdge pulsed).trans rfl⟩
      have reset : st.mark.asserted = low ∧ st.mark.drive = false ∧ st.mark.stuck = false ∧
          st.mark.pulseEnd = none ∧ st.mark.recoveryExpiry = none ∧
          st.mark.stuckExpiry = if low then some ((s.elapse t).now + 51) else none := by
        rcases mark with same | ⟨-, -, pulsed⟩
        · rw [show st.mark = _ from same]
          exact ⟨rfl, rfl, rfl, rfl, rfl, rfl⟩
        · rw [show st.mark = _ from pulsed]
          exact ⟨rfl, rfl, rfl, rfl, rfl, rfl⟩
      obtain ⟨asserted, drive, stuck, pulseEnd, recovery, stuckExpiry⟩ := reset
      refine ⟨asserted, drive, stuck, pulseEnd, marked, recovery, stuckExpiry, queue, tx, attempts, rx,
        fun a => ?_, corr.2, agg, stands.1, stands.2⟩
      show st.link.peers[a] = _
      rw [peers]
      exact Vector.getElem_replicate a.isLt
  · have out : exec (.linkReset t low) s = .next (((s.elapse t).takeLinkReset low).answer .done []) :=
      congrArg Host.Outcome.next (if_pos served)
    let dropped := (s.elapse t).reportQueue
    have frame : Frame [.mark, .link, .corr, .store] (s.elapse t) ((s.elapse t).takeLinkReset low) :=
      (((s.elapse t).linkTakesReset_frame s.link.view).comp (State.withMark_frame _ _)).mono (by simp)
    have now : ((s.elapse t).takeLinkReset low).now = (s.elapse t).now := State.now_of_steady frame.steady
    have corr : ((s.elapse t).takeLinkReset low).corr = dropped.corr := rfl
    have store : ((s.elapse t).takeLinkReset low).store = _ := (s.elapse t).reportQueue_store
    have slot (j : Fin 4) : ((s.elapse t).takeLinkReset low).corr.slots[j] = _ :=
      (s.elapse t).reportQueue_slot j
    have fixed : dropped.corr.handed = s.corr.handed ∧ dropped.corr.view = s.corr.view := by
      refine foldl_keeps (P := fun u : State => u.corr.handed = s.corr.handed ∧ u.corr.view = s.corr.view)
        (fun u f hu => ?_) s.link.queue (s := s.elapse t) ⟨rfl, rfl⟩
      cases f with
      | present => exact hu
      | verdict v => exact ite_keeps (P := fun u : State => u.corr.handed = s.corr.handed ∧
          u.corr.view = s.corr.view) hu (by rw [State.dropReport_corr]; exact hu)
    refine ⟨(s.elapse t).takeLinkReset low, out, ?_, rfl, rfl, rfl, rfl, rfl, rfl, ?_, rfl, rfl, rfl, rfl,
      fun a => Vector.getElem_replicate a.isLt, fixed.1, fixed.2, fun j shut => ?_, fun j c hc => ?_, ?_⟩
    · exact onlyChanges_trans ⟨fun b _ => by cases b <;> rfl, rfl⟩ frame.only
    · have reset : ((s.elapse t).linkTakesReset s.link.view).now = (s.elapse t).now :=
        State.now_of_steady ((s.elapse t).linkTakesReset_frame s.link.view).steady
      rw [now, ← reset]
      rfl
    · rw [slot j, show (s.elapse t).corr.slots[j] = none from shut]
      rfl
    · refine ⟨_, (slot j).trans (congrArg (Option.map _) hc), ?_⟩
      rw [Bool.or_eq_true]
      exact or_congr_right (State.verdictQueued_iff fun v => beq_iff_eq)
    · rw [store]
      refine ⟨rfl, rfl, rfl, rfl, List.length_map _, fun i r hr =>
        ⟨r.flags.unsent || s.link.queue.any (QueuedFrame.drops fun v => v.names r), ?_, ?_⟩⟩
      · rw [List.getElem?_map, show (s.elapse t).store.queue[i]? = some r from hr]
        rfl
      · rw [Bool.or_eq_true]
        exact or_congr_right (State.verdictQueued_iff fun v => QueuedVerdict.names_iff)

end Sys2Proof.Machine
end


section
/-! The events of a position close, and the blocks that a HALT leaves alone (R1, R85, R120, R187). -/

namespace Sys2Proof.Machine

variable {s u : State} {k : Stop} {o : StopOrder} {failed : Option (Fin 9)} {act : State → State}
  {checks : CloseChecks}

/-! The events of a close. -/

/-- What the hand-over of a cycle, the half-cycle end and the fill copy keep. -/
theorem State.eventsOf_keeps {P : State → Prop}
    (locked : ∀ u inRun f, P u → P (State.handLockedCycle u inRun f))
    (ended : ∀ u, P u → P (State.halfCycleEnd u)) (filled : ∀ u m, P u → P (State.fillCopy u m checks.fails))
    (h : P u) : P (s.eventsOf checks u) := by
  have handed := locked u (u.ctl.state == .run) s.closedCycle h
  exact ite_keeps (ite_keeps (filled _ _ (ended _ handed)) (ended _ handed)) handed

theorem State.halfCycleEnd_fields (u : State) : u.halfCycleEnd.corr.slots = u.corr.slots ∧
    u.halfCycleEnd.corr.view = u.corr.view ∧ u.halfCycleEnd.det.cond = u.det.cond ∧
    u.halfCycleEnd.agg.cur = u.agg.cur ∧ u.halfCycleEnd.agg.ring = u.agg.ring ∧
    u.halfCycleEnd.agg.nextSeq = u.agg.nextSeq := by
  unfold State.halfCycleEnd
  dsimp only
  split <;> exact ⟨rfl, rfl, rfl, rfl, rfl, rfl⟩

theorem State.eventsOf_shut {w : StationState} (h : CorrShut w u.corr) :
    CorrShut w (s.eventsOf checks u).corr := by
  refine State.eventsOf_keeps (P := fun u => CorrShut w u.corr) (fun u inRun f h => ?_) (fun u h => ?_)
    (fun u m h => ?_) h
  · exact (show (u.handLockedCycle inRun f).corr = u.corr from
      (u.handLockedCycle_frame inRun f).only.1 .corr (by decide)) ▸ h
  · obtain ⟨slots, view, -⟩ := u.halfCycleEnd_fields
    exact ⟨view.trans h.1, fun j => by rw [slots]; exact h.2 j⟩
  · exact (show (u.fillCopy m checks.fails).corr = u.corr from
      (u.fillCopy_frame m checks.fails).only.1 .corr (by decide)) ▸ h

theorem State.eventsOf_cond (s : State) (checks : CloseChecks) (u : State) :
    (s.eventsOf checks u).det.cond = u.det.cond := by
  refine State.eventsOf_keeps (P := fun v => v.det.cond = u.det.cond) (fun v inRun f h => ?_)
    (fun v h => v.halfCycleEnd_fields.2.2.1.trans h) (fun v m h => ?_) rfl
  · exact (congrArg Detector.cond (show (v.handLockedCycle inRun f).det = v.det from
      (v.handLockedCycle_frame inRun f).only.1 .det (by decide))).trans h
  · exact (congrArg Detector.cond (show (v.fillCopy m checks.fails).det = v.det from
      (v.fillCopy_frame m checks.fails).only.1 .det (by decide))).trans h

theorem State.eventsOf_subsides (s : State) (checks : CloseChecks) (u : State) :
    Subsides u (s.eventsOf checks u) := by
  refine State.eventsOf_keeps (P := Subsides u) (fun v inRun f h => ?_) (fun v h => ?_)
    (fun v m h => h.trans (v.fillCopy_subsides m checks.fails)) (.refl u)
  · exact h.trans (.of_eq ((v.handLockedCycle_frame inRun f).only.1 .cap (by decide)))
  · exact h.trans (.of_eq (v.halfCycleEnd_frame.only.1 .cap (by decide)))

theorem State.eventsOf_closed {ring : List IntervalEntry} {seq : Nat} {cause : CauseEntry}
    (h : Closed ring seq cause u) : Closed ring seq cause (s.eventsOf checks u) := by
  refine State.eventsOf_keeps (fun v inRun f h => ?_) (fun v h => ?_) (fun v m h => ?_) h
  · cases f with
    | none => exact h
    | some f =>
      show Closed ring seq cause (v.takeLockedCycle inRun f)
      unfold State.takeLockedCycle
      split
      · exact ⟨(congrArg (Option.map _) h.cur).trans rfl, h.ring, h.seq, h.cause⟩
      · exact h
  · obtain ⟨-, -, -, cur, ring, seq⟩ := v.halfCycleEnd_fields
    exact ⟨cur.trans h.cur, ring.trans h.ring, seq.trans h.seq,
      (congrArg (fun c : Controller => c.causes[(10 : Fin 13)]) (State.halfCycleEnd_ctl v)).trans h.cause⟩
  · exact h.of_agg ((v.fillCopy_frame m checks.fails).only.1 .agg (by decide))
      ((v.fillCopy_raises m checks.fails).mono (by decide))

/-- A locked cycle is added to the interval that stands (R161). -/
theorem State.eventsOf_stands {i : Interval} {acc : Accumulators} {w : State} (h : Stands w i acc u) :
    ∃ acc', (acc' = acc ∨ ∃ f, s.closedCycle = some f ∧ acc' = acc.addCycle f) ∧
      Stands w i acc' (s.eventsOf checks u) := by
  have locked : ∃ acc', (acc' = acc ∨ ∃ f, s.closedCycle = some f ∧ acc' = acc.addCycle f) ∧
      Stands w i acc' (u.handLockedCycle (u.ctl.state == .run) s.closedCycle) := by
    cases s.closedCycle with
    | none => exact ⟨acc, .inl rfl, h⟩
    | some f =>
      show ∃ acc', _ ∧ Stands w i acc' (u.takeLockedCycle (u.ctl.state == .run) f)
      unfold State.takeLockedCycle
      split
      · exact ⟨acc.addCycle f, .inr ⟨f, rfl, rfl⟩, (congrArg (Option.map _) h.cur).trans rfl, h.ring, h.seq,
          h.now, h.start⟩
      · exact ⟨acc, .inl rfl, h⟩
  obtain ⟨acc', what, stands⟩ := locked
  refine ⟨acc', what, ?_⟩
  have ended : Stands w i acc' (u.handLockedCycle (u.ctl.state == .run) s.closedCycle).halfCycleEnd := by
    obtain ⟨-, -, -, cur, ring, seq⟩ := State.halfCycleEnd_fields
      (u.handLockedCycle (u.ctl.state == .run) s.closedCycle)
    have frame := State.halfCycleEnd_frame (u.handLockedCycle (u.ctl.state == .run) s.closedCycle)
    exact ⟨cur.trans stands.cur, ring.trans stands.ring, seq.trans stands.seq,
      (State.now_of_steady frame.steady).trans stands.now, frame.steady.startTime.trans stands.start⟩
  exact ite_keeps (P := Stands w i acc') (ite_keeps (P := Stands w i acc')
    (ended.of_frame (State.fillCopy_frame _ _ _) (by decide)) ended) stands

/-- Within the start-up fill a half-cycle end only stores the flags (R22). -/
theorem State.halfCycleEnd_of_filling (low : u.rms.fill < 128) :
    ∃ c r, u.halfCycleEnd = (u.withCfe c).withRms r :=
  ⟨_, _, if_pos low⟩

/-- A close that emits no refresh hands the locked cycle over, and ends a half-cycle at most. -/
theorem State.eventsOf_silent (no : ¬s.emitsNext) : s.eventsOf checks u = if endsSegment s.cfe.pos = true
    then (u.handLockedCycle (u.ctl.state == .run) s.closedCycle).halfCycleEnd
    else u.handLockedCycle (u.ctl.state == .run) s.closedCycle := by
  have silent : (endsSegment s.cfe.pos && s.measured.rms.fill == 128) = false :=
    Bool.eq_false_iff.2 fun emits => no (s.emits_iff.1 emits)
  unfold State.eventsOf State.closeEvents
  rw [silent]
  rfl

/-- A close that emits no refresh reaches neither the readers nor the capture unit. -/
theorem State.eventsOf_quiet (no : ¬s.emitsNext) (rms : u.rms = s.measured.rms) :
    Frame [.cfe, .rms, .agg] u (s.eventsOf checks u) ∧
      (s.eventsOf checks u).agg.handed = u.agg.handed := by
  have silent : (endsSegment s.cfe.pos && s.measured.rms.fill == 128) = false :=
    Bool.eq_false_iff.2 fun emits => no (s.emits_iff.1 emits)
  have locked : Frame [.cfe, .rms, .agg] u (u.handLockedCycle (u.ctl.state == .run) s.closedCycle) :=
    (u.handLockedCycle_frame _ _).mono (by simp)
  have handed : (u.handLockedCycle (u.ctl.state == .run) s.closedCycle).agg.handed = u.agg.handed := by
    cases s.closedCycle with
    | none => rfl
    | some f => exact ite_keeps (P := fun v : State => v.agg.handed = u.agg.handed) rfl rfl
  rw [State.eventsOf_silent no]
  split
  case isTrue ends =>
    have low : (u.handLockedCycle (u.ctl.state == .run) s.closedCycle).rms.fill < 128 := by
      have kept : (u.handLockedCycle (u.ctl.state == .run) s.closedCycle).rms = s.measured.rms :=
        ((u.handLockedCycle_frame _ _).only.1 .rms (by decide)).trans rms
      rw [kept]
      have most : s.measured.rms.fill ≤ 128 := by
        rw [State.measured_rms]
        exact Nat.min_le_right _ _
      refine lt_of_le_of_ne most fun full => ?_
      rw [ends, full] at silent
      exact absurd silent (by decide)
    obtain ⟨c, r, stored⟩ := State.halfCycleEnd_of_filling low
    rw [stored]
    exact ⟨(locked.comp ((State.withCfe_frame _ _).comp (State.withRms_frame _ _))).mono (by simp), handed⟩
  case isFalse => exact ⟨locked, handed⟩

end Sys2Proof.Machine
end


section
/-! What HALT makes of the blocks, and what the capture unit keeps ON (R81, R85, R97, R120). -/

namespace Sys2Proof.Machine

variable {s u : State} {k : Stop} {o : StopOrder} {failed : Option (Fin 9)} {act : State → State}
  {between : State → State} {m : Measurement} {expiry : Ms}

/-! The station state as the store and the capture unit hold it. -/

theorem State.handVerdict_storeView (s : State) (v : QueuedVerdict) :
    (s.handVerdict v).store.view = s.store.view := by
  have dropped : (s.dropReport v.edge v.recordId).store.view = s.store.view := by
    rw [State.dropReport_store]
  unfold State.handVerdict
  split
  · exact dropped
  · exact ite_keeps (P := fun u : State => u.store.view = s.store.view) rfl
      (by split <;> [rfl; exact dropped])

theorem storeView_calmStop (k : Stop) : CalmStop (fun s => s.store.view = k.view) k := by
  have kept {s u : State} (h : s.store.view = k.view) (same : Rewrites s u) : u.store.view = k.view :=
    (congrArg RecordStore.view same.store).trans h
  have still {bs : List Block} {s u : State} (frame : Frame bs s u) (out : Block.store ∉ bs)
      (h : s.store.view = k.view) : u.store.view = k.view :=
    (congrArg RecordStore.view (show u.store = s.store from frame.only.1 .store out)).trans h
  have reported (s : State) (h : s.store.view = k.view) : s.reportQueue.store.view = k.view := by
    rw [State.reportQueue_store]
    exact h
  exact {
    capture := fun s id a failed h => kept h (s.captureRequest_rewrites id a failed)
    add := fun s r t _ h => by
      rw [State.addRecord_store]
      exact h
    edit := fun _ _ _ _ h => h
    judge := fun s id h => kept h (s.judge_rewrites id)
    tally := fun _ _ _ _ _ h => h
    contexts := fun _ _ _ h => h
    det := fun _ _ _ h => h
    ends := fun _ _ h => h
    edge := fun _ _ _ _ h => h
    store := fun _ _ => rfl
    link := fun s h => by
      match k with
      | .halt => exact reported s h
      | .restart _ tableFirst => cases tableFirst <;> exact reported s h
    clear := fun _ _ h => h
    mark := fun s => still (s.markStops_frame k) (by decide)
    corr := fun _ h => h
    cap := fun s h => kept h (s.capStops_rewrites k)
    agg := fun s => still s.aggTakesStop_frame (by decide)
    handed := fun _ _ h => h
    tracker := fun s => still s.trackerTakes_frame (by decide)
    report := fun s => still s.trackerTakesReport_frame (by decide)
    correlation := fun s hs => by
      unfold State.correlationTakes
      split
      · exact hs
      · refine foldl_keeps (P := fun s : State => s.store.view = k.view) (fun u j hu => ?_) _ hs
        have handed (u : State) (v : QueuedVerdict) (hu : u.store.view = k.view) :
            (u.handVerdict v).store.view = k.view := (u.handVerdict_storeView v).trans hu
        unfold State.judgeContext
        split
        · exact hu
        · exact ite_keeps (P := fun s : State => s.store.view = k.view) (handed _ _ hu) (handed _ _ hu)
    aggregator := fun s => still s.aggregatorTakes_frame (by decide)
    free := fun _ _ h => h }

theorem capView_calmStop (k : Stop) : CalmStop (fun s => s.cap.view = k.view) k :=
  .of_cap (q := fun c => c.view = k.view) (fun _ h => h ▸ k.view_ne_run) fun s _ => s.capStops_view k

/-! The notice link. -/

/-- The notice link after HALT (R120). -/
def HaltedLink (l : NoticeLink) : Prop :=
  l.view = .halted ∧ l.tx = .idle ∧ ∀ v, QueuedFrame.verdict v ∈ l.queue → v.withdrawn = true

theorem State.linkTakesHalt_link (s : State) : s.linkTakesHalt.link =
    ({ s.link.stopAttempt with
      queue := s.link.queue.map QueuedFrame.withdraw, view := .halted } : NoticeLink).leaveByte s.time := by
  have same : s.reportQueue.link = s.link := s.reportQueue_frame.only.1 .link (by decide)
  have time : s.reportQueue.time = s.time := s.reportQueue_frame.steady.time
  unfold State.linkTakesHalt
  dsimp only
  rw [State.withLink_link, same, time]

theorem linkTakesHalt_halted (s : State) : HaltedLink s.linkTakesHalt.link := by
  rw [State.linkTakesHalt_link]
  refine ⟨rfl, rfl, fun v hv => ?_⟩
  obtain ⟨f, -, hf⟩ := List.mem_map.1 (show _ ∈ s.link.queue.map QueuedFrame.withdraw from hv)
  cases f with
  | present => exact nomatch hf
  | verdict v' =>
    obtain rfl : ({ v' with withdrawn := true } : QueuedVerdict) = v := QueuedFrame.verdict.inj hf
    rfl

theorem haltedLink_calmStop : CalmStop (fun s => HaltedLink s.link) .halt :=
  .of_link (fun s v h => (s.handVerdict_stopped (by rw [h.1]; decide) v).symm ▸ h)
    (fun s _ => linkTakesHalt_halted s) fun halted => absurd rfl halted

/-- HALT leaves the peer table and the receiver as they stand (R120). -/
theorem peersStand_calmStop (l : NoticeLink) :
    CalmStop (fun s => s.link.peers = l.peers ∧ s.link.rx = l.rx) .halt :=
  .of_link (q := fun x => x.peers = l.peers ∧ x.rx = l.rx)
    (fun s v h => ⟨(s.handVerdict_kept v).1.trans h.1, (s.handVerdict_kept v).2.trans h.2⟩)
    (fun s h => by
      show s.linkTakesHalt.link.peers = _ ∧ s.linkTakesHalt.link.rx = _
      rw [State.linkTakesHalt_link]
      exact h)
    fun halted => absurd rfl halted

/-! The capture unit stays ON where no copy fails (R79, R81). -/

theorem State.captureRequest_on (s : State) (id : Nat) (a : RefIndex) :
    (s.captureRequest id a none).cap.on = s.cap.on := by
  rcases s.captureRequest_cases id a none with ⟨x, w, e, on⟩ | ⟨k, sl, -, -, failed, -⟩
  · rw [e]
    exact on
  · exact absurd rfl failed

theorem State.stopFill_on (s : State) : s.stopFill.cap.on = s.cap.on := by
  unfold State.stopFill
  split
  · rfl
  · rw [State.judgeAll_cap]
    rfl

theorem State.takeFallingEdge_on (s : State) : (s.takeFallingEdge none).cap.on = s.cap.on := by
  cases opens : s.edgeOpens with
  | none => rw [State.takeFallingEdge_none opens]; rfl
  | some k =>
    rw [State.takeFallingEdge_some opens]
    have added (x : State) (r : Record) (t : Ms) : (x.addRecord r t).cap.on = x.cap.on :=
      congrArg CaptureUnit.on ((x.addRecord_frame r t).only.1 .cap (by decide))
    have made (x : State) : (x.makeSympathetic k s.now none).cap.on = x.cap.on := by
      unfold State.makeSympathetic
      split
      · exact (State.captureRequest_on _ _ _).trans (added x _ _)
      · rfl
    exact ite_keeps (P := fun u : State => u.cap.on = s.cap.on) (made _) rfl

theorem State.afterAnchor_on (s : State) (tn : Ms) : (s.afterAnchor tn).cap.on = s.cap.on := by
  unfold State.afterAnchor
  split
  · rfl
  · rfl
  · exact s.drivePulse.takeFallingEdge_on

theorem State.obtainRecord_on (s : State) (anchor : Option (Fin 4)) (unanchored : Bool) :
    (s.obtainRecord m expiry anchor unanchored none).cap.on = s.cap.on := by
  cases room : s.hasRoom with
  | false => exact congrArg (fun u : State => u.cap.on) (if_neg (by simp [room]))
  | true =>
    rw [State.obtainRecord_of_room room, State.captureRequest_on]
    have added : (s.addRecord (eventRecord m unanchored) m.time).cap = s.cap :=
      (s.addRecord_frame _ _).only.1 .cap (by decide)
    cases anchor with
    | none => exact congrArg CaptureUnit.on added
    | some k => exact congrArg CaptureUnit.on added

theorem State.anchorEvent_on (s : State) (m : Measurement) (expiry : Ms)
    (hb : ∀ u, (between u).cap.on = u.cap.on) :
    (s.anchorEvent m expiry none between).cap.on = s.cap.on := by
  have answered := (hb _).trans (s.afterAnchor_on m.time)
  have anchored (u : State) (k : Fin 4) : (u.takeAnchoring k m.crossing).cap.on = u.cap.on :=
    congrArg CaptureUnit.on ((u.takeAnchoring_frame k m.crossing).only.1 .cap (by decide))
  unfold State.anchorEvent
  dsimp only
  split
  · exact (State.obtainRecord_on _ _ _).trans answered
  · split
    · exact (State.obtainRecord_on _ _ _).trans answered
    · split
      · exact ((State.obtainRecord_on _ _ _).trans (anchored _ _)).trans answered
      · exact ite_keeps (P := fun u : State => u.cap.on = s.cap.on) ((anchored _ _).trans answered)
          (((State.obtainRecord_on _ _ _).trans (anchored _ _)).trans answered)

theorem State.takeReturn_on (s : State) (id : Nat) (e : Refresh) :
    (s.takeReturn m id e none).cap.on = s.cap.on := by
  have added (r : Record) (t : Ms) : (s.addRecord r t).cap.on = s.cap.on :=
    congrArg CaptureUnit.on ((s.addRecord_frame r t).only.1 .cap (by decide))
  have judged (x : State) (id : Nat) : (x.judge id).cap.on = x.cap.on :=
    congrArg CaptureUnit.on (x.judge_cap id)
  unfold State.takeReturn
  dsimp only
  exact ite_keeps (P := fun u : State => u.reportEnd.toWatch.cap.on = s.cap.on)
    (((judged _ _).trans (State.captureRequest_on _ _ _)).trans (added _ _)) rfl

theorem State.detectorTakes_on (s : State) (hb : ∀ u, (between u).cap.on = u.cap.on) :
    (s.detectorTakes none between).cap.on = s.cap.on := by
  have judged (x : State) (e : Refresh) : (x.judgeRefresh e none between).cap.on = x.cap.on := by
    cases mode : x.det.mode with
    | watch =>
      rw [State.judgeRefresh_watch mode]
      exact ite_keeps (P := fun u : State => u.cap.on = x.cap.on) rfl (State.anchorEvent_on _ _ _ hb)
    | event m id expiry =>
      rw [State.judgeRefresh_event mode]
      exact congrArg CaptureUnit.on ((Frame.ite ((x.endEvent_frame m id e).mono (by simp))
        ((x.measureEvent_frame m id expiry e (x.judgeConds e)).mono (by simp)) :
          Frame [.ref, .det, .store, .ctl] x _).only.1 .cap (by decide))
    | held m id =>
      rw [State.judgeRefresh_held mode]
      exact ite_keeps (P := fun u : State => u.cap.on = x.cap.on) (x.takeReturn_on id e) rfl
  unfold State.detectorTakes
  split
  · rfl
  · exact ite_keeps (P := fun u : State => u.cap.on = s.cap.on) (judged _ _) rfl

/-- A stop keeps the capture unit ON where the detector takes no refresh within it, or no copy
fails. -/
theorem State.readersTake_on (s : State) (k : Stop) (o : StopOrder)
    (h : s.det.handed = [] ∨ failed = none) :
    (s.readersTake k o failed).cap.on = s.cap.on := by
  have between (u : State) : (u.when (o.corrWithin && !o.corrEarly) fun x => x.corrStops k).cap.on =
      u.cap.on :=
    congrArg CaptureUnit.on ((u.corrWithin_frame o k).only.1 .cap (by decide))
  have det (u : State) (hu : u.det.handed = s.det.handed) :
      (u.when (o.detTakes && !o.detEarly) fun x => x.detectorTakes failed fun st =>
        st.when (o.corrWithin && !o.corrEarly) fun x => x.corrStops k).cap.on = u.cap.on := by
    refine State.when_keeps (P := fun x : State => x.cap.on = u.cap.on) _ _ _ rfl ?_
    rcases h with none | rfl
    · unfold State.detectorTakes
      rw [hu, none]
    · exact u.detectorTakes_on between
  have corr (u : State) : Frame [.link, .corr, .store] u
      (u.when (o.corrTakes && !o.corrEarly && u.corr.view == .run) State.correlationTakes) :=
    u.when_frame _ State.correlationTakes_frame
  have tracked : Frame [.ref] s (s.when o.trackerTakes State.trackerTakes) :=
    s.when_frame _ State.trackerTakes_frame
  have last (u : State) : ((u.when o.reportTakes State.trackerTakesReport).when
      (o.aggTakes && !o.aggEarly) State.aggregatorTakes).cap = u.cap :=
    ((u.when_frame o.reportTakes State.trackerTakesReport_frame).comp
      (State.when_frame _ (o.aggTakes && !o.aggEarly) State.aggregatorTakes_frame)).only.1 .cap (by simp)
  have tracker : (s.when o.trackerTakes State.trackerTakes).cap = s.cap := tracked.only.1 .cap (by decide)
  have waits : (s.when o.trackerTakes State.trackerTakes).det = s.det := tracked.only.1 .det (by decide)
  have corrCap (u : State) : (u.when (o.corrTakes && !o.corrEarly && u.corr.view == .run)
      State.correlationTakes).cap = u.cap := (corr u).only.1 .cap (by decide)
  have corrDet (u : State) : (u.when (o.corrTakes && !o.corrEarly && u.corr.view == .run)
      State.correlationTakes).det = u.det := (corr u).only.1 .det (by decide)
  refine (congrArg CaptureUnit.on (last _)).trans ?_
  refine ite_keeps (P := fun u : State => u.cap.on = s.cap.on) ?_ ?_
  · rw [det _ (by rw [corrDet, waits]), corrCap, tracker]
  · rw [corrCap, det _ (by rw [waits]), tracker]

end Sys2Proof.Machine
end


section
/-! A double overrun in RUN halts the station (R187). -/

namespace Sys2Proof.Machine

variable {s u : State} {k : Stop} {o : StopOrder} {p : StopPhase} {failed : Option (Fin 9)}
  {checks : CloseChecks}

/-! The locked cycle that ends with a close. -/

/-- A locked cycle ends with the close, and the tracker shows its frequency (R10, R13). -/
theorem lockedCycleEnds_of_closedCycle {s' : State} {f : Nat}
    (he : exec (.positionClose checks) s = .next s') (ends : s.closedCycle = some f) :
    lockedCycleEnds s s' ∧ f = s'.cfe.trk.freq := by
  obtain ⟨trk, cycle⟩ := exec_positionClose_trk he
  have found : s.cfe.trk.isCrossing s.cfe.dq[0].lastScaled s'.cfe.dq[0].lastScaled = true ∧
      s.cfe.trk.state = .locked ∧ ∃ t0, s.cfe.trk.start = some t0 ∧
      cycleValid s.ctl.straps.freq (crossingTime s.cfe.trk.prevInstant s.cfe.trk.instant
        s.cfe.dq[0].lastScaled s'.cfe.dq[0].lastScaled - t0)
        (max s.cfe.trk.peak s'.cfe.dq[0].lastScaled.natAbs) = true := by
    by_contra none
    exact absurd (ends.symm.trans (cycle.trans (FreqTracker.lockedCycle_none _ _ _ _ none))) (by simp)
  obtain ⟨crossing, locked, t0, start, valid⟩ := found
  rw [FreqTracker.lockedCycle_some _ _ _ _ crossing locked start valid, ends] at cycle
  rw [FreqTracker.takeSample_crossing _ _ _ _ crossing, start] at trk
  dsimp only at trk
  rw [if_pos valid] at trk
  obtain ⟨armed, low, high⟩ := (FreqTracker.isCrossing_iff _ _ _).1 crossing
  refine ⟨⟨locked, armed, by simp [start], low, high, ?_⟩, ?_⟩
  · have stays (p : Nat) : (s.cfe.trk.endValid p).state = .locked :=
      (s.cfe.trk.endValid_locked p).2 (.inl locked)
    simp only [trk, stays]
  · rw [trk]
    exact Option.some.inj cycle

/-! The blocks that HALT leaves alone but for their own stop. -/

theorem State.stopBlocks_on (s : State) (p : StopPhase) (detectorFirst : Bool) :
    (s.stopBlocks .halt p detectorFirst).cap.on = s.cap.on := by
  have det (u : State) := u.when_frame p.det State.detTakesStop_frame
  have corr (u : State) := u.when_frame p.corr fun x => x.corrStops_frame .halt
  have first := (((s.when_frame p.store fun u => u.storeTakes_frame (Stop.view .halt)).comp
    (State.when_frame _ p.link fun u => u.linkStops_frame .halt)).comp
    (State.when_frame _ p.mark fun u => u.markStops_frame .halt)).mono
      (cs := [.det, .mark, .link, .corr, .store, .ctl]) (by simp)
  have closed := first.trans (Frame.ite (c := detectorFirst = true)
    (((det _).comp (corr _)).mono (by simp)) (((corr _).comp (det _)).mono (by simp)))
  have same := congrArg CaptureUnit.on (closed.only.1 .cap (by decide))
  have cap (u : State) : ((u.when p.cap fun st => st.capStops .halt).when p.agg State.aggTakesStop).cap.on =
      u.cap.on := by
    refine (congrArg CaptureUnit.on
      ((State.when_frame _ p.agg State.aggTakesStop_frame).only.1 .cap (by decide))).trans ?_
    exact State.when_keeps (P := fun x : State => x.cap.on = u.cap.on) _ _ _ rfl
      (u.withCap { u.cap with view := .halted }).stopFill_on
  exact (cap _).trans same

theorem State.stopBlocks_halt_link (s : State) (p : StopPhase) (detectorFirst : Bool) :
    (s.stopBlocks .halt p detectorFirst).link = if p.link then s.linkTakesHalt.link else s.link := by
  have corrFrame (u : State) : Frame [.corr, .store, .ctl] u (u.corrStops .halt) :=
    ((u.withCorr_frame _).comp (Frame.foldl State.earlyClose_frame _ _)).mono (by simp)
  have det (u : State) := u.when_frame p.det State.detTakesStop_frame
  have corr (u : State) := u.when_frame p.corr corrFrame
  have cap (u : State) := u.when_frame p.cap fun x => x.capStops_frame .halt
  have rest (u : State) : Frame [.det, .cap, .mark, .corr, .store, .agg, .ctl] u
      (((if detectorFirst = true then
        ((u.when p.mark fun st => st.markStops .halt).when p.det State.detTakesStop).when p.corr
          fun st => st.corrStops .halt
        else ((u.when p.mark fun st => st.markStops .halt).when p.corr fun st => st.corrStops .halt).when
          p.det State.detTakesStop).when p.cap fun st => st.capStops .halt).when p.agg State.aggTakesStop) := by
    have marked := (u.when_frame p.mark fun x => x.markStops_frame .halt).mono
      (cs := [.det, .cap, .mark, .corr, .store, .agg, .ctl]) (by simp)
    exact (marked.trans (Frame.ite (c := detectorFirst = true)
      (((det _).comp (corr _)).mono (by simp)) (((corr _).comp (det _)).mono (by simp)))).trans
      (((cap _).comp (State.when_frame _ p.agg State.aggTakesStop_frame)).mono (by simp))
  have stored : Frame [.store] s (s.when p.store fun st => st.storeTakes (Stop.view .halt)) :=
    s.when_frame p.store fun u => u.storeTakes_frame (Stop.view .halt)
  have same : (s.when p.store fun st => st.storeTakes (Stop.view .halt)).link = s.link :=
    stored.only.1 .link (by decide)
  refine Eq.trans (show _ = ((s.when p.store fun st => st.storeTakes (Stop.view .halt)).when p.link
    fun st => st.linkStops .halt).link from (rest _).only.1 .link (by decide)) ?_
  cases p.link with
  | false => exact same
  | true =>
    show (s.when p.store fun st => st.storeTakes (Stop.view .halt)).linkTakesHalt.link = s.linkTakesHalt.link
    rw [State.linkTakesHalt_link, State.linkTakesHalt_link, same, stored.steady.time]

/-! With nothing waiting no reader takes anything within a stop (R29, R36). -/

theorem readersTake_of_nothingWaits (waits : s.nothingWaits) (k : Stop) (o : StopOrder)
    (failed : Option (Fin 9)) : s.readersTake k o failed = s := by
  obtain ⟨ref, reports, det, corr, agg⟩ := waits
  have idle (c : Bool) {f : State → State} (h : f s = s) : s.when c f = s := by
    cases c
    · rfl
    · exact h
  have tracker : s.trackerTakes = s := by
    unfold State.trackerTakes
    rw [ref]
  have detector (between : State → State) : s.detectorTakes failed between = s := by
    unfold State.detectorTakes
    rw [det]
  have correlation : s.correlationTakes = s := by
    unfold State.correlationTakes
    rw [corr]
  have aggregator : s.aggregatorTakes = s := by
    unfold State.aggregatorTakes
    rw [agg]
  have report : s.trackerTakesReport = s := if_pos reports
  unfold State.readersTake
  dsimp only
  rw [idle _ tracker, idle _ correlation, idle _ (detector _), idle _ correlation, ite_self,
    idle _ report, idle _ aggregator]

theorem nothingWaits_congr (ref : u.ref = s.ref) (det : u.det.handed = s.det.handed)
    (corr : u.corr.handed = s.corr.handed) (agg : u.agg.handed = s.agg.handed) (waits : s.nothingWaits) :
    u.nothingWaits := by
  obtain ⟨handed, reports, det', corr', agg'⟩ := waits
  exact ⟨ref ▸ handed, ref ▸ reports, det.trans det', corr.trans corr', agg.trans agg'⟩

/-! The events of the close, as HALT finds them. -/

theorem State.eventsOf_on (h : checks.fails = false) (u : State) :
    (s.eventsOf checks u).cap.on = u.cap.on := by
  refine State.eventsOf_keeps (P := fun v => v.cap.on = u.cap.on) (fun v inRun f hv => ?_) (fun v hv => ?_)
    (fun v m hv => ?_) rfl
  · exact (congrArg CaptureUnit.on ((v.handLockedCycle_frame inRun f).only.1 .cap (by decide))).trans hv
  · exact (congrArg CaptureUnit.on (v.halfCycleEnd_frame.only.1 .cap (by decide))).trans hv
  · rw [h]
    refine Eq.trans ?_ hv
    cases filling : v.fillingSlot with
    | none => rw [State.fillCopy_none filling]
    | some k =>
      by_cases takes : v.cap.slots[k].takes m
      · exact (State.fillCopy_passes filling takes).1
      · rw [(State.fillCopy_some filling m false).1 takes]

theorem State.eventsOf_storeView {w : StationState} (h : u.store.view = w) :
    (s.eventsOf checks u).store.view = w := by
  refine State.eventsOf_keeps (P := fun v => v.store.view = w) (fun v inRun f hv => ?_) (fun v hv => ?_)
    (fun v m hv => ?_) h
  · exact (congrArg RecordStore.view ((v.handLockedCycle_frame inRun f).only.1 .store (by decide))).trans hv
  · exact (congrArg RecordStore.view (v.halfCycleEnd_frame.only.1 .store (by decide))).trans hv
  · exact (congrArg RecordStore.view (v.fillCopy_rewrites m checks.fails).store).trans hv

/-- The measurement of a close leaves the blocks that HALT stops. -/
theorem State.measured_same (s : State) (b : Block) (hb : b ∉ [Block.cfe, .rms, .ctl]) :
    b.same (s.elapse s.closeMoment) s.measured :=
  s.measured_frame.only.1 b hb

/-- The stop of a close. -/
def State.halting (s : State) (checks : CloseChecks) : State :=
  s.measured.takeStop .halt s.order checks.failed (s.eventsOf checks)

theorem exec_positionClose_halting (halts : s.haltsNext) (checks : CloseChecks) :
    exec (.positionClose checks) s = .next (s.halting checks).enterHalted :=
  exec_positionClose_of_halts (s.halts_iff.2 halts) checks

theorem State.halting_frame (s : State) (checks : CloseChecks) :
    ∃ u, Frame (touches (.positionClose checks)) (s.elapse s.closeMoment) u ∧
      s.halting checks = u.withFree (s.free + 1) := by
  obtain ⟨u, frame, eq⟩ := s.measured.takeStop_frame .halt s.order checks.failed
    (act := s.eventsOf checks) (bs := [.cfe, .rms, .ref, .det, .cap, .mark, .link, .corr, .store, .agg, .ctl])
    (fun v => (s.eventsOf_frame checks v).mono (by simp)) (by simp)
  refine ⟨u, (s.measured_frame.comp frame).mono (by simp [touches]), eq.trans ?_⟩
  rw [show s.measured.free = s.free from s.measured_frame.steady.free]

/-- The readers' queues before the events of the close. -/
theorem State.stopped_queues (s : State) (p : StopPhase) (detectorFirst : Bool) :
    (s.measured.stopBlocks .halt p detectorFirst).queues = s.queues :=
  (State.stopBlocks_queues _ _ _ _).trans (queues_of_frame (s := s.elapse s.closeMoment) s.measured_frame
    (by decide) (by decide) (by decide) (by decide))

/-- A close that emits no refresh: what its events find, and leave. -/
theorem State.quietEvents (no : ¬s.emitsNext) (checks : CloseChecks) :
    let u := s.measured.stopBlocks .halt (earlyPhase s.order) s.order.detectorFirst
    Frame [.cfe, .rms, .agg] u (s.eventsOf checks u) ∧ (s.eventsOf checks u).queues = s.queues := by
  intro u
  have rms : u.rms = s.measured.rms :=
    (s.measured.stopBlocks_frame .halt (earlyPhase s.order) s.order.detectorFirst).only.1 .rms (by decide)
  obtain ⟨frame, handed⟩ := State.eventsOf_quiet (checks := checks) no rms
  refine ⟨frame, Eq.trans ?_ (s.stopped_queues (earlyPhase s.order) s.order.detectorFirst)⟩
  have ref : (s.eventsOf checks u).ref = u.ref := frame.only.1 .ref (by decide)
  have det : (s.eventsOf checks u).det = u.det := frame.only.1 .det (by decide)
  have corr : (s.eventsOf checks u).corr = u.corr := frame.only.1 .corr (by decide)
  unfold State.queues
  rw [ref, det, corr, handed]

/-- HALT keeps the capture unit ON where the close copies nothing that fails its check (R85). -/
theorem State.halting_on (h : ¬s.emitsNext ∧ s.det.handed = [] ∨ checks = ⟨false, none⟩) :
    (s.halting checks).cap.on = s.cap.on := by
  let u := s.measured.stopBlocks .halt (earlyPhase s.order) s.order.detectorFirst
  have before : u.cap.on = s.cap.on :=
    (State.stopBlocks_on _ _ _).trans (congrArg CaptureUnit.on (s.measured_same .cap (by decide)))
  have acted : (s.eventsOf checks u).cap.on = s.cap.on ∧
      ((s.eventsOf checks u).det.handed = [] ∨ checks.failed = none) := by
    rcases h with ⟨no, waits⟩ | rfl
    · obtain ⟨frame, queues⟩ := State.quietEvents no checks
      exact ⟨(congrArg CaptureUnit.on (frame.only.1 .cap (by decide))).trans before,
        .inl ((congrArg Queues.det queues).trans waits)⟩
    · exact ⟨(State.eventsOf_on rfl u).trans before, .inr rfl⟩
  refine (State.stopBlocks_on _ _ _).trans ?_
  exact State.when_keeps (P := fun x : State => x.cap.on = s.cap.on) _ _ _ acted.1
    ((State.readersTake_on _ _ _ acted.2).trans acted.1)

/-- With nothing waiting nothing waits after the events either. -/
theorem State.quietEvents_waits (no : ¬s.emitsNext) (waits : s.nothingWaits) (checks : CloseChecks) :
    let a := s.eventsOf checks (s.measured.stopBlocks .halt (earlyPhase s.order) s.order.detectorFirst)
    a.ref = s.ref ∧ a.nothingWaits := by
  intro a
  obtain ⟨frame, queues⟩ := State.quietEvents no checks
  have early := s.measured.stopBlocks_frame .halt (earlyPhase s.order) s.order.detectorFirst
  have ref : a.ref = s.ref := (frame.only.1 .ref (by decide)).trans
    ((early.only.1 .ref (by decide)).trans (s.measured_same .ref (by decide)))
  exact ⟨ref, nothingWaits_congr ref (congrArg Queues.det queues) (congrArg Queues.corr queues)
    (congrArg Queues.agg queues) waits⟩

/-- A HALT with no refresh at all: queue, references and mark line are as they were but for the
withdrawn VERDICTs and the drive (R42, R97, R120). -/
theorem State.halting_alone (no : ¬s.emitsNext) (waits : s.nothingWaits) (checks : CloseChecks) :
    (s.halting checks).link.attempts = s.link.attempts ∧
    (s.halting checks).link.queue = s.link.queue.map QueuedFrame.withdraw ∧
    (s.halting checks).ref = s.ref ∧
    (s.halting checks).mark = Stop.ofMark .halt s.measured.now s.mark := by
  let u := s.measured.stopBlocks .halt (earlyPhase s.order) s.order.detectorFirst
  let a := s.eventsOf checks u
  obtain ⟨frame, -⟩ := State.quietEvents no checks
  have early := s.measured.stopBlocks_frame .halt (earlyPhase s.order) s.order.detectorFirst
  obtain ⟨ref, still⟩ := State.quietEvents_waits no waits checks
  have stopped : s.halting checks = (a.stopBlocks .halt (earlyPhase s.order).others
      s.order.detectorFirst).withFree (s.measured.free + 1) := by
    have idle (c : Bool) : a.when c (fun st => st.readersTake .halt s.order checks.failed) = a := by
      cases c
      · rfl
      · exact readersTake_of_nothingWaits still .halt s.order checks.failed
    exact congrArg (fun x : State => (x.stopBlocks .halt (earlyPhase s.order).others
      s.order.detectorFirst).withFree (s.measured.free + 1)) (idle _)
  have late := a.stopBlocks_frame .halt (earlyPhase s.order).others s.order.detectorFirst
  have link : s.measured.link = s.link := s.measured_same .link (by decide)
  have time : a.time = s.measured.time := frame.steady.time.trans early.steady.time
  have haltedLink : (s.halting checks).link = s.measured.linkTakesHalt.link := by
    have found : a.link = if (earlyPhase s.order).link then s.measured.linkTakesHalt.link else s.measured.link :=
      (show a.link = u.link from frame.only.1 .link (by decide)).trans (State.stopBlocks_halt_link _ _ _)
    rw [stopped]
    refine (State.stopBlocks_halt_link _ _ _).trans ?_
    rw [show (earlyPhase s.order).others.link = !(earlyPhase s.order).link from rfl]
    cases isEarly : (earlyPhase s.order).link with
    | true =>
      rw [isEarly] at found
      exact found
    | false =>
      rw [isEarly] at found
      show a.linkTakesHalt.link = _
      rw [State.linkTakesHalt_link, State.linkTakesHalt_link, time, found]
      rfl
  refine ⟨?_, ?_, ?_, ?_⟩
  · rw [haltedLink, State.linkTakesHalt_link, link]
    rfl
  · rw [haltedLink, State.linkTakesHalt_link, link]
    rfl
  · rw [stopped]
    exact (late.only.1 .ref (by decide)).trans ref
  · obtain ⟨-, -, handed, -, -⟩ := still
    have mark := s.measured.takeStop_mark .halt s.order checks.failed (act := s.eventsOf checks) fun v =>
      ⟨(s.eventsOf_frame checks v).only.1 .mark (by decide),
        State.now_of_steady (s.eventsOf_frame checks v).steady⟩
    rcases mark with same | ⟨-, taken, -⟩
    · exact same.trans (congrArg _ (s.measured_same .mark (by decide)))
    · exact absurd handed taken

end Sys2Proof.Machine
end


section
/-! What a double overrun in RUN leaves (O23). -/

namespace Sys2Proof.Machine

variable {s : State} {checks : CloseChecks}

theorem State.halting_calm {P : State → Prop} (h : CalmStop P .halt) {b : Block} (stops : b ∈ stopping)
    (set : ∀ u, P (State.stopBlock .halt b u)) (events : ∀ u, P u → P (s.eventsOf checks u)) :
    P (s.halting checks) :=
  h.takeStop_reaches stops set events _ _ _

theorem State.eventsOf_link (u : State) : (s.eventsOf checks u).link = u.link :=
  (s.eventsOf_frame checks u).only.1 .link (by decide)

theorem State.halting_link (s : State) (checks : CloseChecks) : HaltedLink (s.halting checks).link :=
  State.halting_calm haltedLink_calmStop (b := .link) (by simp [stopping])
    (fun u => linkTakesHalt_halted u) fun u h => by rwa [State.eventsOf_link]

theorem State.halting_peers (s : State) (checks : CloseChecks) :
    (s.halting checks).link.peers = s.link.peers ∧ (s.halting checks).link.rx = s.link.rx := by
  have link : s.measured.link = s.link := s.measured_same .link (by decide)
  exact (peersStand_calmStop s.link).takeStop s.order checks.failed
    (fun u h => by rwa [State.eventsOf_link]) (by rw [link]; exact ⟨rfl, rfl⟩)

theorem State.halting_shut (s : State) (checks : CloseChecks) : CorrShut .halted (s.halting checks).corr :=
  State.takeStop_shut _ .halt _ _ fun _ => State.eventsOf_shut

/-- The mark line interface has taken HALT (R97). -/
theorem State.halting_mark (s : State) (checks : CloseChecks) :
    (s.halting checks).mark.view = .halted ∧ (s.halting checks).mark.drive = false ∧
    (s.halting checks).mark.pulseEnd = none ∧ (s.halting checks).mark.stuck = s.mark.stuck := by
  have before : s.measured.mark = s.mark := s.measured_same .mark (by decide)
  have mark := s.measured.takeStop_mark .halt s.order checks.failed (act := s.eventsOf checks) fun v =>
    ⟨(s.eventsOf_frame checks v).only.1 .mark (by decide),
      State.now_of_steady (s.eventsOf_frame checks v).steady⟩
  rcases mark with same | ⟨-, -, pulsed⟩
  · rw [show (s.halting checks).mark = _ from same, before]
    exact ⟨rfl, rfl, rfl, rfl⟩
  · rw [show (s.halting checks).mark = _ from pulsed, ← before]
    exact ⟨rfl, rfl, rfl, rfl⟩

/-- All blocks hold HALTED at the end of the close (R184; log entry 3). -/
theorem State.halting_views (s : State) (checks : CloseChecks) : (s.halting checks).enterHalted.viewsAgree := by
  have cap : (s.halting checks).cap.view = .halted :=
    State.halting_calm (capView_calmStop .halt) (b := .cap) (by simp [stopping])
      (fun u => u.capStops_view .halt) fun u h => (s.eventsOf_subsides checks u).view.trans h
  have store : (s.halting checks).store.view = .halted :=
    State.halting_calm (storeView_calmStop .halt) (b := .store) (by simp [stopping]) (fun _ => rfl)
      fun u h => State.eventsOf_storeView h
  obtain ⟨view, -⟩ := s.halting_link checks
  exact ⟨cap, (s.halting_mark checks).1, view, (s.halting_shut checks).1, store⟩

/-- With no interval open HALT writes none (R166). -/
theorem State.halting_noInterval (none : s.agg.cur = none) (checks : CloseChecks) :
    noInterval s (s.halting checks).enterHalted := by
  have agg : s.measured.agg = s.agg := s.measured_same .agg (by decide)
  have start : Closed s.agg.ring s.agg.nextSeq s.ctl.causes[(10 : Fin 13)] s.measured :=
    ⟨agg ▸ none, by rw [agg], by rw [agg], s.measured_raises 10 (by decide)⟩
  have stopped : Closed s.agg.ring s.agg.nextSeq s.ctl.causes[(10 : Fin 13)] (s.halting checks) :=
    (Closed.calmStop .halt).takeStop s.order checks.failed (fun _ => State.eventsOf_closed) start
  exact noInterval_iff.2 (stopped.of_agg rfl ((State.raise_raises _ .halt 0 (by decide)).trans fun _ _ => rfl))

/-- The interval in progress is written PARTIAL, with what the aggregator has taken into it (R161,
R166; log entry 3). -/
theorem State.halting_ended {i : Interval} (cur : s.agg.cur = some i) (few : s.agg.ring.length ≤ 144)
    (checks : CloseChecks) :
    let cycles (acc : Accumulators) := acc = i.acc ∨ ∃ f, s.closedCycle = some f ∧ acc = i.acc.addCycle f
    ∃ acc : Accumulators, endsPartial s (s.halting checks).enterHalted { i with acc := acc } ∧
      (cycles acc ∨ ∃ acc', cycles acc' ∧ ∃ e ∈ (s.eventsOf checks (s.measured.stopBlocks .halt
        (earlyPhase s.order) s.order.detectorFirst)).agg.handed, acc = acc'.take e) := by
  intro cycles
  have agg : s.measured.agg = s.agg := s.measured_same .agg (by decide)
  obtain ⟨acc, what, ended⟩ := State.takeStop_interval (s := s.measured) (k := .halt) (o := s.order)
    (failed := checks.failed) (act := s.eventsOf checks) (i := i) (by rw [agg, cur]) (A := cycles)
    (fun u => State.eventsOf_closed) fun u stands _ => State.eventsOf_stands stands
  obtain ⟨u, frame, eq⟩ := s.halting_frame checks
  have now : (s.halting checks).now = s.measured.now := by
    rw [eq]
    exact (State.now_of_steady frame.steady).trans (State.now_of_steady s.measured_frame.steady).symm
  have start : s.measured.store.startTime = s.store.startTime :=
    congrArg RecordStore.startTime (s.measured_same .store (by decide))
  obtain ⟨cur', cause, seq, en, ring, rest⟩ := ended.endsPartial (by rw [agg]; exact few) now
  refine ⟨acc, ⟨cur', ?_, ?_, en, ?_, ?_⟩, ?_⟩
  · exact (State.raise_causes _ .halt 0 10).trans cause
  · exact seq.trans (by rw [agg])
  · exact ring.trans (by rw [agg])
  · rw [agg, start] at rest
    exact rest
  · rcases what with rfl | taken | ⟨-, read⟩
    · exact .inl (.inl rfl)
    · exact .inl taken
    · exact .inr read

theorem State.halting_interval {i : Interval} (halts : s.haltsNext) (cur : s.agg.cur = some i)
    (few : s.agg.ring.length ≤ 144) (checks : CloseChecks) :
    ∃ acc : Accumulators, endsPartial s (s.halting checks).enterHalted { i with acc := acc } ∧
      i.acc.count ≤ acc.count ∧ acc.count ≤ i.acc.count + 1 ∧
      (acc.freqSum = i.acc.freqSum ∧ acc.locked = i.acc.locked ∨
        lockedCycleEnds s (s.halting checks).enterHalted ∧
        acc.freqSum = i.acc.freqSum + (s.halting checks).enterHalted.cfe.trk.freq ∧
        acc.locked = i.acc.locked + 1) := by
  have he := exec_positionClose_halting halts checks
  have added (acc : Accumulators) (h : acc = i.acc ∨ ∃ f, s.closedCycle = some f ∧ acc = i.acc.addCycle f) :
      acc.count = i.acc.count ∧
      (acc.freqSum = i.acc.freqSum ∧ acc.locked = i.acc.locked ∨
        lockedCycleEnds s (s.halting checks).enterHalted ∧
        acc.freqSum = i.acc.freqSum + (s.halting checks).enterHalted.cfe.trk.freq ∧
        acc.locked = i.acc.locked + 1) := by
    rcases h with rfl | ⟨f, ends, rfl⟩
    · exact ⟨rfl, .inl ⟨rfl, rfl⟩⟩
    · obtain ⟨locked, freq⟩ := lockedCycleEnds_of_closedCycle he ends
      exact ⟨rfl, .inr ⟨locked, congrArg (i.acc.freqSum + ·) freq, rfl⟩⟩
  obtain ⟨acc, ended, what⟩ := State.halting_ended cur few checks
  refine ⟨acc, ended, ?_⟩
  rcases what with taken | ⟨acc', taken, e, -, rfl⟩
  · obtain ⟨count, sums⟩ := added acc taken
    exact ⟨count.ge, count.le.trans (Nat.le_succ _), sums⟩
  · obtain ⟨count, sums⟩ := added acc' taken
    have more : (acc'.take e).count = i.acc.count + 1 := congrArg (· + 1) count
    exact ⟨more ▸ Nat.le_succ _, more.le, sums⟩

/-- Settles O23: what each block is at the end of the stop that a double overrun brings. -/
theorem doubleOverrunHaltsARunningStation : Obligations.DoubleOverrunHaltsARunningStation := by
  unfold Obligations.DoubleOverrunHaltsARunningStation
  intro checks s halts
  obtain ⟨u, frame, eq⟩ := s.halting_frame checks
  have watch : (s.halting checks).det.mode = .watch :=
    State.takeStop_watch _ _ _ _ fun v => s.eventsOf_mode checks v
  have cond : (s.halting checks).det.cond = allBack :=
    State.takeStop_cond _ _ _ _ fun v => s.eventsOf_cond checks v
  obtain ⟨-, tx, withdrawn⟩ := s.halting_link checks
  obtain ⟨peers, rx⟩ := s.halting_peers checks
  obtain ⟨-, drive, pulseEnd, stuck⟩ := s.halting_mark checks
  refine ⟨(s.halting checks).enterHalted, exec_positionClose_halting halts checks, rfl, rfl,
    State.raise_causes _ .halt 0 7, s.halting_views checks, ?_, watch, fun j => ?_,
    (s.halting_shut checks).2, fun one => ?_, drive, pulseEnd, stuck, tx, peers, rx, withdrawn, ?_, ?_,
    fun none => State.halting_noInterval none checks,
    fun i cur few => State.halting_interval halts cur few checks, State.halting_on, fun no waits => ?_⟩
  · exact congrArg State.free eq
  · show (s.halting checks).det.cond[j] = _
    rw [cond]
    exact Vector.getElem_replicate j.isLt
  · have quiet := halt_quiet (State.fillings_le_one.1 one) checks
    exact State.fillings_eq_zero.2 ((quiet.blocks.rests .cap (by simp [butDet])).2 (by decide))
  · exact (congrArg State.port eq).trans (frame.only.1 .port (by simp [touches]))
  · exact (congrArg (fun x : State => x.ctl.items) eq).trans frame.steady.items
  · obtain ⟨attempts, queue, ref, mark⟩ := State.halting_alone no waits checks
    refine ⟨attempts, queue, fun j => ?_, congrArg RefTracker.endReports ref, ?_, ?_⟩
    · exact congrArg (fun x : RefTracker => x.d[j]) ref
    · exact (congrArg MarkLine.asserted mark).trans rfl
    · exact (congrArg MarkLine.lastEdge mark).trans rfl

end Sys2Proof.Machine
end


section
/-! The record of a VERDICT that a stop drops comes out UNSENT, whatever else is taken within the stop
(R120, R132). -/

namespace Sys2Proof.Machine

variable {s u : State} {k : Stop} {id : Nat}

/-- The record `id` is held, and carries UNSENT or has a VERDICT queued and not withdrawn. -/
def Reported (id : Nat) (s : State) : Prop :=
  ∃ r ∈ s.store.queue, r.id = id ∧
    (r.flags.unsent = true ∨ s.verdictQueued fun v => v.recordId ≠ 0 ∧ v.recordId = id)

/-- It stays so where its record is rewritten and the queued VERDICTs stay. -/
theorem Reported.of_map (h : Reported id s) {g : Record → Record}
    (queue : ∀ r ∈ s.store.queue, g r ∈ u.store.queue) (edited : ∀ r : Record, r.Edited (g r))
    (queued : ∀ v, QueuedFrame.verdict v ∈ s.link.queue → QueuedFrame.verdict v ∈ u.link.queue) :
    Reported id u := by
  obtain ⟨r, hr, rid, why⟩ := h
  refine ⟨g r, queue r hr, (edited r).id.trans rid, why.imp (edited r).unsent ?_⟩
  rintro ⟨v, hv, rest⟩
  exact ⟨v, queued v hv, rest⟩

theorem Reported.of_link (h : Reported id s) {g : Record → Record} (link : u.link = s.link)
    (queue : u.store.queue = s.store.queue.map g) (edited : ∀ r : Record, r.Edited (g r)) : Reported id u :=
  h.of_map (fun _ hr => queue ▸ List.mem_map_of_mem hr) edited fun _ hv => link ▸ hv

theorem Reported.of_frame {bs : List Block} (h : Reported id s) (frame : Frame bs s u)
    (store : Block.store ∉ bs) (link : Block.link ∉ bs) : Reported id u := by
  have store' : u.store = s.store := frame.only.1 .store store
  exact h.of_link (g := fun r => r) (frame.only.1 .link link) (by rw [store', List.map_id']) Record.Edited.refl

theorem Record.Judged.edited {r r' : Record} (h : r.Judged r') : r.Edited r' := by
  unfold Record.Judged at h
  rw [h]
  exact ⟨rfl, fun u => u⟩

theorem Record.Captured.edited {r r' : Record} (h : r.Captured r') : r.Edited r' := by
  unfold Record.Captured at h
  rw [h]
  exact ⟨rfl, fun u => u⟩

theorem Reported.editRecord (h : Reported id s) (n : Nat) {f : Record → Record}
    (edited : ∀ r : Record, r.Edited (f r)) : Reported id (s.editRecord n f) :=
  h.of_link rfl rfl fun r => by
    split
    · exact edited r
    · exact .refl r

theorem Reported.calm (id : Nat) : Calm (Reported id) where
  capture s n a failed h := by
    obtain ⟨g, queue, captured⟩ := s.captureRequest_map n a failed
    exact h.of_link ((s.captureRequest_frame n a failed).only.1 .link (by decide)) queue
      fun r => (captured r).edited
  add s r t _ h := by
    refine h.of_map (fun x hx => ?_) Record.Edited.refl fun _ hv => ?_
    · rw [State.addRecord_queue]
      exact List.mem_append_left _ hx
    · rwa [show (s.addRecord r t).link = s.link from (s.addRecord_frame r t).only.1 .link (by decide)]
  edit s n f edited h := h.editRecord n edited
  judge s n h := by
    obtain ⟨g, queue, judged⟩ := s.judge_map n
    exact h.of_link ((s.judge_frame n).only.1 .link (by decide)) queue fun r => (judged r).edited
  tally _ _ _ _ _ h := h
  contexts _ _ _ h := h
  det _ _ _ h := h
  ends _ _ h := h
  edge _ _ _ _ h := h

/-- The report of the queued VERDICTs sets UNSENT (R120, R132). -/
theorem Reported.reported (h : Reported id s) :
    ∃ r ∈ s.reportQueue.store.queue, r.id = id ∧ r.flags.unsent = true := by
  obtain ⟨r, hr, rid, why⟩ := h
  rw [State.reportQueue_store]
  refine ⟨_, List.mem_map_of_mem hr, rid, ?_⟩
  rw [Record.unsentOr, Bool.or_eq_true]
  refine why.imp_right fun queued => (State.verdictQueued_iff fun _ => QueuedVerdict.names_iff).2 ?_
  rwa [rid]

theorem Reported.linkStops (h : Reported id s) (k : Stop) : Reported id (s.linkStops k) := by
  have store : (s.linkStops k).store = s.reportQueue.store := by
    match k with
    | .halt => rfl
    | .restart _ tableFirst => cases tableFirst <;> rfl
  obtain ⟨r, hr, rid, unsent⟩ := h.reported
  exact ⟨r, store ▸ hr, rid, .inl unsent⟩

theorem Reported.handVerdict (h : Reported id s) (v : QueuedVerdict) : Reported id (s.handVerdict v) := by
  have dropped : Reported id (s.dropReport v.edge v.recordId) := (Reported.calm id).dropReport _ _ h
  have queued {l : NoticeLink}
      (kept : ∀ x, QueuedFrame.verdict x ∈ s.link.queue → QueuedFrame.verdict x ∈ l.queue) :
      Reported id (s.withLink (l.enqueue (.verdict v))) :=
    h.of_map (g := fun r => r) (fun _ hr => hr) Record.Edited.refl fun x hx =>
      List.mem_append_left _ (kept x hx)
  unfold State.handVerdict
  split
  · exact dropped
  split
  · exact queued fun _ hx => hx
  split
  · next i found =>
    refine queued fun x hx => ?_
    obtain ⟨j, hj⟩ := List.mem_iff_getElem?.1 hx
    have present : s.link.queue[i]? = some .present := (NoticeLink.oldestPresent_eq_some.1 found).1.1
    rw [(s.link.removeAt_queue i).1, List.mem_eraseIdx_iff_getElem?]
    refine ⟨j, fun e => ?_, hj⟩
    rw [e, present] at hj
    exact nomatch hj
  · exact dropped

theorem Reported.calmStop (id : Nat) (k : Stop) : CalmStop (Reported id) k where
  toCalm := Reported.calm id
  store _ h := h
  link _ h := h.linkStops k
  clear _ _ h := h
  mark s h := h.of_frame (s.markStops_frame k) (by decide) (by decide)
  corr _ h := h
  cap s h := by
    have stopped : ∃ g : Record → Record, (s.capStops k).store.queue = s.store.queue.map g ∧
        ∀ r : Record, r.Judged (g r) := by
      cases k with
      | halt => exact (s.withCap { s.cap with view := .halted }).stopFill_map
      | restart low tableFirst => exact (s.withCap { s.cap with view := .config }).stopFill_map
    obtain ⟨g, queue, judged⟩ := stopped
    exact h.of_link ((s.capStops_frame k).only.1 .link (by decide)) queue fun r => (judged r).edited
  agg s h := h.of_frame s.aggTakesStop_frame (by decide) (by decide)
  handed _ _ h := h
  tracker s h := h.of_frame s.trackerTakes_frame (by decide) (by decide)
  report s h := h.of_frame s.trackerTakesReport_frame (by decide) (by decide)
  correlation s h := by
    unfold State.correlationTakes
    split
    · exact h
    next e rest _ =>
      refine foldl_keeps (P := Reported id) (fun u j hu => ?_) _ h
      cases hc : u.corr.slots[j] with
      | none =>
        unfold State.judgeContext
        rwa [hc]
      | some c =>
        have handed (v : QueuedVerdict) : Reported id ((u.withVerdict e j c).handVerdict v) :=
          Reported.handVerdict (s := u.withVerdict e j c) hu v
        rw [State.judgeContext_eq hc]
        exact ite_keeps (handed _) ((handed _).editRecord _ (rewriteSympathetic_edited _))
  aggregator s h := h.of_frame s.aggregatorTakes_frame (by decide) (by decide)
  free _ _ h := h

/-- Once no queued VERDICT awaits a report, UNSENT has been set. -/
theorem Reported.unsent (h : Reported id s)
    (none : ∀ v, QueuedFrame.verdict v ∈ s.link.queue → v.withdrawn = true) :
    ∃ r ∈ s.store.queue, r.id = id ∧ r.flags.unsent = true := by
  obtain ⟨r, hr, rid, why⟩ := h
  refine ⟨r, hr, rid, why.resolve_right ?_⟩
  rintro ⟨v, hv, open', -⟩
  exact absurd (open'.symm.trans (none v hv)) (by simp)

end Sys2Proof.Machine
end


section
/-! A stop within which nothing is taken: each block takes it once, the store before those that report
to it, and the notice link before the correlation unit (R138, R151; log entry 3). -/

namespace Sys2Proof.Machine

variable {s u v : State} {k : Stop} {o : StopOrder} {failed : Option (Fin 9)} {act : State → State}

/-- Which of the four blocks have taken the stop. -/
structure Taken where
  store : Bool
  link : Bool
  det : Bool
  corr : Bool

/-- The blocks that have taken the stop once those of phase `p` have. -/
def Taken.after (t : Taken) (p : StopPhase) : Taken :=
  ⟨p.store || t.store, p.link || t.link, p.det || t.det, p.corr || t.corr⟩

/-- What holds along a stop of `s`, whatever the order of the blocks. -/
structure Along (s : State) (k : Stop) (t : Taken) (u : State) : Prop where
  steady : Steady s u
  ids : u.ledger.IdsSound
  linked : s.ledger.Linked → u.ledger.Linked
  det : t.det = false → u.det = s.det
  view : t.store = true → u.store.view = k.view

/-- A step that reaches neither records nor contexts nor notices. -/
structure Unseen (u v : State) : Prop where
  store : v.store = u.store
  corr : v.corr = u.corr
  link : v.link = u.link
  closed : v.ctl.causes[(8 : Fin 13)] = u.ctl.causes[(8 : Fin 13)]
  full : v.ctl.causes[(9 : Fin 13)] = u.ctl.causes[(9 : Fin 13)]

/-- What a stop makes, block by block. -/
structure StopRun (s : State) (k : Stop) (Inv : Taken → State → Prop) : Prop where
  store : ∀ t u, t.det = false → t.corr = false → Along s k t u → Inv t u →
    Inv { t with store := true } (u.storeTakes k.view)
  link : ∀ t u, t.link = false → t.corr = false → Along s k t u → Inv t u → Inv { t with link := true } (u.linkStops k)
  det : ∀ t u, t.store = true → t.det = false → Along s k t u → Inv t u →
    Inv { t with det := true } u.detTakesStop
  corr : ∀ t u, t.store = true → t.link = true → t.corr = false → Along s k t u → Inv t u →
    Inv { t with corr := true } (u.corrStops k)
  cap : ∀ t u, t.store = true → Along s k t u → Inv t u → Inv t (u.capStops k)
  other : ∀ t u v, Unseen u v → Inv t u → Inv t v

/-! What holds along every stop. -/

namespace Along

variable {t : Taken}

theorem step {bs : List Block} {t' : Taken} (h : Along s k t u) (frame : Frame bs u v) (settles : Settles u v)
    (det : t'.det = false → t.det = false ∧ Block.det ∉ bs)
    (view : t'.store = true → v.store.view = k.view) : Along s k t' v := by
  obtain ⟨ids, linked⟩ := Ledger.Moves.keep (P := fun _ w => s.ledger.Linked → w.Linked)
    (fun m hw hl links => Ledger.kept_linked.move m hw (hl links)) (settles []) h.ids h.linked
  refine ⟨h.steady.trans frame.steady, ids, linked, fun late => ?_, view⟩
  obtain ⟨before, out⟩ := det late
  exact (show v.det = u.det from frame.only.1 .det out).trans (h.det before)

/-- At the start of a stop. -/
theorem first (ids : s.ledger.IdsSound) : Along s k ⟨false, false, false, false⟩ s :=
  ⟨.refl s, ids, fun h => h, fun _ => rfl, fun taken => nomatch taken⟩

theorem storeTakes (h : Along s k t u) : Along s k { t with store := true } (u.storeTakes k.view) :=
  h.step (u.storeTakes_frame k.view) (.of_eq rfl) (fun late => ⟨late, by decide⟩) fun _ => rfl

theorem linkStops (h : Along s k t u) : Along s k { t with link := true } (u.linkStops k) :=
  h.step (u.linkStops_frame k) (.of_eq (u.linkStops_ledger k)) (fun late => ⟨late, by decide⟩)
    fun taken => (storeView_calmStop k).link u (h.view taken)

theorem markStops (h : Along s k t u) : Along s k t (u.markStops k) :=
  h.step (u.markStops_frame k) (.of_eq (u.markStops_ledger k)) (fun late => ⟨late, by decide⟩)
    fun taken => (storeView_calmStop k).mark u (h.view taken)

theorem detTakesStop (h : Along s k t u) : Along s k { t with det := true } u.detTakesStop :=
  h.step u.detTakesStop_frame u.detTakesStop_settles (fun late => nomatch late)
    fun taken => (storeView_calmStop k).toCalm.detTakesStop (h.view taken)

theorem corrStops (h : Along s k t u) : Along s k { t with corr := true } (u.corrStops k) :=
  h.step (u.corrStops_frame k) (u.corrStops_settles k) (fun late => ⟨late, by decide⟩)
    fun taken => (storeView_calmStop k).corrStops (h.view taken)

theorem capStops (h : Along s k t u) : Along s k t (u.capStops k) :=
  h.step (u.capStops_frame k) (u.capStops_settles k) (fun late => ⟨late, by decide⟩)
    fun taken => (storeView_calmStop k).cap u (h.view taken)

theorem aggTakesStop (h : Along s k t u) : Along s k t u.aggTakesStop :=
  h.step u.aggTakesStop_frame (.of_eq u.aggTakesStop_ledger) (fun late => ⟨late, by decide⟩)
    fun taken => (storeView_calmStop k).agg u (h.view taken)

end Along

theorem Unseen.of_frame {bs : List Block} (frame : Frame bs u v)
    (out : ∀ b ∈ [Block.store, .corr, .link], b ∉ bs) (raises : Raises [10] u v) : Unseen u v :=
  ⟨frame.only.1 .store (out _ (by decide)), frame.only.1 .corr (out _ (by decide)),
    frame.only.1 .link (out _ (by decide)), raises 8 (by decide), raises 9 (by decide)⟩

/-! The blocks of one phase. -/

/-- The blocks of phase `p` may take the stop where those of `t` have. -/
structure StopPhase.May (p : StopPhase) (t : Taken) : Prop where
  store : p.store = true → t.det = false ∧ t.corr = false
  link : p.link = true → t.link = false ∧ t.corr = false
  det : p.det = true → t.det = false ∧ (p.store || t.store) = true
  corr : p.corr = true → t.corr = false ∧ (p.store || t.store) = true ∧ (p.link || t.link) = true
  cap : p.cap = true → (p.store || t.store) = true

theorem StopRun.stopBlocks {Inv : Taken → State → Prop} (h : StopRun s k Inv) {t : Taken} {p : StopPhase}
    (may : p.May t) (detectorFirst : Bool) (along : Along s k t u) (start : Inv t u) :
    Along s k (t.after p) (u.stopBlocks k p detectorFirst) ∧
      Inv (t.after p) (u.stopBlocks k p detectorFirst) := by
  let Both (t : Taken) (u : State) : Prop := Along s k t u ∧ Inv t u
  have on {u : State} (c b : Bool) (set : Bool → Taken) {f : State → State} (hu : Both (set b) u)
      (step : c = true → Both (set b) u → Both (set true) (f u)) : Both (set (c || b)) (u.when c f) := by
    cases c
    · exact hu
    · exact step rfl hu
  have stored := on p.store t.store (fun b => ⟨b, t.link, t.det, t.corr⟩) ⟨along, start⟩
    (f := fun x => x.storeTakes k.view) fun c hu =>
      ⟨hu.1.storeTakes, h.store _ _ (may.store c).1 (may.store c).2 hu.1 hu.2⟩
  have linked := on p.link t.link (fun b => ⟨p.store || t.store, b, t.det, t.corr⟩) stored
    (f := fun x => x.linkStops k) fun c hu => ⟨hu.1.linkStops,
      h.link ⟨p.store || t.store, t.link, t.det, t.corr⟩ _ (may.link c).1 (may.link c).2 hu.1 hu.2⟩
  have marked := State.when_keeps (P := Both ⟨p.store || t.store, p.link || t.link, t.det, t.corr⟩) _ p.mark
    (fun x => x.markStops k) linked
    ⟨linked.1.markStops, h.other _ _ _ (.of_frame (State.markStops_frame _ k) (by decide)
      (.of_frame (State.markStops_frame _ k) (by decide))) linked.2⟩
  have det {u : State} (corr : Bool) (hu : Both ⟨p.store || t.store, p.link || t.link, t.det, corr⟩ u) :
      Both ⟨p.store || t.store, p.link || t.link, p.det || t.det, corr⟩ (u.when p.det State.detTakesStop) :=
    on p.det t.det (fun b => ⟨p.store || t.store, p.link || t.link, b, corr⟩) hu fun c hu =>
      ⟨hu.1.detTakesStop, h.det ⟨p.store || t.store, p.link || t.link, t.det, corr⟩ _ (may.det c).2
        (may.det c).1 hu.1 hu.2⟩
  have corr {u : State} (det : Bool) (hu : Both ⟨p.store || t.store, p.link || t.link, det, t.corr⟩ u) :
      Both ⟨p.store || t.store, p.link || t.link, det, p.corr || t.corr⟩
        (u.when p.corr fun x => x.corrStops k) :=
    on p.corr t.corr (fun b => ⟨p.store || t.store, p.link || t.link, det, b⟩) hu
      fun c hu => ⟨hu.1.corrStops,
        h.corr ⟨p.store || t.store, p.link || t.link, det, t.corr⟩ _ (may.corr c).2.1 (may.corr c).2.2 (may.corr c).1 hu.1 hu.2⟩
  have closed := ite_keeps (P := Both (t.after p)) (c := detectorFirst = true)
    (corr _ (det _ marked)) (det _ (corr _ marked))
  have held {u : State} (hu : Both (t.after p) u) :
      Both (t.after p) (u.when p.cap fun x => x.capStops k) := by
    cases c : p.cap with
    | false => exact hu
    | true => exact ⟨hu.1.capStops, h.cap _ _ (may.cap c) hu.1 hu.2⟩
  have last {u : State} (hu : Both (t.after p) u) :
      Both (t.after p) (u.when p.agg State.aggTakesStop) :=
    State.when_keeps _ _ _ hu ⟨hu.1.aggTakesStop, h.other _ _ _
      (.of_frame u.aggTakesStop_frame (by decide) u.aggTakesStop_raises) hu.2⟩
  exact last (held closed)

/-! The whole stop. -/

theorem earlyPhase_may (o : StopOrder) : (earlyPhase o).May ⟨false, false, false, false⟩ where
  store _ := ⟨rfl, rfl⟩
  link _ := ⟨rfl, rfl⟩
  det h := ⟨rfl, by simp [earlyPhase] at h ⊢; simp [h]⟩
  corr h := ⟨rfl, by simp [earlyPhase] at h ⊢; simp [h]⟩
  cap h := by simp [earlyPhase] at h ⊢; simp [h]

theorem othersPhase_may (o : StopOrder) :
    (earlyPhase o).others.May (Taken.after ⟨false, false, false, false⟩ (earlyPhase o)) where
  store h := by
    simp only [earlyPhase, StopPhase.others, Taken.after, Bool.or_false, Bool.not_eq_true',
      Bool.or_eq_false_iff] at h ⊢
    exact ⟨h.1.1.1.2, h.1.1.2⟩
  link h := by
    simp only [earlyPhase, StopPhase.others, Taken.after, Bool.or_false, Bool.not_eq_true',
      Bool.or_eq_false_iff] at h ⊢
    exact ⟨h, h.1.2⟩
  det h := by simpa [StopPhase.others, Taken.after] using h
  corr h := by simpa [StopPhase.others, Taken.after] using h
  cap _ := by simp [StopPhase.others, Taken.after]

theorem earlyPhase_others (o : StopOrder) :
    (Taken.after ⟨false, false, false, false⟩ (earlyPhase o)).after (earlyPhase o).others =
      ⟨true, true, true, true⟩ := by
  simp [Taken.after, StopPhase.others]

/-- The late phase of a stop that begins in `s`, the blocks of the early one having taken it. -/
theorem StopRun.late {Inv : Taken → State → Prop} (h : StopRun s k Inv) (ids : s.ledger.IdsSound)
    (view : (earlyPhase o).store = true → s.store.view = k.view)
    (start : Inv (Taken.after ⟨false, false, false, false⟩ (earlyPhase o)) s) (detectorFirst : Bool) :
    Inv ⟨true, true, true, true⟩ (s.stopBlocks k (earlyPhase o).others detectorFirst) := by
  have along : Along s k (Taken.after ⟨false, false, false, false⟩ (earlyPhase o)) s :=
    ⟨.refl s, ids, fun h => h, fun _ => rfl, fun taken => view (by simpa [Taken.after] using taken)⟩
  rw [← earlyPhase_others o]
  exact (h.stopBlocks (othersPhase_may o) detectorFirst along start).2

/-- A stop of `s` within which no reader takes anything, `act` being the events that come with it. -/
structure QuietStop (s : State) (k : Stop) (o : StopOrder) (act : State → State) : Prop where
  ids : s.ledger.IdsSound
  linked : s.ledger.Linked
  acts : Frame [.cfe, .rms, .agg] (s.stopBlocks k (earlyPhase o) o.detectorFirst)
    (act (s.stopBlocks k (earlyPhase o) o.detectorFirst))
  settles : ∀ u, Settles u (act u)
  idle : s.ctl.state = .run → (act (s.stopBlocks k (earlyPhase o) o.detectorFirst)).nothingWaits

theorem QuietStop.now (quiet : QuietStop s k o act) : (s.takeStop k o failed act).now = s.now := by
  have acted := (s.stopBlocks_frame k (earlyPhase o) o.detectorFirst).steady.trans quiet.acts.steady
  have read := acted.trans (State.when_frame _ (s.ctl.state == .run) fun st =>
    st.readersTake_frame k o failed).steady
  have late (u : State) := State.now_of_steady
    (u.stopBlocks_frame k (earlyPhase o).others o.detectorFirst).steady
  exact (late _).trans (State.now_of_steady read)

/-- A stop within which no reader takes anything: what holds at its start and is kept by every step
holds at its end, each block having taken it (log entry 3). -/
theorem StopRun.takeStop {Inv : Taken → State → Prop} (h : StopRun s k Inv) (quiet : QuietStop s k o act)
    (start : Inv ⟨false, false, false, false⟩ s) :
    Inv ⟨true, true, true, true⟩ (s.takeStop k o failed act) := by
  obtain ⟨ids, -, acts, settles, idle⟩ := quiet
  have first : Along s k ⟨false, false, false, false⟩ s := .first ids
  obtain ⟨early, inv⟩ := h.stopBlocks (earlyPhase_may o) o.detectorFirst first start
  let a := act (s.stopBlocks k (earlyPhase o) o.detectorFirst)
  have acted : Along s k _ a := early.step acts (settles _) (fun late => ⟨late, by decide⟩)
    fun taken => by
      rw [show a.store = _ from acts.only.1 .store (by decide)]
      exact early.view taken
  have inv' : Inv _ a := h.other _ _ _ (.of_frame acts (by decide) (.of_frame acts (by decide))) inv
  have still : (a.when (s.ctl.state == .run) fun st => st.readersTake k o failed) = a := by
    cases run : s.ctl.state == .run with
    | false => rfl
    | true => exact readersTake_of_nothingWaits (idle (beq_iff_eq.1 run)) k o failed
  obtain ⟨-, last⟩ := h.stopBlocks (othersPhase_may o) o.detectorFirst acted inv'
  rw [earlyPhase_others] at last
  have done : s.takeStop k o failed act = (a.stopBlocks k (earlyPhase o).others o.detectorFirst).withFree
      (s.free + 1) :=
    congrArg (fun x : State => (x.stopBlocks k (earlyPhase o).others o.detectorFirst).withFree (s.free + 1)) still
  rw [done]
  exact h.other _ (a.stopBlocks k (earlyPhase o).others o.detectorFirst) _ ⟨rfl, rfl, rfl, rfl, rfl⟩ last

/-! At the end of a stop. -/

/-- A record that waits for neither event nor context is CLOSED once no slot fills (R149). -/
theorem recordShut {r : Record} (waits : r.isOpen = true → s.closable r = false) (running : r.running = false)
    (anchor : r.anchorOpen = false) (still : ∀ j, ¬s.fills j) : r.isOpen = false := by
  have filling : s.slotFilling r = false := by
    unfold State.slotFilling
    cases r.wave with
    | present j offset => exact beq_eq_false_iff_ne.2 (still j)
    | absent why => rfl
  refine Bool.eq_false_iff.2 fun isOpen => ?_
  have stuck := waits isOpen
  unfold State.closable at stuck
  rw [running, anchor, filling] at stuck
  exact absurd stuck (by decide)

/-- With the detector in WATCH, every context closed and no slot filling, no record is OPEN (R149). -/
theorem recordsShut (waits : s.openRecordsWait) (reasons : s.flagsHaveReasons) (watch : s.det.mode = .watch)
    (shut : ∀ j : Fin 4, s.corr.slots[j] = none) (still : ∀ j, ¬s.fills j) {r : Record}
    (hr : r ∈ s.store.queue) : r.isOpen = false ∧ r.running = false ∧ r.anchorOpen = false := by
  obtain ⟨runs, anchors⟩ := reasons r hr
  have running : r.running = false := Bool.eq_false_iff.2 fun h => by
    obtain ⟨m, expiry, mode⟩ := runs h
    exact nomatch mode.symm.trans watch
  have anchor : r.anchorOpen = false := Bool.eq_false_iff.2 fun h => by
    obtain ⟨j, c, hc, -⟩ := anchors h
    exact nomatch hc.symm.trans (shut j)
  exact ⟨recordShut (waits r hr) running anchor still, running, anchor⟩

/-- So is a record made since `s`, whatever records `s` held (R149). -/
theorem newRecordShut (settles : Settles s u) (ids : s.ledger.IdsSound) (watch : u.det.mode = .watch)
    (shut : ∀ j : Fin 4, u.corr.slots[j] = none) (still : ∀ j, ¬u.fills j) {r : Record}
    (hr : r ∈ u.store.queue) (new : r.id = s.store.nextId) :
    r.isOpen = false ∧ r.running = false ∧ r.anchorOpen = false := by
  have mem : r.core ∈ u.ledger.queue := List.mem_map_of_mem hr
  have isNew : ∀ c ∈ s.ledger.queue, c.id ≠ s.store.nextId := fun _ hc => ids.fresh hc
  obtain ⟨-, waits⟩ := Ledger.Moves.keep (P := Ledger.Waits) (fun m hw h => m.waits hw h)
    (settles s.ledger.ids) ids fun c hc _ other => absurd (List.mem_map_of_mem hc) other
  obtain ⟨-, reasons⟩ := Ledger.Moves.keep (P := fun _ w => Ledger.ReasonsOf (· = s.store.nextId) w)
    (fun m hw h => m.reasonsOf hw h) (settles []) ids fun c hc is => absurd is (isNew c hc)
  obtain ⟨runs, anchors⟩ := reasons r.core mem new
  have running : r.running = false := Bool.eq_false_iff.2 fun h => by
    have event : u.det.mode.eventId = some r.core.id := runs h
    rw [watch] at event
    exact nomatch event
  have anchor : r.anchorOpen = false := Bool.eq_false_iff.2 fun h => by
    obtain ⟨j, l, hl, -⟩ := anchors h
    obtain ⟨c, hc, -⟩ := State.ledger_ctx_some hl
    exact nomatch hc.symm.trans (shut j)
  refine ⟨recordShut (fun isOpen => ?_) running anchor still, running, anchor⟩
  rw [← State.ledger_closable]
  refine waits r.core mem isOpen fun old => ?_
  obtain ⟨c, hc, same⟩ := List.mem_map.1 old
  exact isNew c hc (same.trans new)

end Sys2Proof.Machine
end


section
/-! What the blocks but the detector make of the records as they take a stop (R120, R138, R149). -/

namespace Sys2Proof.Machine

variable {s u v w : State} {k : Stop} {r x : Record}

/-! Records. -/

/-- What a record keeps of its event and its waveform part; ABORTED it stays, and CLOSED after the
station has left RUN it is ABORTED (R151). -/
structure Record.Stays (r x : Record) : Prop where
  id : x.id = r.id
  running : x.running = r.running
  cls : x.cls = r.cls
  halfCycles : x.halfCycles = r.halfCycles
  durationMs : x.durationMs = r.durationMs
  link : x.link = r.link
  measure : x.measure = r.measure
  onset : x.onset = r.onset
  wave : x.wave = r.wave
  upgraded : x.flags.upgraded = r.flags.upgraded
  unanchored : x.flags.unanchored = r.flags.unanchored
  aborted : r.flags.aborted = true → x.flags.aborted = true
  ends : r.isOpen = true ∨ r.flags.aborted = true → x.isOpen = true ∨ x.flags.aborted = true

theorem Record.Stays.refl (r : Record) : r.Stays r :=
  ⟨rfl, rfl, rfl, rfl, rfl, rfl, rfl, rfl, rfl, rfl, rfl, fun h => h, fun h => h⟩

theorem Record.Stays.trans {y : Record} (h : r.Stays x) (h' : x.Stays y) : r.Stays y :=
  ⟨h'.id.trans h.id, h'.running.trans h.running, h'.cls.trans h.cls, h'.halfCycles.trans h.halfCycles,
    h'.durationMs.trans h.durationMs, h'.link.trans h.link, h'.measure.trans h.measure,
    h'.onset.trans h.onset, h'.wave.trans h.wave, h'.upgraded.trans h.upgraded,
    h'.unanchored.trans h.unanchored, fun a => h'.aborted (h.aborted a), fun a => h'.ends (h.ends a)⟩

theorem closedRecord_stays {view : StationState} (stopped : view ≠ .run) (r : Record) :
    r.Stays (closedRecord view r) := by
  have aborted : (closedRecord view r).flags.aborted = true := by
    simp [closedRecord, stopped]
  exact ⟨rfl, rfl, rfl, rfl, rfl, rfl, rfl, rfl, rfl, rfl, rfl, fun _ => aborted, fun _ => .inr aborted⟩

theorem Record.unsentOr_stays (r : Record) (b : Bool) : r.Stays (r.unsentOr b) :=
  ⟨rfl, rfl, rfl, rfl, rfl, rfl, rfl, rfl, rfl, rfl, rfl, fun h => h, fun h => h⟩

theorem State.copyResults_stays (s : State) (c : Context) (blocks : Bool) (r : Record) :
    r.Stays (s.copyResults c blocks r) := by
  unfold State.copyResults
  cases blocks with
  | false => exact ⟨rfl, rfl, rfl, rfl, rfl, rfl, rfl, rfl, rfl, rfl, rfl, fun h => h, fun h => h⟩
  | true => cases c.own <;> exact ⟨rfl, rfl, rfl, rfl, rfl, rfl, rfl, rfl, rfl, rfl, rfl, fun h => h, fun h => h⟩

theorem State.earlyCopy_stays (s : State) (c : Context) (r : Record) : r.Stays (s.earlyCopy c r) := by
  unfold State.earlyCopy
  split
  · exact s.copyResults_stays c _ r
  · exact (s.copyResults_stays c false r).trans
      ⟨rfl, rfl, rfl, rfl, rfl, rfl, rfl, rfl, rfl, rfl, rfl, fun _ => rfl, fun _ => .inr rfl⟩

theorem Record.unlinked_stays (r : Record) : r.Stays { r with anchorOpen := false } :=
  ⟨rfl, rfl, rfl, rfl, rfl, rfl, rfl, rfl, rfl, rfl, rfl, fun h => h, fun h => h⟩

/-! States. -/

/-- The records are rewritten in place, none is made, nothing goes to the tally, and RECORD_CLOSED is
raised at most. -/
structure Reworked (u v : State) : Prop where
  queue : ∃ g : Record → Record, v.store.queue = u.store.queue.map g ∧ ∀ r : Record, r.Stays (g r)
  nextId : v.store.nextId = u.store.nextId
  tally : v.store.tally = u.store.tally
  full : v.ctl.causes[(9 : Fin 13)] = u.ctl.causes[(9 : Fin 13)]
  closed : u.ctl.causes[(8 : Fin 13)] = ⟨true, 0, false⟩ → v.ctl.causes[(8 : Fin 13)] = ⟨true, 0, false⟩

theorem Reworked.stays (h : Reworked u v) : ∀ r ∈ u.store.queue, ∃ x ∈ v.store.queue, r.Stays x := by
  obtain ⟨g, queue, stays⟩ := h.queue
  exact fun r hr => ⟨g r, queue ▸ List.mem_map_of_mem hr, stays r⟩

theorem Reworked.length (h : Reworked u v) : v.store.queue.length = u.store.queue.length := by
  obtain ⟨g, queue, -⟩ := h.queue
  rw [queue, List.length_map]

theorem Record.Stays.same (q : List Record) : ∃ g : Record → Record, q = q.map g ∧ ∀ r : Record, r.Stays (g r) :=
  ⟨fun r => r, (List.map_id' q).symm, Record.Stays.refl⟩

theorem Reworked.refl (u : State) : Reworked u u := ⟨Record.Stays.same _, rfl, rfl, rfl, fun h => h⟩

theorem Reworked.trans (h : Reworked u v) (h' : Reworked v w) : Reworked u w := by
  obtain ⟨g, queue, stays⟩ := h.queue
  obtain ⟨g', queue', stays'⟩ := h'.queue
  refine ⟨⟨g' ∘ g, ?_, fun r => (stays r).trans (stays' (g r))⟩, h'.nextId.trans h.nextId,
    h'.tally.trans h.tally, h'.full.trans h.full, fun c => h'.closed (h.closed c)⟩
  rw [queue', queue, List.map_map]

/-- A step that leaves the store and the two causes. -/
theorem Reworked.of_same (store : v.store = u.store)
    (full : v.ctl.causes[(9 : Fin 13)] = u.ctl.causes[(9 : Fin 13)])
    (closed : v.ctl.causes[(8 : Fin 13)] = u.ctl.causes[(8 : Fin 13)]) : Reworked u v := by
  refine ⟨?_, ?_, ?_, full, fun h => closed.trans h⟩
  · rw [store]
    exact Record.Stays.same _
  · rw [store]
  · rw [store]

theorem Unseen.reworked (h : Unseen u v) : Reworked u v := .of_same h.store h.full h.closed

theorem State.editRecord_reworked (u : State) (id : Nat) {f : Record → Record}
    (stays : ∀ r : Record, r.Stays (f r)) : Reworked u (u.editRecord id f) := by
  refine ⟨⟨_, rfl, fun r => ?_⟩, rfl, rfl, rfl, fun h => h⟩
  split
  · exact stays r
  · exact .refl r

theorem State.judge_reworked (stopped : u.store.view ≠ .run) (id : Nat) : Reworked u (u.judge id) := by
  rcases u.judge_cases id with e | ⟨r, -, -, -, e⟩
  · rw [e]
    exact .refl u
  · rw [e]
    refine (u.editRecord_reworked id (closedRecord_stays stopped)).trans
      ⟨Record.Stays.same _, rfl, rfl, ?_, fun _ => State.raise_causes _ .recordClosed 0 8⟩
    exact State.raise_causes _ .recordClosed 0 9

theorem State.judge_storeView (u : State) (id : Nat) : (u.judge id).store.view = u.store.view :=
  (congrArg RecordStore.view (u.judge_rewrites id).store).trans rfl

/-- Steps one after the other, each in a state that the store holds stopped. -/
theorem Reworked.foldl {α : Type} {f : State → α → State}
    (h : ∀ u a, u.store.view ≠ .run → Reworked u (f u a) ∧ (f u a).store.view = u.store.view)
    (l : List α) (stopped : u.store.view ≠ .run) : Reworked u (l.foldl f u) := by
  induction l generalizing u with
  | nil => exact .refl u
  | cons a l ih =>
    obtain ⟨first, view⟩ := h u a stopped
    exact first.trans (ih (by rwa [view]))

theorem State.stopFill_reworked (stopped : u.store.view ≠ .run) : Reworked u u.stopFill := by
  unfold State.stopFill
  split
  · exact .refl u
  · next j _ =>
    have held : Reworked u (u.setSlot j { u.cap.slots[j] with state := .held }) := .of_same rfl rfl rfl
    exact held.trans (.foldl (fun w id hw => ⟨State.judge_reworked hw id, w.judge_storeView id⟩) _ stopped)

theorem State.capStops_reworked (stopped : u.store.view ≠ .run) (k : Stop) : Reworked u (u.capStops k) := by
  have told (view : StationState) : Reworked u (u.withCap { u.cap with view := view }).stopFill :=
    Reworked.trans (v := u.withCap { u.cap with view := view }) (.of_same rfl rfl rfl)
      (State.stopFill_reworked stopped)
  cases k with
  | halt => exact told .halted
  | restart low tableFirst => exact (told .config).trans (.of_same rfl rfl rfl)

theorem State.earlyClose_reworked (stopped : u.store.view ≠ .run) (j : Fin 4) :
    Reworked u (u.earlyClose j) ∧ (u.earlyClose j).store.view = u.store.view := by
  have freed (w : State) (stopped : w.store.view ≠ .run) (id : Nat) :
      Reworked w (w.freeContext j id) ∧ (w.freeContext j id).store.view = w.store.view := by
    unfold State.freeContext
    dsimp only
    split
    · exact ⟨.of_same rfl rfl rfl, rfl⟩
    · have cleared : Reworked w (w.setContext j none) := .of_same rfl rfl rfl
      exact ⟨(cleared.trans (State.editRecord_reworked _ id Record.unlinked_stays)).trans
        (State.judge_reworked (by exact stopped) id), State.judge_storeView _ id⟩
  unfold State.earlyClose
  split
  · exact ⟨.refl u, rfl⟩
  · next c _ =>
    dsimp only
    split
    · exact freed u stopped c.linked
    · have copied := u.editRecord_reworked c.linked (u.earlyCopy_stays c)
      obtain ⟨rest, view⟩ := freed (u.editRecord c.linked (u.earlyCopy c)) stopped c.linked
      exact ⟨copied.trans rest, view⟩

theorem State.linkClearsPeers_reworked (u : State) : Reworked u u.linkClearsPeers := .of_same rfl rfl rfl

theorem State.corrStops_store (u : State) (k : Stop) :
    (u.corrStops k).store = (u.corrTakesStop k.view).store := by
  unfold State.corrStops
  generalize u.corrTakesStop k.view = w
  match k with
  | .halt => rfl
  | .restart _ true => rfl
  | .restart _ false => rfl

theorem State.capStops_store (u : State) (k : Stop) :
    ∃ view, (u.capStops k).store = (u.withCap { u.cap with view := view }).stopFill.store := by
  cases k <;> exact ⟨_, rfl⟩

theorem State.corrStops_reworked (stopped : u.store.view ≠ .run) (k : Stop) : Reworked u (u.corrStops k) := by
  have told : Reworked u (u.corrTakesStop k.view) := by
    refine Reworked.trans (v := u.withCorr { u.corr with view := k.view }) (.of_same rfl rfl rfl) ?_
    exact Reworked.foldl (f := State.earlyClose) (fun w j hw => State.earlyClose_reworked hw j) _ stopped
  match k, told with
  | .halt, told => exact told
  | .restart _ true, told => exact told.trans (State.linkClearsPeers_reworked _)
  | .restart _ false, told => exact told

theorem State.linkStops_store (u : State) (k : Stop) : (u.linkStops k).store = u.reportQueue.store := by
  match k with
  | .halt => rfl
  | .restart _ tableFirst => cases tableFirst <;> rfl

theorem State.linkStops_reworked (u : State) (k : Stop) : Reworked u (u.linkStops k) := by
  have ctl : (u.linkStops k).ctl = u.ctl := (u.linkStops_frame k).only.1 .ctl (by decide)
  have store := (u.linkStops_store k).trans u.reportQueue_store
  refine ⟨?_, ?_, ?_, by rw [ctl], fun h => by rwa [ctl]⟩
  · rw [store]
    exact ⟨_, rfl, fun r => r.unsentOr_stays _⟩
  · rw [store]
  · rw [store]

theorem State.storeTakes_reworked (u : State) (view : StationState) : Reworked u (u.storeTakes view) :=
  ⟨Record.Stays.same _, rfl, rfl, rfl, fun h => h⟩

/-- What rests on the detector's stop alone, the other blocks rewriting records at most. -/
theorem StopRun.of_reworked {Inv : Bool → State → Prop}
    (keep : ∀ b u v, Reworked u v → Inv b u → Inv b v)
    (det : ∀ t u, t.store = true → t.det = false → Along s k t u → Inv false u → Inv true u.detTakesStop) :
    StopRun s k fun t u => Inv t.det u where
  store _ u _ _ _ h := keep _ _ _ (u.storeTakes_reworked k.view) h
  link _ u _ _ _ h := keep _ _ _ (u.linkStops_reworked k) h
  det t u stored late along h := det t u stored late along (by rwa [← late])
  corr _ _ stored _ _ along h :=
    keep _ _ _ (State.corrStops_reworked (by rw [along.view stored]; exact k.view_ne_run) k) h
  cap _ _ stored along h :=
    keep _ _ _ (State.capStops_reworked (by rw [along.view stored]; exact k.view_ne_run) k) h
  other _ _ _ unseen h := keep _ _ _ unseen.reworked h

end Sys2Proof.Machine
end


section
/-! What RESTART or HALT makes of the event in progress, a held period and the OPEN records (R63, R64,
R151). -/

namespace Sys2Proof.Machine

variable {s u v : State} {k : Stop} {o : StopOrder} {failed : Option (Fin 9)} {act : State → State}
  {m : Measurement} {id : Nat} {expiry : Ms} {r : Record}

/-! The detector's stop. -/

theorem State.detTakesStop_watch (mode : u.det.mode = .watch) : u.detTakesStop = u.toWatch := by
  unfold State.detTakesStop
  rw [mode]

theorem State.detTakesStop_event (mode : u.det.mode = .event m id expiry) : u.detTakesStop =
    (u.finishEvent m id m.halves (u.now - m.time).toNat false true).toWatch := by
  unfold State.detTakesStop
  rw [mode]

theorem State.detTakesStop_held (mode : u.det.mode = .held m id) : u.detTakesStop = (if u.hasRoom then
      (u.addRecord (continuationRecord m id m.halves (u.now - m.time).toNat true) u.now).judge u.store.nextId
    else u.handToTally .continuation m.measure.residual m.measure.maximum
      (saturate32 (u.now - m.time).toNat)).toWatch := by
  unfold State.detTakesStop
  rw [mode]

theorem State.finishEvent_recorded (recorded : id ≠ 0) (halves ms : Nat) (ongoing aborted : Bool) :
    u.finishEvent m id halves ms ongoing aborted =
      (u.editRecord id (Record.finished m halves ms ongoing aborted)).judge id := if_neg recorded

theorem State.addRecord_storeView (u : State) (r : Record) (t : Ms) :
    (u.addRecord r t).store.view = u.store.view := by
  rw [State.addRecord_store]

/-- A record OPEN or ABORTED at the detector's stop is so after it. -/
theorem State.detTakesStop_ends (stopped : u.store.view ≠ .run) (hr : r ∈ u.store.queue)
    (ends : r.isOpen = true ∨ r.flags.aborted = true) :
    ∃ x ∈ u.detTakesStop.store.queue, x.id = r.id ∧ (x.isOpen = true ∨ x.flags.aborted = true) := by
  cases mode : u.det.mode with
  | watch =>
    rw [State.detTakesStop_watch mode]
    exact ⟨r, hr, rfl, ends⟩
  | event m id expiry =>
    rw [State.detTakesStop_event mode]
    by_cases recorded : id = 0
    · subst recorded
      exact ⟨r, hr, rfl, ends⟩
    · rw [State.finishEvent_recorded recorded]
      obtain ⟨x, hx, stays⟩ := (State.judge_reworked
        (u := u.editRecord id (Record.finished m m.halves (u.now - m.time).toNat false true)) stopped id).stays
        _ (List.mem_map_of_mem hr)
      refine ⟨x, hx, stays.id.trans ?_, stays.ends ?_⟩
      · split <;> rfl
      · split
        · exact ends.imp_right fun h => by simp [Record.finished, h]
        · exact ends
  | held m id =>
    rw [State.detTakesStop_held mode]
    split
    · obtain ⟨x, hx, stays⟩ := (State.judge_reworked
        (u := u.addRecord (continuationRecord m id m.halves (u.now - m.time).toNat true) u.now)
        (by rwa [State.addRecord_storeView]) u.store.nextId).stays r
        (by rw [State.addRecord_queue]; exact List.mem_append_left _ hr)
      exact ⟨x, hx, stays.id, stays.ends ends⟩
    · exact ⟨r, hr, rfl, ends⟩

/-- The record of the event is finished ABORTED (R63). -/
theorem State.detTakesStop_finished (stopped : u.store.view ≠ .run) (mode : u.det.mode = .event m id expiry)
    (recorded : id ≠ 0) (hr : r ∈ u.store.queue) (hid : r.id = id) :
    ∃ x ∈ u.detTakesStop.store.queue,
      (r.finished m m.halves (u.now - m.time).toNat false true).Stays x := by
  rw [State.detTakesStop_event mode, State.finishEvent_recorded recorded]
  refine (State.judge_reworked (by exact stopped) id).stays _ ?_
  refine List.mem_map.2 ⟨r, hr, if_pos hid⟩

/-- The CONTINUATION that a held period makes (R64). -/
theorem State.detTakesStop_continues (stopped : u.store.view ≠ .run) (ids : u.ledger.IdsSound)
    (mode : u.det.mode = .held m id) (room : u.store.queue.length < 48) :
    (∃ x ∈ u.detTakesStop.store.queue,
      (u.made (continuationRecord m id m.halves (u.now - m.time).toNat true) u.now).Stays x) ∧
    u.detTakesStop.ctl.causes[(8 : Fin 13)] = ⟨true, 0, false⟩ ∧
    u.detTakesStop.ctl.causes[(9 : Fin 13)] =
      if u.store.queue.length = 47 then ⟨true, 0, false⟩ else u.ctl.causes[(9 : Fin 13)] := by
  have hasRoom : u.hasRoom = true := decide_eq_true room
  let c := continuationRecord m id m.halves (u.now - m.time).toNat true
  let w := u.addRecord c u.now
  have made : u.made c u.now ∈ w.store.queue := by
    rw [State.addRecord_queue]
    exact List.mem_append_right _ (List.mem_singleton_self _)
  have judged := State.judge_reworked (u := w) (by rwa [State.addRecord_storeView]) u.store.nextId
  rw [State.detTakesStop_held mode, if_pos hasRoom]
  refine ⟨judged.stays _ made, ?_, judged.full.trans (u.addRecord_storeFull c u.now)⟩
  exact State.judge_recordClosed (State.idsUnique_of_sound (State.addRecord_idsSound ids hasRoom c u.now))
    made rfl rfl

/-! The whole stop. -/

/-- An OPEN record comes out ABORTED (R151). -/
theorem takeStop_ends (quiet : QuietStop s k o act) (hr : r ∈ s.store.queue) (isOpen : r.isOpen = true) :
    ∃ x ∈ (s.takeStop k o failed act).store.queue, x.id = r.id ∧
      (x.isOpen = true ∨ x.flags.aborted = true) := by
  have run : StopRun s k fun _ u => ∃ x ∈ u.store.queue, x.id = r.id ∧
      (x.isOpen = true ∨ x.flags.aborted = true) :=
    .of_reworked (Inv := fun _ u => ∃ x ∈ u.store.queue, x.id = r.id ∧
        (x.isOpen = true ∨ x.flags.aborted = true))
      (fun _ u v reworked ⟨x, hx, hid, ends⟩ => by
        obtain ⟨y, hy, stays⟩ := reworked.stays x hx
        exact ⟨y, hy, stays.id.trans hid, stays.ends ends⟩)
      fun t u stored _ along ⟨x, hx, hid, ends⟩ => by
        obtain ⟨y, hy, same, ends'⟩ := State.detTakesStop_ends
          (by rw [along.view stored]; exact k.view_ne_run) hx ends
        exact ⟨y, hy, same.trans hid, ends'⟩
  exact run.takeStop quiet ⟨r, hr, rfl, .inl isOpen⟩

/-- The event's record, and what the detector's stop makes of it (R63). -/
theorem finishes_run (mode : s.det.mode = .event m id expiry) (recorded : id ≠ 0) :
    StopRun s k fun t u => ∃ x ∈ u.store.queue, x.id = id ∧ (t.det = true → x.flags.aborted = true ∧
      x.cls = m.cls ∧ x.halfCycles = m.halves ∧ x.durationMs = saturate32 (s.now - m.time).toNat) := by
  refine .of_reworked (Inv := fun b u => ∃ x ∈ u.store.queue, x.id = id ∧ (b = true →
      x.flags.aborted = true ∧ x.cls = m.cls ∧ x.halfCycles = m.halves ∧
      x.durationMs = saturate32 (s.now - m.time).toNat)) (fun b u v reworked ⟨x, hx, hid, done⟩ => ?_)
    fun t u stored late along ⟨x, hx, hid, _⟩ => ?_
  · obtain ⟨y, hy, stays⟩ := reworked.stays x hx
    refine ⟨y, hy, stays.id.trans hid, fun hb => ?_⟩
    obtain ⟨aborted, cls, halves, ms⟩ := done hb
    exact ⟨stays.aborted aborted, stays.cls.trans cls, stays.halfCycles.trans halves,
      stays.durationMs.trans ms⟩
  · have mode' : u.det.mode = .event m id expiry := by rw [along.det late, mode]
    obtain ⟨y, hy, stays⟩ := State.detTakesStop_finished
      (by rw [along.view stored]; exact k.view_ne_run) mode' recorded hx hid
    refine ⟨y, hy, stays.id.trans hid, fun _ => ⟨stays.aborted (Bool.or_true _), stays.cls,
      stays.halfCycles, stays.durationMs.trans ?_⟩⟩
    exact congrArg (fun n : Ms => saturate32 (n - m.time).toNat) (State.now_of_steady along.steady)

/-- The event's record after the stop. -/
theorem takeStop_finished (quiet : QuietStop s k o act) (mode : s.det.mode = .event m id expiry)
    (recorded : id ≠ 0) (hr : r ∈ s.store.queue) (hid : r.id = id) :
    ∃ x ∈ (s.takeStop k o failed act).store.queue, x.id = id ∧ x.flags.aborted = true ∧ x.cls = m.cls ∧
      x.halfCycles = m.halves ∧ x.durationMs = saturate32 (s.now - m.time).toNat := by
  obtain ⟨x, hx, same, done⟩ := (finishes_run mode recorded).takeStop (failed := failed) quiet
    ⟨r, hr, hid, fun h => nomatch h⟩
  exact ⟨x, hx, same, done rfl⟩

/-- What goes to the tally at the detector's stop: an event without a record, or a held period at a
full store (R63, R64, R147). -/
theorem takeStop_tallied (quiet : QuietStop s k o act) {cls : RecordClass} {residual maximum : Nat} {time : Ms}
    (counts : ∀ u : State, u.det = s.det → u.store.queue.length = s.store.queue.length → u.detTakesStop =
      (u.handToTally cls residual maximum (saturate32 (u.now - time).toNat)).toWatch) :
    (s.takeStop k o failed act).store.queue.length = s.store.queue.length ∧
    (s.takeStop k o failed act).store.tally[cls.index] =
      s.store.tally[cls.index].add residual maximum (saturate32 (s.now - time).toNat) := by
  let Inv (b : Bool) (u : State) : Prop := u.store.queue.length = s.store.queue.length ∧
    u.store.tally[cls.index] = if b then
      s.store.tally[cls.index].add residual maximum (saturate32 (s.now - time).toNat)
      else s.store.tally[cls.index]
  have run : StopRun s k fun t u => Inv t.det u :=
    .of_reworked (fun b u v reworked ⟨length, tally⟩ => ⟨reworked.length.trans length, by
        rw [reworked.tally]
        exact tally⟩)
      fun t u stored late along ⟨length, tally⟩ => by
        rw [counts u (along.det late) length]
        refine ⟨length, ?_⟩
        rw [if_neg (by simp)] at tally
        rw [if_pos rfl, ← State.now_of_steady along.steady, ← tally]
        exact Vector.getElem_set_self _
  exact run.takeStop quiet ⟨rfl, (if_neg (by simp)).symm⟩

/-- The CONTINUATION after the stop. -/
theorem takeStop_continues (quiet : QuietStop s k o act) (mode : s.det.mode = .held m id)
    (room : s.store.queue.length < 48) :
    (∃ x ∈ (s.takeStop k o failed act).store.queue,
      (continuationRecord m id m.halves (s.now - m.time).toNat true).Stays { x with id := 0 } ∧
        x.id = s.store.nextId) ∧
    (s.takeStop k o failed act).ctl.causes[(8 : Fin 13)] = ⟨true, 0, false⟩ ∧
    (s.takeStop k o failed act).ctl.causes[(9 : Fin 13)] =
      if s.store.queue.length = 47 then ⟨true, 0, false⟩ else s.ctl.causes[(9 : Fin 13)] := by
  let Inv (b : Bool) (u : State) : Prop := match b with
    | false => u.store.nextId = s.store.nextId ∧ u.store.queue.length = s.store.queue.length ∧
        u.ctl.causes[(9 : Fin 13)] = s.ctl.causes[(9 : Fin 13)]
    | true => (∃ x ∈ u.store.queue,
        (continuationRecord m id m.halves (s.now - m.time).toNat true).Stays { x with id := 0 } ∧
          x.id = s.store.nextId) ∧
      u.ctl.causes[(8 : Fin 13)] = ⟨true, 0, false⟩ ∧
      u.ctl.causes[(9 : Fin 13)] =
        if s.store.queue.length = 47 then ⟨true, 0, false⟩ else s.ctl.causes[(9 : Fin 13)]
  have run : StopRun s k fun t u => Inv t.det u := by
    refine .of_reworked (fun b u v reworked inv => ?_) fun t u stored late along inv => ?_
    · cases b with
      | false =>
        obtain ⟨nextId, length, full⟩ := inv
        exact ⟨reworked.nextId.trans nextId, reworked.length.trans length, reworked.full.trans full⟩
      | true =>
        obtain ⟨⟨x, hx, made, hid⟩, closed, full⟩ := inv
        obtain ⟨y, hy, stays⟩ := reworked.stays x hx
        refine ⟨⟨y, hy, made.trans { stays with id := rfl }, stays.id.trans hid⟩, reworked.closed closed,
          reworked.full.trans full⟩
    · obtain ⟨nextId, length, full⟩ := inv
      have mode' : u.det.mode = .held m id := by rw [along.det late, mode]
      have now : u.now = s.now := State.now_of_steady along.steady
      obtain ⟨⟨x, hx, stays⟩, closed, full'⟩ := State.detTakesStop_continues
        (by rw [along.view stored]; exact k.view_ne_run) along.ids mode' (length ▸ room)
      rw [length, full] at full'
      rw [now] at stays
      exact ⟨⟨x, hx, { stays with id := rfl }, stays.id.trans nextId⟩, closed, full'⟩
  exact run.takeStop quiet ⟨rfl, rfl, rfl⟩

end Sys2Proof.Machine
end


section
/-! RESTART and HALT abort what is in progress (R63, R64, R138, R151). -/

namespace Sys2Proof.Machine

variable {s u v w : State} {k : Stop} {o : StopOrder} {failed : Option (Fin 9)} {act : State → State}
  {r x : Record} {c : Context} {j : Fin 4}

theorem takeStop_aborts (quiet : QuietStop s k o act)
    (watch : (s.takeStop k o failed act).det.mode = .watch)
    (cond : ∀ j : Fin 3, (s.takeStop k o failed act).det.cond[j] = .back)
    (shut : ∀ r ∈ (s.takeStop k o failed act).store.queue,
      r.isOpen = false ∧ r.running = false ∧ r.anchorOpen = false) :
    abortsInto s (s.takeStop k o failed act) := by
  have now := quiet.now (failed := failed)
  refine ⟨watch, cond, fun r hr isOpen => ?_, fun m id expiry mode => ⟨fun recorded r hr hid => ?_,
    fun unrecorded => ?_⟩, fun m id mode => ⟨fun room => ?_, fun full => ?_⟩⟩
  · obtain ⟨x, hx, hid, ends⟩ := takeStop_ends (failed := failed) quiet hr isOpen
    obtain ⟨closed, running, anchor⟩ := shut x hx
    exact ⟨x, hx, hid, closed, ends.resolve_left (by simp [closed]), running, anchor⟩
  · rw [now]
    exact takeStop_finished quiet mode recorded hr hid
  · subst unrecorded
    rw [now]
    exact takeStop_tallied quiet (cls := m.cls) fun u det _ =>
      State.detTakesStop_event (by rw [det]; exact mode)
  · obtain ⟨⟨x, hx, made, hid⟩, closed, full⟩ := takeStop_continues (failed := failed) quiet mode room
    rw [now]
    exact ⟨x, hx, hid, made.cls, made.link, (shut x hx).1, made.aborted rfl, made.wave,
      congrArg (fun e => e.dmin) made.measure, congrArg (fun e => e.dmax) made.measure, made.onset,
      made.halfCycles, made.durationMs, closed, full⟩
  · rw [now]
    refine takeStop_tallied quiet (cls := .continuation) fun u det length => ?_
    have noRoom : u.hasRoom = false := decide_eq_false (by rw [length]; exact not_lt.2 full)
    rw [State.detTakesStop_held (by rw [det]; exact mode), noRoom]
    rfl

end Sys2Proof.Machine
end


section
/-! What the early close of a context makes of its linked record, whatever the order of the blocks
(R120, R132, R138, R139; log entry 3). -/

namespace Sys2Proof.Machine

variable {s u v w : State} {k : Stop} {o : StopOrder} {failed : Option (Fin 9)} {act : State → State}
  {r x y : Record} {c d : Context} {i j : Fin 4}

/-! The results that a record holds. -/

/-- The record keeps the results of its context, its anchor and UNSENT; ABORTED it stays. -/
structure Record.SameResults (r x : Record) : Prop where
  id : x.id = r.id
  peers : x.peers = r.peers
  anchorOpen : x.anchorOpen = r.anchorOpen
  verdict : x.verdict = r.verdict
  locus : x.locus = r.locus
  unsent : x.flags.unsent = r.flags.unsent
  preDisturbed : x.flags.preDisturbed = r.flags.preDisturbed
  aborted : r.flags.aborted = true → x.flags.aborted = true

theorem Record.SameResults.refl (r : Record) : r.SameResults r :=
  ⟨rfl, rfl, rfl, rfl, rfl, rfl, rfl, fun h => h⟩

theorem Record.SameResults.trans (h : r.SameResults x) (h' : x.SameResults y) : r.SameResults y :=
  ⟨h'.id.trans h.id, h'.peers.trans h.peers, h'.anchorOpen.trans h.anchorOpen,
    h'.verdict.trans h.verdict, h'.locus.trans h.locus, h'.unsent.trans h.unsent,
    h'.preDisturbed.trans h.preDisturbed, fun a => h'.aborted (h.aborted a)⟩

theorem closedRecord_results (view : StationState) (r : Record) : r.SameResults (closedRecord view r) :=
  ⟨rfl, rfl, rfl, rfl, rfl, rfl, rfl, fun h => by simp [closedRecord, h]⟩

theorem Record.finished_results (m : Measurement) (halves ms : Nat) (ongoing aborted : Bool) (r : Record) :
    r.SameResults (r.finished m halves ms ongoing aborted) :=
  ⟨rfl, rfl, rfl, rfl, rfl, rfl, rfl, fun h => by simp [Record.finished, h]⟩

theorem State.judge_results (hx : x ∈ u.store.queue) (id : Nat) :
    ∃ y ∈ (u.judge id).store.queue, x.SameResults y := by
  rcases u.judge_cases id with e | ⟨r, -, -, -, e⟩
  · rw [e]
    exact ⟨x, hx, .refl x⟩
  · rw [e]
    refine ⟨_, List.mem_map_of_mem hx, ?_⟩
    split
    · exact closedRecord_results _ x
    · exact .refl x

theorem State.stopFill_results (hx : x ∈ u.store.queue) :
    ∃ y ∈ u.stopFill.store.queue, x.SameResults y := by
  have each (l : List Nat) (w : State) (x : Record) (hx : x ∈ w.store.queue) :
      ∃ y ∈ (w.judgeAll l).store.queue, x.SameResults y := by
    induction l generalizing w x with
    | nil => exact ⟨x, hx, .refl x⟩
    | cons id l ih =>
      obtain ⟨y, hy, same⟩ := State.judge_results hx id
      obtain ⟨z, hz, same'⟩ := ih (w.judge id) y hy
      exact ⟨z, hz, same.trans same'⟩
  unfold State.stopFill
  split
  · exact ⟨x, hx, .refl x⟩
  · exact each _ _ x hx

theorem State.detTakesStop_results (hx : x ∈ u.store.queue) :
    ∃ y ∈ u.detTakesStop.store.queue, x.SameResults y := by
  cases mode : u.det.mode with
  | watch =>
    rw [State.detTakesStop_watch mode]
    exact ⟨x, hx, .refl x⟩
  | event m id expiry =>
    rw [State.detTakesStop_event mode]
    by_cases recorded : id = 0
    · subst recorded
      exact ⟨x, hx, .refl x⟩
    · rw [State.finishEvent_recorded recorded]
      obtain ⟨y, hy, same⟩ := State.judge_results
        (u := u.editRecord id (Record.finished m m.halves (u.now - m.time).toNat false true))
        (List.mem_map_of_mem hx) id
      refine ⟨y, hy, Record.SameResults.trans ?_ same⟩
      split
      · exact Record.finished_results m _ _ _ _ x
      · exact .refl x
  | held m id =>
    rw [State.detTakesStop_held mode]
    split
    · exact State.judge_results (u := u.addRecord _ _)
        (by rw [State.addRecord_queue]; exact List.mem_append_left _ hx) _
    · exact ⟨x, hx, .refl x⟩

/-! A record whose anchor is open waits for its context: no other block closes it (R149). -/

theorem State.judged_anchored (anchor : x.anchorOpen = true) (l : List Nat) : u.judged l x = x := by
  have stays : u.closable x = false := by
    unfold State.closable
    rw [anchor]
    cases x.running <;> rfl
  unfold State.judged
  rw [stays, Bool.and_false]
  rfl

theorem State.judge_anchored (unique : u.IdsUnique) (hx : x ∈ u.store.queue)
    (anchor : x.anchorOpen = true) (id : Nat) : x ∈ (u.judge id).store.queue := by
  rw [State.judge_queue unique]
  exact List.mem_map.2 ⟨x, hx, State.judged_anchored anchor _⟩

theorem State.stopFill_anchored (unique : u.IdsUnique) (hx : x ∈ u.store.queue)
    (anchor : x.anchorOpen = true) : x ∈ u.stopFill.store.queue := by
  rw [State.stopFill_queue unique]
  refine List.mem_map.2 ⟨x, hx, if_neg ?_⟩
  rw [anchor]
  simp

/-- The detector's stop finishes its own record at most. -/
theorem State.detTakesStop_anchored (ids : u.ledger.IdsSound) (hx : x ∈ u.store.queue)
    (anchor : x.anchorOpen = true) : ∃ y ∈ u.detTakesStop.store.queue, y = x ∨
      ∃ m expiry halves ms, u.det.mode = .event m x.id expiry ∧ y = x.finished m halves ms false true := by
  have unique := State.idsUnique_of_sound ids
  cases mode : u.det.mode with
  | watch =>
    rw [State.detTakesStop_watch mode]
    exact ⟨x, hx, .inl rfl⟩
  | event m id expiry =>
    rw [State.detTakesStop_event mode]
    by_cases recorded : id = 0
    · subst recorded
      exact ⟨x, hx, .inl rfl⟩
    · rw [State.finishEvent_recorded recorded]
      let f := Record.finished m m.halves (u.now - m.time).toNat false true
      have unique' : (u.editRecord id f).IdsUnique := unique.map rfl fun y => by
        split <;> rfl
      by_cases own : x.id = id
      · subst own
        exact ⟨f x, State.judge_anchored unique' (List.mem_map.2 ⟨x, hx, if_pos rfl⟩) anchor _,
          .inr ⟨m, expiry, _, _, rfl, rfl⟩⟩
      · exact ⟨x, State.judge_anchored unique' (List.mem_map.2 ⟨x, hx, if_neg own⟩) anchor _, .inl rfl⟩
  | held m id =>
    rw [State.detTakesStop_held mode]
    split
    · next room =>
      refine ⟨x, State.judge_anchored (State.idsUnique_of_sound
        (State.addRecord_idsSound ids room _ _)) ?_ anchor _, .inl rfl⟩
      rw [State.addRecord_queue]
      exact List.mem_append_left _ hx
    · exact ⟨x, hx, .inl rfl⟩

/-! The linked record before and after the correlation unit's stop. -/

/-- The record after the early close of the context `c`, linked to it in `s` as `r` (R138). -/
def Record.ClosedWith (s : State) (c : Context) (r x : Record) : Prop :=
  x.id = r.id ∧ x.peers = c.peers ∧ x.anchorOpen = false ∧
  (x.flags.unsent = true ↔ r.flags.unsent = true ∨ c.unsent = true ∨
    s.verdictQueued fun v => v.edge = c.edge ∨ v.recordId ≠ 0 ∧ v.recordId = r.id) ∧
  (c.own = none → x.flags.aborted = true ∧ x.verdict = r.verdict ∧ x.locus = r.locus) ∧
  (∀ o, c.own = some o →
    let copied := x.verdict = some ⟨o.verdict, o.k, o.dU, o.dI⟩ ∧
      x.flags.preDisturbed = o.preDisturbed ∧
      ∃ l, x.locus = some l ∧
        (l.kind, l.level, l.addr, l.ambiguous) = locusOf (reporters s.ctl.straps c) ∧
        l.reporters = 1 + c.peers.length
    let kept := x.verdict = r.verdict ∧ x.locus = r.locus
    (r.flags.aborted = true → kept) ∧
    (r.flags.aborted = false → (∀ m expiry, s.det.mode ≠ .event m r.id expiry) → copied) ∧
    (r.flags.aborted = false → copied ∨ kept))

theorem Record.ClosedWith.of_same (h : Record.ClosedWith s c r x) (same : x.SameResults y) :
    Record.ClosedWith s c r y := by
  unfold Record.ClosedWith at *
  rw [same.id, same.peers, same.anchorOpen, same.unsent, same.preDisturbed, same.verdict, same.locus]
  obtain ⟨id, peers, anchor, unsent, unjudged, judged⟩ := h
  exact ⟨id, peers, anchor, unsent, fun none => (unjudged none).imp_left same.aborted, judged⟩

/-- The VERDICT of the context is queued, and its drop is to be reported. -/
def State.edgeDrops (s : State) (c : Context) : Bool :=
  s.link.queue.any (QueuedFrame.drops fun v => v.edge == c.edge)

/-- A VERDICT that names the record is queued, and its drop is to be reported. -/
def State.recordDrops (s : State) (r : Record) : Bool :=
  s.link.queue.any (QueuedFrame.drops fun v => v.names r)

theorem State.drops_iff (s : State) (c : Context) (r : Record) :
    s.edgeDrops c = true ∨ s.recordDrops r = true ↔
      s.verdictQueued fun v => v.edge = c.edge ∨ v.recordId ≠ 0 ∧ v.recordId = r.id := by
  unfold State.edgeDrops State.recordDrops
  rw [State.verdictQueued_iff (p := fun v => v.edge = c.edge) fun v => beq_iff_eq,
    State.verdictQueued_iff fun v => QueuedVerdict.names_iff]
  constructor
  · rintro (⟨v, hv, live, edge⟩ | ⟨v, hv, live, named⟩)
    · exact ⟨v, hv, live, .inl edge⟩
    · exact ⟨v, hv, live, .inr named⟩
  · rintro ⟨v, hv, live, edge | named⟩
    · exact .inl ⟨v, hv, live, edge⟩
    · exact .inr ⟨v, hv, live, named⟩

/-- The record `r` of `s` as it waits for its context, the notice link having reported or not. -/
structure Record.Waiting (s : State) (r : Record) (reported : Bool) (x : Record) : Prop where
  id : x.id = r.id
  anchorOpen : x.anchorOpen = true
  verdict : x.verdict = r.verdict
  locus : x.locus = r.locus
  unsent : x.flags.unsent = (r.flags.unsent || (reported && s.recordDrops r))
  aborted : r.flags.aborted = true → x.flags.aborted = true
  why : x.flags.aborted = true → r.flags.aborted = true ∨ ∃ m expiry, s.det.mode = .event m r.id expiry

/-- The early copy and the end of the anchor, once the notice link has reported (R138). -/
theorem Record.Waiting.closed (waiting : Record.Waiting s r true x) (straps : u.ctl.straps = s.ctl.straps) :
    Record.ClosedWith s c r { u.earlyCopy (c.unsentOr (s.edgeDrops c)) x with anchorOpen := false } := by
  have unsent : (x.flags.unsent || (c.unsent || s.edgeDrops c)) = true ↔ r.flags.unsent = true ∨
      c.unsent = true ∨ s.verdictQueued fun v => v.edge = c.edge ∨ v.recordId ≠ 0 ∧ v.recordId = r.id := by
    rw [← State.drops_iff, waiting.unsent]
    simp only [Bool.or_eq_true, Bool.true_and]
    tauto
  unfold State.earlyCopy
  cases own : c.own with
  | none =>
    rw [if_neg (by simp [Context.unsentOr, own])]
    exact ⟨waiting.id, rfl, rfl, unsent, fun _ => ⟨rfl, waiting.verdict, waiting.locus⟩,
      fun o ho => nomatch own.symm.trans ho⟩
  | some o =>
    rw [if_pos (by simp [Context.unsentOr, own])]
    cases aborted : x.flags.aborted with
    | true =>
      refine ⟨waiting.id, rfl, rfl, unsent, fun none => absurd (own.symm.trans none) (by simp), fun o' _ => ?_⟩
      have kept : x.verdict = r.verdict ∧ x.locus = r.locus := ⟨waiting.verdict, waiting.locus⟩
      refine ⟨fun _ => kept, fun was noEvent => ?_, fun _ => .inr kept⟩
      rcases waiting.why aborted with is | ⟨m, expiry, mode⟩
      · exact absurd (was.symm.trans is) (by decide)
      · exact absurd mode (noEvent m expiry)
    | false =>
      have fresh : ¬r.flags.aborted = true := fun was =>
        absurd (aborted.symm.trans (waiting.aborted was)) (by decide)
      obtain ⟨id, -, -, -, peers, unsent', locus, results, -⟩ :=
        u.copyResults_spec (c.unsentOr (s.edgeDrops c)) x
      obtain ⟨found, count, -⟩ := u.locusBlock_spec (c.unsentOr (s.edgeDrops c))
      refine ⟨id.trans waiting.id, peers, rfl, ?_, fun none => absurd (own.symm.trans none) (by simp), fun o' ho => ?_⟩
      · exact (Bool.eq_iff_iff.1 unsent').trans unsent
      · obtain ⟨verdict, pre⟩ := results o' ho
        have count' : (u.locusBlock (c.unsentOr (s.edgeDrops c))).reporters = 1 + c.peers.length := by
          rw [count, if_neg (show ¬(c.unsentOr (s.edgeDrops c)).own = none by simp [Context.unsentOr, own])]
          rfl
        rw [straps] at found
        refine ⟨fun was => absurd was fresh, fun _ _ => ?_, fun _ => .inl ?_⟩
        all_goals exact ⟨verdict, pre, _, locus, found, count'⟩

end Sys2Proof.Machine
end


section
/-! Every context that is OPEN at a stop closes early, with its linked record (R138, R139). -/

namespace Sys2Proof.Machine

variable {s u v w : State} {k : Stop} {o : StopOrder} {failed : Option (Fin 9)} {act : State → State}
  {r x y : Record} {c d : Context} {i j : Fin 4}

/-! One early close. -/

theorem State.judge_other {id : Nat} (other : x.id ≠ id) (hx : x ∈ u.store.queue) :
    x ∈ (u.judge id).store.queue := by
  rcases u.judge_cases id with e | ⟨r, -, -, -, e⟩
  · rwa [e]
  · rw [e]
    exact List.mem_map.2 ⟨x, hx, if_neg other⟩

/-- The early close of another context leaves the record. -/
theorem State.earlyClose_other (hx : x ∈ w.store.queue)
    (other : ∀ d, w.corr.slots[i] = some d → d.linked ≠ 0 → x.id ≠ d.linked) :
    x ∈ (w.earlyClose i).store.queue := by
  unfold State.earlyClose
  split
  · exact hx
  · next d hd =>
    dsimp only
    by_cases linked : d.linked = 0
    · rw [if_pos linked, linked]
      exact hx
    · have apart := other d hd linked
      rw [if_neg linked]
      unfold State.freeContext
      rw [if_neg linked]
      refine State.judge_other apart (List.mem_map.2 ⟨x, ?_, if_neg apart⟩)
      exact List.mem_map.2 ⟨x, hx, if_neg apart⟩

/-- The early close of the record's own context. -/
theorem State.earlyClose_own (hd : w.corr.slots[j] = some d) (linked : d.linked ≠ 0)
    (hx : x ∈ w.store.queue) (hid : x.id = d.linked) : ∃ y ∈ (w.earlyClose j).store.queue,
      Record.SameResults { w.earlyCopy d x with anchorOpen := false } y := by
  have closed : w.earlyClose j = (((w.editRecord d.linked (w.earlyCopy d)).setContext j none).editRecord
      d.linked fun r => { r with anchorOpen := false }).judge d.linked := by
    unfold State.earlyClose
    rw [hd]
    dsimp only
    rw [if_neg linked]
    exact if_neg linked
  rw [closed]
  have copied : w.earlyCopy d x ∈ (w.editRecord d.linked (w.earlyCopy d)).store.queue :=
    List.mem_map.2 ⟨x, hx, if_pos hid⟩
  refine State.judge_results ?_ _
  exact List.mem_map.2 ⟨_, copied, if_pos ((w.earlyCopy_edited d x).id.trans hid)⟩

/-! All four contexts. -/

theorem State.earlyClose_straps (w : State) (i : Fin 4) : (w.earlyClose i).ctl.straps = w.ctl.straps :=
  (w.earlyClose_frame i).steady.straps

theorem State.earlyClose_slot (w : State) (i j : Fin 4) :
    (w.earlyClose i).corr.slots[j] = if j = i then none else w.corr.slots[j] := by
  rw [State.earlyClose_corr]
  refine (Vector.getElem_set i.isLt j.isLt).trans ?_
  by_cases h : j = i
  · rw [if_pos h, if_pos (Fin.val_eq_of_eq h).symm]
  · rw [if_neg h, if_neg fun e => h (Fin.ext e.symm)]
    rfl

/-- The record waits in the context's own slot, or the context has closed. -/
structure Closing (s : State) (j : Fin 4) (c : Context) (r : Record) (w : State) : Prop where
  straps : w.ctl.straps = s.ctl.straps
  apart : ∀ i d, i ≠ j → w.corr.slots[i] = some d → d.linked ≠ 0 → r.id ≠ d.linked
  own : (w.corr.slots[j] = some (c.unsentOr (s.edgeDrops c)) ∧
      ∃ x ∈ w.store.queue, Record.Waiting s r true x) ∨
    w.corr.slots[j] = none ∧ ∃ x ∈ w.store.queue, Record.ClosedWith s c r x

theorem Closing.earlyClose (h : Closing s j c r w) (linked : c.linked ≠ 0) (hid : r.id = c.linked) (i : Fin 4) :
    Closing s j c r (w.earlyClose i) := by
  refine ⟨(w.earlyClose_straps i).trans h.straps, fun i' d apart hd => ?_, ?_⟩
  · rw [State.earlyClose_slot] at hd
    split at hd
    · exact nomatch hd
    · exact h.apart i' d apart hd
  · rw [State.earlyClose_slot]
    by_cases same : j = i
    · subst same
      rw [if_pos rfl]
      refine .inr ⟨rfl, ?_⟩
      rcases h.own with ⟨hc, x, hx, waiting⟩ | ⟨gone, x, hx, closed⟩
      · obtain ⟨y, hy, kept⟩ := State.earlyClose_own hc linked hx (waiting.id.trans hid)
        exact ⟨y, hy, (waiting.closed h.straps).of_same kept⟩
      · exact ⟨x, State.earlyClose_other hx fun d hd => absurd (gone.symm.trans hd) (by simp), closed⟩
    · rw [if_neg same]
      have stays {x : Record} (hx : x ∈ w.store.queue) (own : x.id = r.id) :
          x ∈ (w.earlyClose i).store.queue :=
        State.earlyClose_other hx fun d hd linked' => own ▸ h.apart i d (Ne.symm same) hd linked'
      exact h.own.imp (fun ⟨hc, x, hx, waiting⟩ => ⟨hc, x, stays hx waiting.id, waiting⟩)
        fun ⟨gone, x, hx, closed⟩ => ⟨gone, x, stays hx closed.1, closed⟩

theorem State.corrStops_closes (straps : u.ctl.straps = s.ctl.straps) (links : u.ledger.Linked)
    (hc : u.corr.slots[j] = some (c.unsentOr (s.edgeDrops c))) (linked : c.linked ≠ 0)
    (hx : x ∈ u.store.queue) (hid : r.id = c.linked) (waiting : Record.Waiting s r true x) (k : Stop) :
    ∃ y ∈ (u.corrStops k).store.queue, Record.ClosedWith s c r y := by
  obtain ⟨-, single⟩ := u.linked_iff.1 links
  have start : Closing s j c r (u.withCorr { u.corr with view := k.view }) :=
    ⟨straps, fun i d apart hd _ => by
      rw [hid]
      exact single j i (c.unsentOr (s.edgeDrops c)) d (Ne.symm apart) hc hd linked, .inl ⟨hc, x, hx, waiting⟩⟩
  have closed : Closing s j c r (u.corrTakesStop k.view) :=
    foldl_keeps (P := Closing s j c r) (fun w i h => h.earlyClose linked hid i) _ start
  have shut : (u.corrTakesStop k.view).corr.slots[j] = none := by
    rw [State.corrTakesStop_corr]
    exact Vector.getElem_replicate j.isLt
  have done : ∃ y ∈ (u.corrTakesStop k.view).store.queue, Record.ClosedWith s c r y := by
    rcases closed.own with ⟨still, -⟩ | ⟨-, done⟩
    · exact nomatch shut.symm.trans still
    · exact done
  rwa [u.corrStops_store k]

/-! The whole stop. -/

/-- The context and its record before the correlation unit's stop, and the record after it. -/
structure Closes (s : State) (j : Fin 4) (c : Context) (r : Record) (t : Taken) (u : State) : Prop where
  link : t.link = false → u.link = s.link
  before : t.corr = false → u.corr.slots[j] = some (c.unsentOr (t.link && s.edgeDrops c)) ∧
    ∃ x ∈ u.store.queue, Record.Waiting s r t.link x
  after : t.corr = true → ∃ x ∈ u.store.queue, Record.ClosedWith s c r x

theorem Context.unsentOr_false (c : Context) : c.unsentOr false = c := by simp [Context.unsentOr]

theorem Record.Waiting.reported (h : Record.Waiting s r false x) :
    Record.Waiting s r true (x.unsentOr (s.recordDrops r)) := by
  have unsent : (x.unsentOr (s.recordDrops r)).flags.unsent =
      (r.flags.unsent || (true && s.recordDrops r)) := by
    rw [Record.unsentOr, h.unsent, Bool.false_and, Bool.or_false, Bool.true_and]
  exact { h with unsent := unsent }

theorem Record.Waiting.finished {b : Bool} {m m' : Measurement} {halves ms : Nat} {expiry : Ms}
    (h : Record.Waiting s r b x) (mode : s.det.mode = .event m x.id expiry) :
    Record.Waiting s r b (x.finished m' halves ms false true) :=
  { h with
    aborted := fun _ => Bool.or_true _
    why := fun _ => .inr ⟨m, expiry, h.id ▸ mode⟩ }

theorem closes_run (links : s.ledger.Linked) (linked : c.linked ≠ 0) (hid : r.id = c.linked) : StopRun s k (Closes s j c r) where
  store _ _ _ _ _ h := ⟨h.link, h.before, h.after⟩
  link t u fresh open' along h := by
    have queue : s.link = u.link := (h.link fresh).symm
    obtain ⟨hc, x, hx, waiting⟩ := h.before open'
    rw [fresh] at waiting
    rw [fresh, Bool.false_and, Context.unsentOr_false] at hc
    have corr : (u.linkStops k).corr = u.reportQueue.corr := by
      match k with
      | .halt => rfl
      | .restart _ tableFirst => cases tableFirst <;> rfl
    refine ⟨fun late => absurd late (by simp), fun _ => ⟨?_, ?_⟩, fun shut => absurd (open'.symm.trans shut) (by simp)⟩
    · rw [corr, u.reportQueue_slot j, hc]
      unfold State.edgeDrops
      rw [queue]
      rfl
    · refine ⟨x.unsentOr (s.recordDrops r), ?_, waiting.reported⟩
      rw [State.linkStops_store, State.reportQueue_store]
      refine List.mem_map.2 ⟨x, hx, ?_⟩
      unfold State.recordDrops QueuedVerdict.names
      rw [queue, waiting.id]
  det t u stored late along h := by
    have link : u.detTakesStop.link = u.link := u.detTakesStop_frame.only.1 .link (by decide)
    have corr : u.detTakesStop.corr = u.corr := u.detTakesStop_frame.only.1 .corr (by decide)
    refine ⟨fun fresh => link.trans (h.link fresh), fun open' => ?_, fun shut => ?_⟩
    · obtain ⟨hc, x, hx, waiting⟩ := h.before open'
      refine ⟨by rw [corr]; exact hc, ?_⟩
      obtain ⟨y, hy, rfl | ⟨m, expiry, halves, ms, mode, rfl⟩⟩ :=
        State.detTakesStop_anchored along.ids hx waiting.anchorOpen
      · exact ⟨y, hy, waiting⟩
      · exact ⟨_, hy, waiting.finished (by rw [← along.det late]; exact mode)⟩
    · obtain ⟨x, hx, closed⟩ := h.after shut
      obtain ⟨y, hy, same⟩ := State.detTakesStop_results hx
      exact ⟨y, hy, closed.of_same same⟩
  corr t u _ reported open' along h := by
    obtain ⟨hc, x, hx, waiting⟩ := h.before open'
    rw [reported] at waiting
    rw [reported, Bool.true_and] at hc
    refine ⟨fun fresh => absurd (reported.symm.trans fresh) (by simp), fun late => absurd late (by simp), fun _ => ?_⟩
    exact State.corrStops_closes along.steady.straps (along.linked links) hc linked hx hid waiting k
  cap t u _ along h := by
    have link : (u.capStops k).link = u.link := (u.capStops_frame k).only.1 .link (by decide)
    have corr : (u.capStops k).corr = u.corr := (u.capStops_frame k).only.1 .corr (by decide)
    obtain ⟨view, store⟩ := u.capStops_store k
    have unique : (u.withCap { u.cap with view := view }).IdsUnique := State.idsUnique_of_sound along.ids
    refine ⟨fun fresh => link.trans (h.link fresh), fun open' => ?_, fun shut => ?_⟩
    · obtain ⟨hc, x, hx, waiting⟩ := h.before open'
      refine ⟨by rw [corr]; exact hc, x, ?_, waiting⟩
      rw [store]
      exact State.stopFill_anchored unique hx waiting.anchorOpen
    · obtain ⟨x, hx, closed⟩ := h.after shut
      obtain ⟨y, hy, same⟩ := State.stopFill_results (u := u.withCap { u.cap with view := view }) hx
      exact ⟨y, store ▸ hy, closed.of_same same⟩
  other t u v unseen h := by
    refine ⟨fun fresh => unseen.link.trans (h.link fresh), fun open' => ?_, fun shut => ?_⟩
    · rw [unseen.corr, unseen.store]
      exact h.before open'
    · rw [unseen.store]
      exact h.after shut

theorem takeStop_closesEarly (quiet : QuietStop s k o act) (hc : s.corr.slots[j] = some c)
    (shut : (s.takeStop k o failed act).corr.slots[j] = none) :
    closesEarlyInto s (s.takeStop k o failed act) j c := by
  obtain ⟨held, -⟩ := s.linked_iff.1 quiet.linked
  refine ⟨shut, fun linked r hr hid => ?_⟩
  obtain ⟨x, hx, xid, -, anchor⟩ := held j c hc linked
  obtain rfl : x = r := (State.idsUnique_of_sound quiet.ids).eq hx hr (xid.trans hid.symm)
  have start : Closes s j c x ⟨false, false, false, false⟩ s :=
    ⟨fun _ => rfl, fun _ => ⟨by rw [Bool.false_and, Context.unsentOr_false]; exact hc, x, hx,
      ⟨rfl, anchor, rfl, rfl, by rw [Bool.false_and, Bool.or_false], fun h => h, .inl⟩⟩,
      fun taken => nomatch taken⟩
  obtain ⟨-, -, closed⟩ := (closes_run (k := k) quiet.linked linked hid).takeStop (failed := failed) quiet start
  exact closed rfl

end Sys2Proof.Machine
end


section
/-! Nothing that was in progress outlasts a stop (O31). -/

namespace Sys2Proof.Machine

variable {s u v : State} {k : Stop} {o : StopOrder} {failed : Option (Fin 9)} {act : State → State}
  {j : Fin 4} {c : Context} {checks : CloseChecks}

/-! The statements read the blocks alone. -/

theorem abortsInto.congr {s₀ u₀ : State} (h : abortsInto s u) (det : s₀.det = s.det)
    (store : s₀.store = s.store) (full : s₀.ctl.causes[9] = s.ctl.causes[9]) (det' : u₀.det = u.det)
    (store' : u₀.store = u.store) (now : u₀.now = u.now) (closed' : u₀.ctl.causes[8] = u.ctl.causes[8])
    (full' : u₀.ctl.causes[9] = u.ctl.causes[9]) : abortsInto s₀ u₀ := by
  unfold abortsInto at *
  rwa [det, store, full, det', store', now, closed', full']

theorem closesEarlyInto.congr {s₀ u₀ : State} (h : closesEarlyInto s u j c) (det : s₀.det = s.det)
    (store : s₀.store = s.store) (link : s₀.link = s.link) (straps : s₀.ctl.straps = s.ctl.straps)
    (corr' : u₀.corr = u.corr) (store' : u₀.store = u.store) : closesEarlyInto s₀ u₀ j c := by
  unfold closesEarlyInto State.verdictQueued at *
  rwa [det, store, link, straps, corr', store']

/-! What a stop leaves. -/

theorem Settles.holds (h : Settles s u) (ids : s.ledger.IdsSound) {r : Record} (hr : r ∈ s.store.queue) :
    ∃ x ∈ u.store.queue, x.id = r.id := by
  obtain ⟨-, closes⟩ := Ledger.Moves.keep (P := fun _ w => Ledger.ClosesFrom s.ledger w)
    (fun m _ h => m.closesFrom h) (h []) ids (Ledger.ClosesFrom.refl _)
  obtain ⟨x, hx, same, -⟩ := closes r.core (List.mem_map_of_mem hr)
  obtain ⟨y, hy, rfl⟩ := List.mem_map.1 hx
  exact ⟨y, hy, same⟩

/-- The invariants of records, flags and links at the end of a command. -/
theorem exec_records {i : Instr} {s' : State} (he : exec i s = .next s') (ids : s.ledger.IdsSound)
    (waits : s.openRecordsWait) (reasons : s.flagsHaveReasons) : s'.openRecordsWait ∧ s'.flagsHaveReasons :=
  ⟨s'.waits_iff.1 (exec_kept Ledger.kept_waits ids (s.waits_iff.2 waits) he).2,
    s'.reasons_iff.1 (exec_kept Ledger.kept_reasons ids (s.reasons_iff.2 reasons) he).2⟩

/-- Every record held at a stop is held after it, and carries UNSENT where it did, or where the stop
drops its VERDICT (R120, R132). -/
theorem takeStop_unsent (ids : s.ledger.IdsSound) (settles : ∀ u, Settles u (act u))
    (reported : ∀ id u, Reported id u → Reported id (act u))
    (withdrawn : ∀ v, QueuedFrame.verdict v ∈ (s.takeStop k o failed act).link.queue → v.withdrawn = true)
    {r : Record} (hr : r ∈ s.store.queue) : ∃ x ∈ (s.takeStop k o failed act).store.queue, x.id = r.id ∧
      ((r.flags.unsent = true ∨ s.verdictQueued fun v => v.recordId ≠ 0 ∧ v.recordId = r.id) →
        x.flags.unsent = true) := by
  by_cases why : r.flags.unsent = true ∨ s.verdictQueued fun v => v.recordId ≠ 0 ∧ v.recordId = r.id
  · have kept := (Reported.calmStop r.id k).takeStop o failed (reported r.id) ⟨r, hr, rfl, why⟩
    obtain ⟨x, hx, same, unsent⟩ := kept.unsent withdrawn
    exact ⟨x, hx, same, fun _ => unsent⟩
  · obtain ⟨x, hx, same⟩ := (s.takeStop_settles k o failed settles).holds ids hr
    exact ⟨x, hx, same, fun h => absurd h why⟩

/-- With nothing waiting before, nothing waits between the two phases. -/
theorem stopBlocks_nothingWaits (waits : s.nothingWaits) (p : StopPhase) (detectorFirst : Bool) :
    (s.stopBlocks k p detectorFirst).nothingWaits := by
  have queues := s.stopBlocks_queues k p detectorFirst
  exact nothingWaits_congr ((s.stopBlocks_frame k p detectorFirst).only.1 .ref (by decide))
    (congrArg Queues.det queues) (congrArg Queues.corr queues) (congrArg Queues.agg queues) waits

/-! RESTART. -/

/-- The stop of a RESTART. -/
def State.restarting (s : State) (low : Bool) : State :=
  s.takeStop (.restart low s.order.tableFirst) s.order s.order.checkFails id

theorem restarting_interval {i : Interval} (cur : s.agg.cur = some i) (few : s.agg.ring.length ≤ 144)
    (low : Bool) : ∃ acc : Accumulators, endsPartial s (s.takeRestart low) { i with acc := acc } ∧
      (acc = i.acc ∨ s.ctl.state = .run ∧ ∃ e ∈ s.agg.handed, acc = i.acc.take e) := by
  obtain ⟨acc, what, ended⟩ := State.takeStop_interval (s := s) (k := .restart low s.order.tableFirst)
    (o := s.order) (failed := s.order.checkFails) (act := id) (i := i) cur
    (A := fun acc => acc = i.acc) (fun _ h => h) fun _ h _ => ⟨_, rfl, h⟩
  obtain ⟨u, frame, eq⟩ := s.takeStop_frame (.restart low s.order.tableFirst) s.order s.order.checkFails
    (act := id) (bs := [.ref, .det, .cap, .mark, .link, .corr, .store, .agg, .ctl])
    (fun u => .refl _ u) (by simp)
  have now : (s.restarting low).now = s.now := by
    rw [State.restarting, eq]
    exact (State.now_of_steady frame.steady : u.now = s.now)
  refine ⟨acc, State.Ended.endsPartial (u := s.restarting low) few ended now, ?_⟩
  rcases what with rfl | rfl | ⟨run, acc', rfl, e, he, rfl⟩
  · exact .inl rfl
  · exact .inl rfl
  · refine .inr ⟨run, e, ?_, rfl⟩
    have queues := s.stopBlocks_queues (.restart low s.order.tableFirst) (earlyPhase s.order)
      s.order.detectorFirst
    rwa [← show _ = s.agg.handed from congrArg Queues.agg queues]

/-- What RESTART leaves, whatever waits (R29, R63, R64, R138, R166). -/
theorem restart_leaves {t : Nat} {low : Bool} (served : s.port.inService = some .restart)
    (waits : s.openRecordsWait) (reasons : s.flagsHaveReasons) (ids : s.ledger.IdsSound) (one : s.oneFilling) :
    (∀ r ∈ ((s.elapse t).restarting low).store.queue,
      r.isOpen = false ∧ r.running = false ∧ r.anchorOpen = false) ∧
    stopLeavesNothing s ((s.elapse t).takeRestart low) := by
  have he : exec (.restart t low) s = .next (((s.elapse t).takeRestart low).answer .done []) :=
    congrArg Host.Outcome.next (if_pos served)
  have watch : ((s.elapse t).restarting low).det.mode = .watch := State.takeStop_watch _ _ _ _ fun _ => rfl
  have shut : CorrShut .config ((s.elapse t).restarting low).corr := State.takeStop_shut _ _ _ _ fun _ h => h
  have quiet := (s.elapse t).takeRestart_quiet (State.fillings_le_one.1 one) low
  obtain ⟨waits', reasons'⟩ := exec_records he ids waits reasons
  have closed (r : Record) (hr : r ∈ ((s.elapse t).restarting low).store.queue) :=
    recordsShut (s := ((s.elapse t).takeRestart low).answer .done []) waits' reasons' watch shut.2
      ((quiet.blocks.rests .cap (by simp [butDet])).2 (by decide)) hr
  refine ⟨closed, watch, shut.2, fun r hr => (closed r hr).1, fun r hr => ?_⟩
  obtain ⟨-, empty, -⟩ := takeRestart_link (s.elapse t) low (s.elapse t).order.tableFirst (s.elapse t).order
    (s.elapse t).order.checkFails
  exact takeStop_unsent (s := s.elapse t) (act := id) ids Settles.refl (fun _ _ h => h)
    (fun v hv => by rw [empty] at hv; exact nomatch hv) hr

/-- With nothing waiting, RESTART takes nothing in RUN. -/
theorem restart_quietStop (ids : s.ledger.IdsSound) (linked : s.linkedAreOpen)
    (waits : s.ctl.state = .run → s.nothingWaits) (low : Bool) :
    QuietStop s (.restart low s.order.tableFirst) s.order id where
  ids := ids
  linked := s.linked_iff.2 linked
  acts := .refl _ _
  settles := Settles.refl
  idle run := stopBlocks_nothingWaits (waits run) _ _

/-! HALT. -/

/-- What HALT leaves in a close that emits no refresh (R29, R63, R64, R138). -/
theorem halt_leaves (halts : s.haltsNext) (no : ¬s.emitsNext) (waits : s.openRecordsWait)
    (reasons : s.flagsHaveReasons) (ids : s.ledger.IdsSound) (one : s.oneFilling) (checks : CloseChecks) :
    (∀ r ∈ (s.halting checks).store.queue, r.isOpen = false ∧ r.running = false ∧ r.anchorOpen = false) ∧
    stopLeavesNothing s (s.halting checks).enterHalted := by
  have watch : (s.halting checks).det.mode = .watch :=
    State.takeStop_watch _ _ _ _ fun v => s.eventsOf_mode checks v
  have quiet := halt_quiet (State.fillings_le_one.1 one) checks
  obtain ⟨waits', reasons'⟩ := exec_records (exec_positionClose_halting halts checks) ids waits reasons
  have closed (r : Record) (hr : r ∈ (s.halting checks).store.queue) :=
    recordsShut (s := (s.halting checks).enterHalted) waits' reasons' watch (s.halting_shut checks).2
      ((quiet.blocks.rests .cap (by simp [butDet])).2 (by decide)) hr
  refine ⟨closed, watch, (s.halting_shut checks).2, fun r hr => (closed r hr).1, fun r hr => ?_⟩
  have link : s.measured.link = s.link := s.measured_same .link (by decide)
  have store : s.measured.store = s.store := s.measured_same .store (by decide)
  have events (id : Nat) (u : State) (h : Reported id u) : Reported id (s.eventsOf checks u) := by
    have locked : Reported id (u.handLockedCycle (u.ctl.state == .run) s.closedCycle) :=
      h.of_frame (u.handLockedCycle_frame _ _) (by decide) (by decide)
    rw [State.eventsOf_silent no]
    exact ite_keeps (locked.of_frame (State.halfCycleEnd_frame _) (by decide) (by decide)) locked
  have kept := takeStop_unsent (s := s.measured) (k := .halt) (o := s.order) (failed := checks.failed)
    (act := s.eventsOf checks) (by rw [s.measured_ledger]; exact ids) (s.eventsOf_settles checks) events
    (s.halting_link checks).2.2 (r := r) (by rwa [store])
  unfold State.verdictQueued at kept ⊢
  rwa [link] at kept

/-- With nothing waiting, a HALT that emits no refresh takes nothing in RUN. -/
theorem halt_quietStop (no : ¬s.emitsNext) (ids : s.ledger.IdsSound) (linked : s.linkedAreOpen)
    (waits : s.nothingWaits) (checks : CloseChecks) :
    QuietStop s.measured .halt s.order (s.eventsOf checks) where
  ids := by
    rw [s.measured_ledger]
    exact ids
  linked := by
    rw [s.measured_ledger]
    exact (s.elapse s.closeMoment).linked_iff.2 linked
  acts := (State.quietEvents no checks).1
  settles := s.eventsOf_settles checks
  idle _ := (State.quietEvents_waits no waits checks).2

/-- With nothing waiting, the interval is written with the locked cycle that ends or without it (R161,
R166; log entry 3). -/
theorem halt_interval {i : Interval} (halts : s.haltsNext) (no : ¬s.emitsNext) (waits : s.nothingWaits)
    (cur : s.agg.cur = some i) (few : s.agg.ring.length ≤ 144) (checks : CloseChecks) :
    endsPartial s (s.halting checks).enterHalted i ∨ lockedCycleEnds s (s.halting checks).enterHalted ∧
      endsPartial s (s.halting checks).enterHalted
        { i with acc := i.acc.addCycle (s.halting checks).enterHalted.cfe.trk.freq } := by
  obtain ⟨acc, ended, what⟩ := State.halting_ended cur few checks
  obtain ⟨-, -, -, -, -, handed⟩ := State.quietEvents_waits no waits checks
  rw [handed] at what
  rcases what with (rfl | ⟨f, ends, rfl⟩) | ⟨_, _, e, he, _⟩
  · exact .inl ended
  · obtain ⟨locked, freq⟩ := lockedCycleEnds_of_closedCycle (exec_positionClose_halting halts checks) ends
    exact .inr ⟨locked, freq ▸ ended⟩
  · exact absurd he (by simp)

/-- Settles O31: by the invariants at the end of the stop, and along it, whatever the order. -/
theorem stopsAbortWhatIsInProgress : Obligations.StopsAbortWhatIsInProgress := by
  unfold Obligations.StopsAbortWhatIsInProgress
  constructor
  · intro t low s served waits reasons linked order capacity one
    have ids := State.idsSound_of order capacity
    obtain ⟨-, -, -, -, -, -, -, -, -, -, few, -⟩ := capacity
    obtain ⟨shut, leaves⟩ := restart_leaves (t := t) (low := low) served waits reasons ids one
    have interval {i : Interval} (cur : s.agg.cur = some i) :=
      restarting_interval (s := s.elapse t) cur few low
    refine ⟨(s.elapse t).takeRestart low, congrArg Host.Outcome.next (if_pos served), leaves,
      fun closed => ?_, fun i cur => ?_, fun calm => ⟨?_, fun i cur => ?_, fun j c hc => ?_⟩⟩
    · have stopped : Closed s.agg.ring s.agg.nextSeq s.ctl.causes[(10 : Fin 13)]
          ((s.elapse t).restarting low) :=
        (Closed.calmStop _).takeStop _ _ (act := id) (fun _ h => h) ⟨closed, rfl, rfl, rfl⟩
      exact noInterval_iff.2 ⟨stopped.cur, stopped.ring, stopped.seq, stopped.cause⟩
    · obtain ⟨acc, ended, rfl | ⟨-, e, -, rfl⟩⟩ := interval cur
      · exact ⟨_, ended, le_rfl, Nat.le_succ _, rfl, rfl⟩
      · exact ⟨_, ended, Nat.le_succ _, le_rfl, rfl, rfl⟩
    · have quiet := restart_quietStop (s := s.elapse t) ids linked calm low
      have cond : ((s.elapse t).restarting low).det.cond = allBack :=
        State.takeStop_cond _ _ _ _ fun _ => rfl
      have aborts : abortsInto (s.elapse t) ((s.elapse t).restarting low) :=
        takeStop_aborts quiet leaves.1 (fun j => by
          rw [show (State.takeStop _ _ _ _ _).det.cond = _ from cond]
          exact Vector.getElem_replicate j.isLt) shut
      exact aborts.congr rfl rfl rfl rfl rfl rfl rfl rfl
    · obtain ⟨acc, ended, rfl | ⟨run, e, he, -⟩⟩ := interval cur
      · exact ended
      · obtain ⟨-, -, -, -, handed⟩ := calm run
        rw [show (s.elapse t).agg.handed = [] from handed] at he
        exact absurd he (by simp)
    · have quiet := restart_quietStop (s := s.elapse t) ids linked calm low
      have closes : closesEarlyInto (s.elapse t) ((s.elapse t).restarting low) j c :=
        takeStop_closesEarly quiet hc (leaves.2.1 j)
      exact closes.congr rfl rfl rfl rfl rfl rfl
  · intro checks s halts no waits reasons linked order capacity one
    have ids := State.idsSound_of order capacity
    obtain ⟨-, -, -, -, -, -, -, -, -, -, few, -⟩ := capacity
    obtain ⟨shut, leaves⟩ := halt_leaves halts no waits reasons ids one checks
    have det : s.measured.det = s.det := s.measured_same .det (by decide)
    have store : s.measured.store = s.store := s.measured_same .store (by decide)
    have link : s.measured.link = s.link := s.measured_same .link (by decide)
    have corr : s.measured.corr = s.corr := s.measured_same .corr (by decide)
    refine ⟨(s.halting checks).enterHalted, exec_positionClose_halting halts checks, leaves,
      fun closed => State.halting_noInterval closed checks, fun calm => ⟨?_,
      fun i cur => halt_interval halts no calm cur few checks, fun j c hc => ?_⟩⟩
    · have quiet := halt_quietStop no ids linked calm checks
      have cond : (s.halting checks).det.cond = allBack :=
        State.takeStop_cond _ _ _ _ fun v => s.eventsOf_cond checks v
      have aborts : abortsInto s.measured (s.halting checks) :=
        takeStop_aborts quiet leaves.1 (fun j => by
          rw [show (State.takeStop _ _ _ _ _).det.cond = _ from cond]
          exact Vector.getElem_replicate j.isLt) shut
      exact aborts.congr det.symm store.symm (s.measured_raises 9 (by decide)).symm rfl rfl rfl
        (State.raise_causes _ .halt 0 8) (State.raise_causes _ .halt 0 9)
    · have quiet := halt_quietStop no ids linked calm checks
      have closes : closesEarlyInto s.measured (s.halting checks) j c :=
        takeStop_closesEarly quiet (by rw [corr]; exact hc) (leaves.2.1 j)
      exact closes.congr det.symm store.symm link.symm s.measured_frame.steady.straps.symm rfl rfl

end Sys2Proof.Machine
end


section
/-! What an anchor request reads of records and contexts, and what leaves that as it is: the queued
VERDICTs' reports, the own verdicts, and the stops of the blocks but detector, mark line and
correlation unit (R90, R126; log entry 3). -/

namespace Sys2Proof.Machine

variable {s u v : State} {k : Stop} {tn : Ms} {c d : Context} {j : Fin 4} {e : Refresh}

/-! Records. -/

/-- The class of a record, and its flags UPGRADED and UNANCHORED. -/
structure Marks where
  id : Nat
  cls : RecordClass
  upgraded : Bool
  unanchored : Bool

def Record.marks (r : Record) : Marks := ⟨r.id, r.cls, r.flags.upgraded, r.flags.unanchored⟩

def State.marks (s : State) : List Marks := s.store.queue.map Record.marks

theorem State.marks_of_map {g : Record → Record} (queue : u.store.queue = s.store.queue.map g)
    (same : ∀ r : Record, (g r).marks = r.marks) : u.marks = s.marks := by
  unfold State.marks
  rw [queue, List.map_map]
  exact List.map_congr_left fun r _ => same r

theorem State.editRecord_marks (s : State) (id : Nat) {f : Record → Record}
    (same : ∀ r : Record, (f r).marks = r.marks) : (s.editRecord id f).marks = s.marks :=
  State.marks_of_map rfl fun r => by
    split
    · exact same r
    · rfl

theorem Record.Stays.marks {r x : Record} (h : r.Stays x) : x.marks = r.marks := by
  unfold Record.marks
  rw [h.id, h.cls, h.upgraded, h.unanchored]

theorem Reworked.marks (h : Reworked u v) : v.marks = u.marks := by
  obtain ⟨g, queue, stays⟩ := h.queue
  exact State.marks_of_map queue fun r => (stays r).marks

theorem State.length_of_marks (h : u.marks = s.marks) :
    u.store.queue.length = s.store.queue.length := by
  have length := congrArg List.length h
  unfold State.marks at length
  rwa [List.length_map, List.length_map] at length

theorem rewriteSympathetic_marks (es : List Refresh) (r : Record) :
    (rewriteSympathetic es r).marks = r.marks := by
  unfold rewriteSympathetic
  split <;> rfl

/-! Contexts. -/

/-- What an anchor request reads of a context. -/
structure Asked where
  anchored : Bool
  linked : Nat
  edge : Ms

def Context.asked (c : Context) : Asked := ⟨c.anchored, c.linked, c.edge⟩

/-- Records and contexts of `u` are to an anchor request what those of `s` are. -/
structure Asks (s u : State) : Prop where
  marks : u.marks = s.marks
  view : u.corr.view = s.corr.view
  slots : ∀ j : Fin 4, u.corr.slots[j].map Context.asked = s.corr.slots[j].map Context.asked

theorem Asks.refl (s : State) : Asks s s := ⟨rfl, rfl, fun _ => rfl⟩

theorem Asks.trans (h : Asks s u) (h' : Asks u v) : Asks s v :=
  ⟨h'.marks.trans h.marks, h'.view.trans h.view, fun j => (h'.slots j).trans (h.slots j)⟩

theorem Asks.of_same (store : u.store = s.store) (corr : u.corr = s.corr) : Asks s u :=
  ⟨by rw [State.marks, State.marks, store], by rw [corr], fun j => by rw [corr]⟩

theorem Asks.of_frame {bs : List Block} (frame : Frame bs s u) (store : Block.store ∉ bs)
    (corr : Block.corr ∉ bs) : Asks s u :=
  .of_same (frame.only.1 .store store) (frame.only.1 .corr corr)

/-- A context of `u` stands in the slot of one of `s`. -/
theorem Asks.context (h : Asks s u) (hc : u.corr.slots[j] = some c) :
    ∃ d, s.corr.slots[j] = some d ∧ c.asked = d.asked := by
  have slot := h.slots j
  rw [hc, Option.map_some] at slot
  obtain ⟨d, hd, same⟩ := Option.map_eq_some_iff.1 slot.symm
  exact ⟨d, hd, same.symm⟩

theorem Asks.slot_eq_none (h : Asks s u) : u.corr.slots[j] = none ↔ s.corr.slots[j] = none := by
  have slot := h.slots j
  constructor <;> intro hc <;> rw [hc] at slot
  · exact Option.map_eq_none_iff.1 slot.symm
  · exact Option.map_eq_none_iff.1 slot

/-! The request. -/

theorem State.upgradable_eq (s : State) (c : Context) : s.upgradable c =
    ((s.marks.find? fun m => m.id == c.linked).any fun m =>
      c.linked != 0 && m.cls == .sympathetic && !m.upgraded) := by
  unfold State.upgradable State.recordOf State.marks
  rw [List.find?_map]
  show _ = ((s.store.queue.find? fun r => r.id == c.linked).map Record.marks).any _
  cases s.store.queue.find? fun r => r.id == c.linked <;> rfl

theorem Asks.upgradable (h : Asks s u) (linked : c.linked = d.linked) :
    u.upgradable c = s.upgradable d := by
  rw [State.upgradable_eq, State.upgradable_eq, h.marks, linked]

theorem Asks.isCandidate (h : Asks s u) (mark : u.mark = s.mark) (items : u.ctl.items = s.ctl.items)
    (same : c.asked = d.asked) : u.isCandidate tn c = s.isCandidate tn d := by
  obtain ⟨anchored, linked, edge⟩ := Asked.mk.inj same
  unfold State.isCandidate State.markJoin State.item
  rw [h.upgradable linked, mark, items, anchored, linked, edge]

theorem Asks.edgeOf (h : Asks s u) : u.edgeOf = s.edgeOf := by
  funext j
  unfold State.edgeOf
  cases hc : u.corr.slots[j] with
  | none => rw [h.slot_eq_none.1 hc]
  | some c =>
    obtain ⟨d, hd, same⟩ := h.context hc
    rw [hd]
    exact (Asked.mk.inj same).2.2

/-- The answer rests on the mark line, MARK_JOIN, and what it reads of records and contexts (R90). -/
theorem Asks.anchorAnswer (h : Asks s u) (mark : u.mark = s.mark) (items : u.ctl.items = s.ctl.items) :
    u.anchorAnswer tn = s.anchorAnswer tn := by
  have candidates : u.candidates tn = s.candidates tn := by
    unfold State.candidates
    refine List.filter_congr fun j _ => ?_
    cases hc : u.corr.slots[j] with
    | none =>
      rw [h.slot_eq_none.1 hc]
      rfl
    | some c =>
      obtain ⟨d, hd, same⟩ := h.context hc
      rw [hd]
      exact h.isCandidate mark items same
  have latest (l : List (Fin 4)) : u.latestOf l = s.latestOf l := by
    induction l with
    | nil => rfl
    | cons j rest ih => rw [State.latestOf, State.latestOf, h.edgeOf, ih]
  unfold State.anchorAnswer
  rw [mark, candidates, latest]

theorem Asks.edgeOpens (h : Asks s u) (mark : u.mark = s.mark) (now : u.now = s.now) : u.edgeOpens = s.edgeOpens := by
  have closed : u.closedContext = s.closedContext := by
    have same : (fun j : Fin 4 => u.corr.slots[j].isNone) = fun j : Fin 4 => s.corr.slots[j].isNone := by
      funext j
      rw [Bool.eq_iff_iff, Option.isNone_iff_eq_none, Option.isNone_iff_eq_none]
      exact h.slot_eq_none
    unfold State.closedContext
    rw [same]
  unfold State.edgeOpens State.edgeReported
  rw [closed, mark, h.view, now]

theorem Asks.anchorOf (h : Asks s u) (mark : u.mark = s.mark) (items : u.ctl.items = s.ctl.items)
    (now : u.now = s.now) : u.anchorOf tn = s.anchorOf tn :=
  State.anchorOf_congr (h.anchorAnswer mark items) (h.edgeOpens mark now)

/-! What leaves it as it is. -/

theorem State.dropReport_asks (s : State) (edge : Ms) (id : Nat) : Asks s (s.dropReport edge id) := by
  refine ⟨State.marks_of_map (congrArg RecordStore.queue (s.dropReport_store edge id)) fun r => ?_,
    by rw [State.dropReport_corr], fun j => ?_⟩
  · split <;> rfl
  · rw [State.dropReport_corr]
    refine (congrArg (Option.map Context.asked) (Vector.getElem_ofFn j.isLt)).trans ?_
    rw [Option.map_map]
    refine Option.map_congr fun c _ => ?_
    show (if c.edge = edge then { c with unsent := true } else c).asked = c.asked
    split <;> rfl

theorem State.handVerdict_asks (s : State) (x : QueuedVerdict) : Asks s (s.handVerdict x) := by
  have queued (l : NoticeLink) : Asks s (s.withLink l) := .of_same rfl rfl
  unfold State.handVerdict
  split
  · exact s.dropReport_asks _ _
  split
  · exact queued _
  split
  · exact queued _
  · exact s.dropReport_asks _ _

theorem State.judgeContext_asks (s : State) (e : Refresh) (j : Fin 4) : Asks s (s.judgeContext e j) := by
  cases hc : s.corr.slots[j] with
  | none =>
    unfold State.judgeContext
    rw [hc]
    exact .refl s
  | some c =>
    have set : Asks s (s.withVerdict e j c) := by
      refine ⟨rfl, rfl, fun i => ?_⟩
      rw [State.withVerdict_slot hc]
      split
      · next same => rw [same, hc]; rfl
      · rfl
    have handed := set.trans ((s.withVerdict e j c).handVerdict_asks
      ((s.withVerdict e j c).verdictFrame c (s.verdictOf e c)))
    rw [State.judgeContext_eq hc]
    split
    · exact handed
    · exact handed.trans ⟨State.editRecord_marks _ _ (rewriteSympathetic_marks _), rfl, fun _ => rfl⟩

theorem State.correlationTakes_asks (s : State) : Asks s s.correlationTakes := by
  unfold State.correlationTakes
  split
  · exact .refl s
  · next e rest _ =>
    exact foldl_keeps (P := Asks s) (fun w j hw => hw.trans (w.judgeContext_asks e j)) _
      ⟨rfl, rfl, fun _ => rfl⟩

theorem State.linkStops_asks (s : State) (k : Stop) : Asks s (s.linkStops k) := by
  have corr : (s.linkStops k).corr = s.reportQueue.corr := by
    match k with
    | .halt => rfl
    | .restart _ tableFirst => cases tableFirst <;> rfl
  have view : s.reportQueue.corr.view = s.corr.view := by
    refine foldl_keeps (P := fun u : State => u.corr.view = s.corr.view) (fun u f hu => ?_) _ rfl
    unfold State.reportFrame
    split
    · exact hu
    · split
      · exact hu
      · rwa [State.dropReport_corr]
  refine ⟨(s.linkStops_reworked k).marks, by rw [corr, view], fun j => ?_⟩
  rw [corr, s.reportQueue_slot j, Option.map_map]
  exact Option.map_congr fun c _ => rfl

/-- Contexts and records while neither the correlation unit nor the detector has taken the stop. -/
theorem asks_run : StopRun s k fun t u => t.det = false → t.corr = false → Asks s u where
  store _ u _ _ _ h late open' := (h late open').trans ⟨rfl, rfl, fun _ => rfl⟩
  link _ u _ _ _ h late open' := (h late open').trans (u.linkStops_asks k)
  det _ _ _ _ _ _ taken := nomatch taken
  corr _ _ _ _ _ _ _ _ taken := nomatch taken
  cap _ u stored along h late open' := by
    have corr : (u.capStops k).corr = u.corr := (u.capStops_frame k).only.1 .corr (by decide)
    have marks := (State.capStops_reworked (by rw [along.view stored]; exact k.view_ne_run) k).marks
    exact (h late open').trans ⟨marks, by rw [corr], fun j => by rw [corr]⟩
  other _ _ _ unseen h late open' := (h late open').trans (.of_same unseen.store unseen.corr)

end Sys2Proof.Machine
end


section
/-! What a stop leaves of the records that are held: UPGRADED and UNANCHORED always, and the results of
a record that no context is linked to (R138; log entry 3). -/

namespace Sys2Proof.Machine

variable {s u v w : State} {k : Stop} {r x y : Record} {n : Nat}

/-! UPGRADED and UNANCHORED. -/

/-- The record keeps its id, UPGRADED and UNANCHORED. -/
structure Record.Marked (r x : Record) : Prop where
  id : x.id = r.id
  upgraded : x.flags.upgraded = r.flags.upgraded
  unanchored : x.flags.unanchored = r.flags.unanchored

theorem Record.Marked.trans (h : r.Marked x) (h' : x.Marked y) : r.Marked y :=
  ⟨h'.id.trans h.id, h'.upgraded.trans h.upgraded, h'.unanchored.trans h.unanchored⟩

theorem Record.Judged.marked (h : r.Judged x) : r.Marked x := by
  unfold Record.Judged at h
  rw [h]
  exact ⟨rfl, rfl, rfl⟩

theorem Record.Captured.marked (h : r.Captured x) : r.Marked x := by
  unfold Record.Captured at h
  rw [h]
  exact ⟨rfl, rfl, rfl⟩

/-- Every record of `u` is held in `v`, with its UPGRADED and UNANCHORED. -/
def Retains (u v : State) : Prop := ∀ r ∈ u.store.queue, ∃ x ∈ v.store.queue, r.Marked x

theorem Retains.refl (u : State) : Retains u u := fun r hr => ⟨r, hr, rfl, rfl, rfl⟩

theorem Retains.trans (h : Retains u v) (h' : Retains v w) : Retains u w := fun r hr => by
  obtain ⟨x, hx, marked⟩ := h r hr
  obtain ⟨y, hy, marked'⟩ := h' x hx
  exact ⟨y, hy, marked.trans marked'⟩

theorem Retains.of_marks (h : v.marks = u.marks) : Retains u v := fun r hr => by
  obtain ⟨x, hx, same⟩ := List.mem_map.1 (h ▸ List.mem_map_of_mem hr : r.marks ∈ v.marks)
  obtain ⟨id, -, upgraded, unanchored⟩ := Marks.mk.inj same
  exact ⟨x, hx, id, upgraded, unanchored⟩

theorem Retains.of_store (h : v.store = u.store) : Retains u v :=
  .of_marks (by rw [State.marks, State.marks, h])

theorem Retains.of_map {g : Record → Record} (queue : v.store.queue = u.store.queue.map g)
    (marked : ∀ r : Record, r.Marked (g r)) : Retains u v := fun r hr =>
  ⟨g r, queue ▸ List.mem_map_of_mem hr, marked r⟩

theorem State.judge_retains (u : State) (id : Nat) : Retains u (u.judge id) := by
  obtain ⟨g, queue, judged⟩ := u.judge_map id
  exact .of_map queue fun r => (judged r).marked

theorem State.captureRequest_retains (u : State) (id : Nat) (a : RefIndex) (failed : Option (Fin 9)) :
    Retains u (u.captureRequest id a failed) := by
  obtain ⟨g, queue, captured⟩ := u.captureRequest_map id a failed
  exact .of_map queue fun r => (captured r).marked

theorem State.addRecord_retains (u : State) (r : Record) (t : Ms) : Retains u (u.addRecord r t) :=
  fun x hx => ⟨x, by rw [State.addRecord_queue]; exact List.mem_append_left _ hx, rfl, rfl, rfl⟩

/-- The detector's stop finishes a record or makes one. -/
theorem State.detTakesStop_retains (u : State) : Retains u u.detTakesStop := by
  cases mode : u.det.mode with
  | watch =>
    rw [State.detTakesStop_watch mode]
    exact .of_store rfl
  | event m id expiry =>
    rw [State.detTakesStop_event mode]
    by_cases recorded : id = 0
    · subst recorded
      exact .of_map (g := fun r => r) (List.map_id' _).symm fun _ => ⟨rfl, rfl, rfl⟩
    · rw [State.finishEvent_recorded recorded]
      have finished : Retains u (u.editRecord id
          (Record.finished m m.halves (u.now - m.time).toNat false true)) :=
        .of_map rfl fun r => by split <;> exact ⟨rfl, rfl, rfl⟩
      exact finished.trans (State.judge_retains _ id)
  | held m id =>
    rw [State.detTakesStop_held mode]
    split
    · exact (u.addRecord_retains _ _).trans (State.judge_retains _ _)
    · exact .of_map (g := fun r => r) (List.map_id' _).symm fun _ => ⟨rfl, rfl, rfl⟩

theorem retains_run (w : State) : StopRun s k fun _ u => Retains w u :=
  .of_reworked (Inv := fun _ u => Retains w u) (fun _ _ _ reworked h => h.trans (.of_marks reworked.marks))
    fun _ u _ _ _ h => h.trans u.detTakesStop_retains

/-! A record that no context is linked to. -/

/-- Every context is closed, and the record `n` is held without results. -/
structure Blank (n : Nat) (u : State) : Prop where
  shut : ∀ j : Fin 4, u.corr.slots[j] = none
  record : ∃ x ∈ u.store.queue, x.id = n ∧ x.verdict = none ∧ x.locus = none ∧ x.peers = []

theorem Blank.of_results (h : Blank n u) (corr : v.corr = u.corr)
    (kept : ∀ x ∈ u.store.queue, ∃ y ∈ v.store.queue, x.SameResults y) : Blank n v := by
  obtain ⟨shut, x, hx, id, verdict, locus, peers⟩ := h
  obtain ⟨y, hy, same⟩ := kept x hx
  exact ⟨fun j => by rw [corr]; exact shut j, y, hy, same.id.trans id, same.verdict.trans verdict,
    same.locus.trans locus, same.peers.trans peers⟩

theorem Blank.of_same (h : Blank n u) (corr : v.corr = u.corr) (store : v.store = u.store) : Blank n v :=
  h.of_results corr fun x hx => ⟨x, store ▸ hx, .refl x⟩

theorem Blank.earlyClose (h : Blank n u) (i : Fin 4) : Blank n (u.earlyClose i) := by
  obtain ⟨shut, x, hx, blank⟩ := h
  refine ⟨fun j => ?_, x, State.earlyClose_other hx fun d hd => ?_, blank⟩
  · rw [State.earlyClose_slot]
    split
    · rfl
    · exact shut j
  · exact absurd (hd.symm.trans (shut i)) (by simp)

theorem Blank.corrStops (h : Blank n u) (k : Stop) : Blank n (u.corrStops k) := by
  obtain ⟨-, record⟩ : Blank n (u.corrTakesStop k.view) :=
    foldl_keeps (P := Blank n) (fun _ i hw => hw.earlyClose i) _ ⟨h.shut, h.record⟩
  refine ⟨fun j => ?_, ?_⟩
  · rw [State.corrStops_corr]
    exact Vector.getElem_replicate j.isLt
  · rwa [u.corrStops_store k]

theorem Blank.linkStops (h : Blank n u) (k : Stop) : Blank n (u.linkStops k) := by
  obtain ⟨shut, x, hx, id, blank⟩ := h
  refine ⟨fun j => ((u.linkStops_asks k).slot_eq_none).2 (shut j),
    x.unsentOr (u.recordDrops x), ?_, id, blank⟩
  rw [State.linkStops_store, State.reportQueue_store]
  exact List.mem_map_of_mem hx

theorem blank_run (n : Nat) : StopRun s k fun _ u => Blank n u where
  store _ _ _ _ _ h := ⟨h.shut, h.record⟩
  link _ _ _ _ _ h := h.linkStops k
  det _ u _ _ _ h := h.of_results (u.detTakesStop_frame.only.1 .corr (by decide)) fun _ hx =>
    State.detTakesStop_results hx
  corr _ _ _ _ _ _ h := h.corrStops k
  cap _ u _ _ h := by
    obtain ⟨view, store⟩ := u.capStops_store k
    refine h.of_results ((u.capStops_frame k).only.1 .corr (by decide)) fun x hx => ?_
    rw [store]
    exact State.stopFill_results (u := u.withCap { u.cap with view := view }) hx
  other _ _ _ unseen h := h.of_same unseen.corr unseen.store

end Sys2Proof.Machine
end


section
/-! The crossing that the detector takes within a stop, whatever the correlation unit does between the
answer to its anchor request and the anchoring (R47 to R50, R90, R125; log entry 3). -/

namespace Sys2Proof.Machine

variable {s u b : State} {k : Stop} {m : Measurement} {expiry : Ms} {failed : Option (Fin 9)}
  {anchor : Option (Fin 4)} {unanchored : Bool} {c : Bool}

theorem idsSound_of_marks (marks : u.marks = s.marks) (nextId : u.store.nextId = s.store.nextId)
    (ids : s.ledger.IdsSound) : u.ledger.IdsSound := by
  have list (w : State) : w.ledger.ids = w.marks.map Marks.id := by
    simp only [Ledger.ids, State.ledger, State.marks, List.map_map]
    rfl
  unfold Ledger.IdsSound at *
  rw [list, marks, ← list]
  exact (congrArg (Ledger.IdsFollow s.ledger.ids) nextId).mpr ids

theorem State.hasRoom_of_marks (marks : u.marks = s.marks) (room : s.hasRoom = true) :
    u.hasRoom = true := by
  unfold State.hasRoom at *
  rwa [State.length_of_marks marks]

/-! The record. -/

/-- The crossing of measurement `m`, taken from `s`, has its record in `u`, by `b`. -/
structure Crossed (s : State) (m : Measurement) (expiry : Ms) (unanchored : Bool) (shut : Prop)
    (u : State) : Prop where
  det : u.det = { s.det with mode := .event m s.store.nextId expiry }
  mark : u.mark = (s.afterAnchor m.time).mark
  retains : Retains s u
  record : ∃ r ∈ u.store.queue, r.id = s.store.nextId ∧ r.flags.unanchored = unanchored
  blank : shut → Blank s.store.nextId u

/-- What has been made of `s` when the event record is asked for, `shut` saying that every context is
closed. -/
structure Awaits (s : State) (m : Measurement) (shut : Prop) (anchor : Option (Fin 4)) (b : State) :
    Prop where
  det : b.det = s.det
  mark : b.mark = (s.afterAnchor m.time).mark
  marks : b.marks = s.marks
  nextId : b.store.nextId = s.store.nextId
  shut : shut → anchor = none ∧ ∀ j : Fin 4, b.corr.slots[j] = none

theorem Awaits.crossed {shut : Prop} (h : Awaits s m shut anchor b) (ids : s.ledger.IdsSound)
    (room : s.hasRoom = true) :
    Crossed s m expiry unanchored shut (b.obtainRecord m expiry anchor unanchored failed) := by
  obtain ⟨⟨⟨made, x, capture, queue, -⟩, -⟩, det, mark, -, slots, r, hr, captured, -⟩ :=
    State.obtainRecord_made (m := m) (expiry := expiry) (anchor := anchor) (unanchored := unanchored)
      (failed := failed) (idsSound_of_marks h.marks h.nextId ids) (State.hasRoom_of_marks h.marks room)
  have kept : Retains b (b.obtainRecord m expiry anchor unanchored failed) := by
    rw [capture]
    refine Retains.trans (v := made) (fun y hy => ⟨y, ?_, rfl, rfl, rfl⟩) (made.captureRequest_retains _ _ _)
    rw [queue]
    exact List.mem_append_left _ hy
  unfold Record.Captured at captured
  refine ⟨?_, mark.trans h.mark, (Retains.of_marks h.marks).trans kept, ⟨r, hr, ?_, ?_⟩, fun closed => ?_⟩
  · rw [det, h.det, h.nextId]
  · rw [captured]
    exact h.nextId
  · rw [captured]
    rfl
  · obtain ⟨none, closed⟩ := h.shut closed
    refine ⟨fun j => ?_, r, hr, ?_, ?_, ?_, ?_⟩
    · rw [slots j, closed j]
      exact ite_self _
    · rw [captured]
      exact h.nextId
    all_goals rw [captured]; rfl

/-! The answer and the anchoring. -/

/-- Where the correlation unit takes the stop in between, it has closed every context (R125). -/
theorem Awaits.stopped (event : s.det.mode ≠ .watch) (stopped : s.store.view ≠ .run) {shut : Prop} :
    Awaits s m shut none ((s.afterAnchor m.time).corrStops k) := by
  obtain ⟨frame, -⟩ := State.afterAnchor_spec event m.time
  have stops := (s.afterAnchor m.time).corrStops_frame k
  have store : (s.afterAnchor m.time).store = s.store := frame.only.1 .store (by decide)
  have reworked := State.corrStops_reworked (u := s.afterAnchor m.time) (by rwa [store]) k
  refine ⟨(stops.only.1 .det (by decide)).trans (frame.only.1 .det (by decide)),
    stops.only.1 .mark (by decide), reworked.marks.trans ?_, reworked.nextId.trans ?_, fun _ => ⟨rfl, fun j => ?_⟩⟩
  · rw [State.marks, State.marks, store]
  · rw [store]
  · rw [State.corrStops_corr]
    exact Vector.getElem_replicate j.isLt

/-- The anchoring alone. -/
theorem Awaits.anchored (anchors : Anchors m s b) (anchor : Option (Fin 4)) {shut : Prop}
    (closed : shut → anchor = none ∧ s.anchorOf m.time = none ∧ ∀ j : Fin 4, s.corr.slots[j] = none) :
    Awaits s m shut anchor b := by
  have store : b.store = s.store := anchors.frame.only.1 .store (by decide)
  refine ⟨anchors.frame.only.1 .det (by decide), anchors.mark, by rw [State.marks, State.marks, store],
    by rw [store], fun h => ?_⟩
  obtain ⟨none, noAnchor, slots⟩ := closed h
  refine ⟨none, fun j => (anchors.others j ?_).trans (slots j)⟩
  rw [noAnchor]
  exact Option.some_ne_none j ∘ Eq.symm

/-- The crossing has a new record: it has no anchor, or the correlation unit takes the stop before the
anchoring, or no context is linked to an upgradable record (R48, R125). -/
theorem State.anchorEvent_crossed (event : s.det.mode ≠ .watch) (ids : s.ledger.IdsSound)
    (room : s.hasRoom = true) (stopped : c = true → s.store.view ≠ .run)
    (fresh : s.anchorOf m.time = none ∨ c = true ∨
      ∀ (j : Fin 4) (x : Context), s.corr.slots[j] = some x → s.upgradable x = false) :
    Crossed s m expiry (s.anchorOf m.time).isNone
      (c = true ∨ s.anchorOf m.time = none ∧ ∀ j : Fin 4, s.corr.slots[j] = none)
      (s.anchorEvent m expiry failed fun st => st.when c fun x => x.corrStops k) := by
  cases c with
  | true =>
    have crossed (unanchored : Bool) {shut : Prop} := (Awaits.stopped (m := m) (k := k) (shut := shut)
      event (stopped rfl)).crossed (expiry := expiry) (unanchored := unanchored) (failed := failed) ids room
    have view : (((s.afterAnchor m.time).corrStops k).corr.view != .run) = true := by
      rw [State.corrStops_corr]
      exact bne_iff_ne.2 k.view_ne_run
    unfold State.anchorEvent
    cases s.anchorOf m.time with
    | none => exact crossed true
    | some j =>
      dsimp only [State.when]
      rw [if_pos rfl, if_pos view]
      exact crossed false
  | false =>
    obtain ⟨b, anchors, ⟨j, anchor, -, upgradable, -⟩ | ⟨-, obtained⟩⟩ :=
      State.anchorEvent_cases event m expiry failed
    · obtain ⟨x, hx, up⟩ := State.anchorContext_upgradable.1 upgradable
      rcases fresh with none | taken | no
      · exact absurd (anchor.symm.trans none) (by simp)
      · exact absurd taken (by simp)
      · exact absurd ((no j x hx).symm.trans up) (by simp)
    · rw [show s.anchorEvent m expiry failed (fun st => st.when false fun x => x.corrStops k) = _ from obtained]
      refine (Awaits.anchored anchors _ ?_).crossed ids room
      rintro (taken | ⟨none, slots⟩)
      · exact absurd taken (by simp)
      · exact ⟨by rw [none, ite_self], none, slots⟩

end Sys2Proof.Machine
end


section
/-! The early phase of a stop within which the detector takes a refresh, and the other readers
(R29, R97, R138; log entry 3). -/

namespace Sys2Proof.Machine

variable {s u v : State} {k : Stop} {o : StopOrder} {failed : Option (Fin 9)} {e : Refresh} {n : Nat}

theorem Settles.idsSound (h : Settles s u) (ids : s.ledger.IdsSound) : u.ledger.IdsSound :=
  (Ledger.Moves.keep (P := fun _ _ => True) (fun _ _ _ => trivial) (h []) ids trivial).1

/-! The early phase. -/

theorem reworked_run (w : State) : StopRun s k fun t u => t.det = false → Reworked w u :=
  .of_reworked (Inv := fun b u => b = false → Reworked w u) (fun _ _ _ reworked h late => (h late).trans reworked)
    fun _ _ _ _ _ _ taken => nomatch taken

/-- What the blocks that take the stop first leave to a crossing, where the detector is not among
them. -/
structure Early (s : State) (k : Stop) (o : StopOrder) (a : State) : Prop where
  steady : Steady s a
  ref : a.ref = s.ref
  det : a.det = s.det
  reworked : Reworked s a
  asks : o.corrEarly = false → Asks s a
  shut : o.corrEarly = true → CorrShut k.view a.corr
  mark : a.mark = if o.markEarly then k.ofMark s.now s.mark else s.mark
  stored : (earlyPhase o).store = true → a.store.view = k.view

theorem stopBlocks_early (ids : s.ledger.IdsSound) (late : o.detEarly = false) :
    Early s k o (s.stopBlocks k (earlyPhase o) o.detectorFirst) := by
  have run {Inv : Taken → State → Prop} (h : StopRun s k Inv) (start : Inv ⟨false, false, false, false⟩ s) :=
    h.stopBlocks (earlyPhase_may o) o.detectorFirst (.first ids) start
  have det : (Taken.after ⟨false, false, false, false⟩ (earlyPhase o)).det = false := by
    simp [Taken.after, earlyPhase, late]
  obtain ⟨along, reworked⟩ := run (reworked_run s) fun _ => .refl s
  have frame := s.stopBlocks_frame k (earlyPhase o) o.detectorFirst
  refine ⟨frame.steady, frame.only.1 .ref (by decide), along.det det, reworked det, fun corr => ?_,
    fun corr => ?_, s.stopBlocks_mark k _ _, fun stored => along.view (by simp [Taken.after, stored])⟩
  · exact (run asks_run fun _ _ => .refl s).2 det (by simp [Taken.after, earlyPhase, corr])
  · exact (corrShut_calmStop k).stopBlocks_reaches (b := .corr) (p := earlyPhase o) corr (fun x => by
      show CorrShut _ (x.corrStops k).corr
      rw [State.corrStops_corr]
      exact ⟨rfl, fun j => Vector.getElem_replicate j.isLt⟩) s o.detectorFirst

/-! The readers before the detector, and after it. -/

/-- The correlation unit takes a refresh in RUN within the stop, where it does. -/
def State.corrReads (s : State) (o : StopOrder) : State :=
  s.when (o.corrTakes && !o.corrEarly && s.corr.view == .run) State.correlationTakes

def State.readersBefore (s : State) (o : StopOrder) : State :=
  let tracked := s.when o.trackerTakes State.trackerTakes
  if o.corrBeforeDet then tracked.corrReads o else tracked

def State.readersAfter (s : State) (o : StopOrder) : State :=
  let judged := if o.corrBeforeDet then s else s.corrReads o
  (judged.when o.reportTakes State.trackerTakesReport).when (o.aggTakes && !o.aggEarly)
    State.aggregatorTakes

theorem State.readersTake_eq (takes : o.detTakes = true) (late : o.detEarly = false) (s : State) :
    s.readersTake k o failed = ((s.readersBefore o).detectorTakes failed fun st =>
      st.when (o.corrWithin && !o.corrEarly) fun x => x.corrStops k).readersAfter o := by
  unfold State.readersTake State.readersBefore State.readersAfter
  rw [takes, late]
  cases o.corrBeforeDet <;> rfl

theorem State.corrReads_frame (s : State) (o : StopOrder) : Frame [.link, .corr, .store] s (s.corrReads o) :=
  s.when_frame _ State.correlationTakes_frame

theorem State.corrReads_asks (s : State) (o : StopOrder) : Asks s (s.corrReads o) :=
  State.when_keeps (P := Asks s) _ _ _ (.refl s) s.correlationTakes_asks

theorem State.corrReads_ledger (s : State) (o : StopOrder) : (s.corrReads o).ledger = s.ledger :=
  ledger_when _ s.correlationTakes_ledger

theorem State.readersBefore_frame (s : State) (o : StopOrder) :
    Frame [.ref, .link, .corr, .store] s (s.readersBefore o) := by
  have tracked : Frame [.ref] s (s.when o.trackerTakes State.trackerTakes) :=
    s.when_frame _ State.trackerTakes_frame
  exact .ite ((tracked.comp (State.corrReads_frame _ o)).mono (by simp)) (tracked.mono (by simp))

theorem State.readersBefore_asks (s : State) (o : StopOrder) : Asks s (s.readersBefore o) := by
  have tracked : Asks s (s.when o.trackerTakes State.trackerTakes) :=
    .of_frame (s.when_frame _ State.trackerTakes_frame) (by decide) (by decide)
  exact ite_keeps (P := Asks s) (tracked.trans (State.corrReads_asks _ o)) tracked

theorem State.readersBefore_ledger (s : State) (o : StopOrder) :
    (s.readersBefore o).ledger = s.ledger := by
  have tracked : (s.when o.trackerTakes State.trackerTakes).ledger = s.ledger :=
    ledger_when _ s.trackerTakes_ledger
  exact ledger_ite ((State.corrReads_ledger _ o).trans tracked) tracked

theorem CalmStop.readersBefore {P : State → Prop} (h : CalmStop P k) (hs : P s) (o : StopOrder) :
    P (s.readersBefore o) := by
  have tracked : P (s.when o.trackerTakes State.trackerTakes) := State.when_keeps _ _ _ hs (h.tracker s hs)
  exact ite_keeps (State.when_keeps _ _ _ tracked (h.correlation _ tracked)) tracked

theorem Blank.correlationTakes (h : Blank n u) : Blank n u.correlationTakes := by
  unfold State.correlationTakes
  split
  · exact h
  · next e rest _ =>
    refine foldl_keeps (P := Blank n) (fun w j hw => ?_) _ ⟨h.shut, h.record⟩
    have closed : w.judgeContext e j = w := by
      unfold State.judgeContext
      rw [hw.shut j]
    rwa [closed]

/-- The readers after the detector take what is theirs. -/
structure After (s u : State) : Prop where
  frame : Frame [.ref, .link, .corr, .store, .agg] s u
  retains : Retains s u
  blank : ∀ n, Blank n s → Blank n u

theorem State.readersAfter_after (s : State) (o : StopOrder) : After s (s.readersAfter o) := by
  have judged : After s (if o.corrBeforeDet then s else s.corrReads o) := by
    split
    · exact ⟨.refl _ _, .refl s, fun _ h => h⟩
    · exact ⟨(s.corrReads_frame o).mono (by simp), .of_marks (s.corrReads_asks o).marks,
        fun _ h => State.when_keeps _ _ _ h h.correlationTakes⟩
  have last (w : State) : Frame [.ref, .agg] w ((w.when o.reportTakes State.trackerTakesReport).when
      (o.aggTakes && !o.aggEarly) State.aggregatorTakes) :=
    ((w.when_frame o.reportTakes State.trackerTakesReport_frame).comp
      (State.when_frame _ (o.aggTakes && !o.aggEarly) State.aggregatorTakes_frame)).mono (by simp)
  have store (w : State) := (last w).only.1 .store (by decide)
  have corr (w : State) := (last w).only.1 .corr (by decide)
  exact ⟨(judged.frame.comp (last _)).mono (by simp), judged.retains.trans (.of_store (store _)),
    fun n h => (judged.blank n h).of_same (corr _) (store _)⟩

/-! The threshold sets. -/

/-- Whether or not the tracker has taken the refresh, the crossing is judged against the same sets
(R39, R44). -/
theorem State.readersBefore_setFor (run : s.ctl.state = .run) (handed : s.ref.handed = [] ∨ s.ref.handed = [e])
    (o : StopOrder) (j : Fin 3) : (s.readersBefore o).setFor e.index j = s.setFor e.index j := by
  have congr {w x : State} (ref : w.ref = x.ref) : w.setFor e.index j = x.setFor e.index j := by
    unfold State.setFor State.trackerBehind
    rw [ref]
  have tracked : s.trackerTakes.setFor e.index j = s.setFor e.index j := by
    rcases handed with none | one
    · refine congr ?_
      unfold State.trackerTakes
      rw [none]
    · rw [State.trackerTakes_cons one, ((s.setFor_spec e.index j).1 ⟨e, by rw [one]; simp, rfl⟩)]
      refine ((State.setFor_spec _ e.index j).2 (by simp)).trans ?_
      refine (congrArg Reference.inForce (Vector.getElem_ofFn j.isLt)).trans ?_
      unfold State.tracked
      rw [if_neg (by simp [run])]
      split <;> rfl
  have step : (s.when o.trackerTakes State.trackerTakes).setFor e.index j = s.setFor e.index j :=
    State.when_keeps (P := fun w => w.setFor e.index j = s.setFor e.index j) _ _ _ rfl tracked
  unfold State.readersBefore
  dsimp only
  split
  · exact (congr ((State.corrReads_frame _ o).only.1 .ref (by decide))).trans step
  · exact step

end Sys2Proof.Machine
end


section
/-! The crossing that the detector takes within a stop, before its own (R29, R48, R63, R90, R97; log
entry 3). -/

namespace Sys2Proof.Machine

variable {s u v : State} {k : Stop} {o : StopOrder} {failed : Option (Fin 9)} {e : Refresh}
  {rest : List Refresh} {conds : Vector Cond 3} {between : State → State} {tn : Ms}

/-! The event that begins. -/

/-- The state in which the crossing at `e` asks for its anchor (R47). -/
def State.begun (s : State) (e : Refresh) (rest : List Refresh) (conds : Vector Cond 3) : State :=
  s.withDet ⟨.event (s.beginMeasure e conds) 0 (e.stamp + msOf (1000 * s.maxOpen)), conds, rest⟩

theorem State.detectorTakes_crossing (run : s.ctl.state = .run) (handed : s.det.handed = e :: rest)
    (watch : s.det.mode = .watch)
    (judged : ∀ j : Fin 3, conds[j] = judgeCond (s.setFor e.index j) e.value[dIndex j] s.det.cond[j])
    (out : ∃ j : Fin 3, conds[j] ≠ .back) : s.detectorTakes failed between =
      (s.begun e rest conds).anchorEvent (s.beginMeasure e conds) (e.stamp + msOf (1000 * s.maxOpen))
        failed between := by
  have conds' : (s.withDet { s.det with handed := rest }).judgeConds e = conds := State.judgeConds_eq judged
  unfold State.detectorTakes
  rw [handed]
  refine (if_pos run).trans ?_
  rw [State.judgeRefresh_watch (show (s.withDet { s.det with handed := rest }).det.mode = _ from watch),
    conds', if_neg (not_isAllBack out)]
  rfl

/-- The crossing refresh is the one measured (R56). -/
theorem State.beginMeasure_halves (s : State) (e : Refresh) (conds : Vector Cond 3) :
    (s.beginMeasure e conds).halves = 1 := by
  show saturate32 ((e.index - e.index).toNat + 1) = 1
  rw [BitVec.sub_self]
  rfl

theorem State.beginMeasure_cls (sets : ∀ j, u.setFor e.index j = s.setFor e.index j) :
    (u.beginMeasure e conds).cls =
      if ∀ j : Fin 3, e.value[dIndex j] < (s.setFor e.index j).intStart then .interruption
      else if ∃ j : Fin 3, conds[j] = .outLow then .dip else .swell := by
  unfold Measurement.cls
  refine if_congr ?_ rfl (if_congr someCond_iff rfl rfl)
  refine State.interrupted_iff.trans ?_
  simp only [sets]

/-! The stop. -/

/-- A stop of `s` within which the detector takes a crossing at `e` and makes a new record (R48). -/
structure Crosses (s : State) (o : StopOrder) (e : Refresh) (rest : List Refresh) (conds : Vector Cond 3) :
    Prop where
  run : s.ctl.state = .run
  handed : s.det.handed = e :: rest
  tracker : s.ref.handed = [] ∨ s.ref.handed = [e]
  judged : ∀ j : Fin 3, conds[j] = judgeCond (s.setFor e.index j) e.value[dIndex j] s.det.cond[j]
  watch : s.det.mode = .watch
  out : ∃ j : Fin 3, conds[j] ≠ .back
  room : s.hasRoom = true
  fresh : o.corrEarly = true ∨ o.corrWithin = true ∨
    ∀ (j : Fin 4) (c : Context), s.corr.slots[j] = some c → s.upgradable c = false
  ids : s.ledger.IdsSound
  takes : o.detTakes = true
  late : o.detEarly = false

/-- Where the crossing asks for its anchor. -/
structure Asking (s : State) (k : Stop) (o : StopOrder) (y : State) : Prop where
  steady : Steady s y
  marks : y.marks = s.marks
  nextId : y.store.nextId = s.store.nextId
  asks : o.corrEarly = false → Asks s y
  shut : o.corrEarly = true → CorrShut k.view y.corr
  mark : y.mark = if o.markEarly then k.ofMark s.now s.mark else s.mark

theorem Stop.ofMark_view (k : Stop) (now : Ms) (x : MarkLine) : (k.ofMark now x).view ≠ .run := by
  cases k <;> exact fun h => nomatch h

/-- The mark line interface has taken the stop, and answers none (R97). -/
theorem Asking.answer_of_markEarly (h : Asking s k o u) (early : o.markEarly = true) :
    u.anchorAnswer tn = .none := by
  have stopped : u.mark.view ≠ .run := by
    rw [h.mark, if_pos early]
    exact k.ofMark_view _ _
  exact if_pos stopped

theorem Asking.answer (h : Asking s k o u) (mark : o.markEarly = false) (corr : o.corrEarly = false) :
    u.anchorAnswer tn = s.anchorAnswer tn ∧ u.anchorOf tn = s.anchorOf tn := by
  have line : u.mark = s.mark := by rw [h.mark, if_neg (by simp [mark])]
  exact ⟨(h.asks corr).anchorAnswer line h.steady.items,
    (h.asks corr).anchorOf line h.steady.items (State.now_of_steady h.steady)⟩

/-- With mark line or correlation unit stopped, the crossing has no anchor. -/
theorem Asking.anchorOf_eq_none (h : Asking s k o u) (early : o.markEarly = true ∨ o.corrEarly = true) :
    u.anchorOf tn = none := by
  unfold State.anchorOf
  rcases early with mark | corr
  · rw [h.answer_of_markEarly mark]
  · obtain ⟨view, shut⟩ := h.shut corr
    cases answer : u.anchorAnswer tn with
    | none => rfl
    | context j => exact absurd (State.anchorAnswer_open answer) (by rw [shut j]; simp)
    | pulse =>
      have stopped : ¬(u.edgeReported && u.corr.view == .run) = true := by
        rw [view]
        simp [k.view_ne_run]
      exact if_neg stopped

/-- With the correlation unit stopped before the anchoring, every context is closed then (R125). -/
theorem Asking.shut_of_stops (h : Asking s k o u) (stops : o.corrEarly = true ∨ o.corrWithin = true) :
    (o.corrWithin && !o.corrEarly) = true ∨ u.anchorOf tn = none ∧ ∀ j : Fin 4, u.corr.slots[j] = none := by
  cases corr : o.corrEarly with
  | true => exact .inr ⟨h.anchorOf_eq_none (.inr corr), (h.shut corr).2⟩
  | false => exact .inl (by simpa [corr] using stops)

/-- The event record is a new one (R48, R125). -/
theorem crossing_made {m : Measurement} {expiry : Ms} (h : Crosses s o e rest conds) (asking : Asking s k o u)
    (event : u.det.mode ≠ .watch) (stored : (earlyPhase o).store = true → u.store.view = k.view) :
    Crossed u m expiry (u.anchorOf m.time).isNone
      ((o.corrWithin && !o.corrEarly) = true ∨ u.anchorOf m.time = none ∧
        ∀ j : Fin 4, u.corr.slots[j] = none)
      (u.anchorEvent m expiry failed fun st =>
        st.when (o.corrWithin && !o.corrEarly) fun x => x.corrStops k) := by
  refine State.anchorEvent_crossed event (idsSound_of_marks asking.marks asking.nextId h.ids)
    (State.hasRoom_of_marks asking.marks h.room) (fun within => ?_) ?_
  · rw [stored]
    · exact k.view_ne_run
    · rw [Bool.and_eq_true] at within
      simp [earlyPhase, within.1]
  · cases corr : o.corrEarly with
    | true => exact .inl (asking.anchorOf_eq_none (.inr corr))
    | false =>
      refine .inr ?_
      rcases h.fresh with early | within | no
      · exact absurd (corr.symm.trans early) (by simp)
      · exact .inl (by simp [within])
      · refine .inr fun j x hx => ?_
        obtain ⟨d, hd, same⟩ := (asking.asks corr).context hx
        obtain ⟨-, linked, -⟩ := Asked.mk.inj same
        exact ((asking.asks corr).upgradable linked).trans (no j d hd)

/-- The state in which the readers leave what the detector's crossing makes. -/
structure Made (s : State) (k : Stop) (o : StopOrder) (e : Refresh) (rest : List Refresh)
    (conds : Vector Cond 3) (y : State) (m : Measurement) (v : State) : Prop where
  steady : Steady s v
  ids : v.ledger.IdsSound
  stored : (earlyPhase o).store = true → v.store.view = k.view
  det : ∃ expiry, v.det = ⟨.event m s.store.nextId expiry, conds, rest⟩
  mark : v.mark = (y.afterAnchor e.stamp).mark
  retains : Retains s v
  record : ∃ r ∈ v.store.queue, r.id = s.store.nextId ∧ r.flags.unanchored = (y.anchorOf e.stamp).isNone
  blank : o.corrEarly = true ∨ o.corrWithin = true → Blank s.store.nextId v

theorem takeStop_crossing (h : Crosses s o e rest conds) : ∃ y m v, Asking s k o y ∧
    Made s k o e rest conds y m v ∧ m.time = e.stamp ∧ m.halves = 1 ∧
    m.cls = (if ∀ j : Fin 3, e.value[dIndex j] < (s.setFor e.index j).intStart then .interruption
      else if ∃ j : Fin 3, conds[j] = .outLow then .dip else .swell) ∧
    s.takeStop k o failed id =
      (v.stopBlocks k (earlyPhase o).others o.detectorFirst).withFree (s.free + 1) := by
  have early := stopBlocks_early (k := k) h.ids h.late
  let a := s.stopBlocks k (earlyPhase o) o.detectorFirst
  let u := a.readersBefore o
  let y := u.begun e rest conds
  let m := u.beginMeasure e conds
  have before := a.readersBefore_frame o
  have ledger : u.ledger = a.ledger := a.readersBefore_ledger o
  have det : u.det = s.det := (before.only.1 .det (by decide)).trans early.det
  have steady : Steady s u := early.steady.trans before.steady
  have sets (j : Fin 3) : u.setFor e.index j = s.setFor e.index j := by
    rw [State.readersBefore_setFor (early.steady.state.trans h.run) (early.ref ▸ h.tracker)]
    unfold State.setFor State.trackerBehind
    rw [early.ref]
  have asking : Asking s k o y := by
    refine ⟨steady.trans (u.withDet_frame _).steady, ?_, ?_, fun corr => ?_, fun corr => ?_, ?_⟩
    · exact (a.readersBefore_asks o).marks.trans early.reworked.marks
    · exact (congrArg Ledger.nextId ledger).trans early.reworked.nextId
    · exact ((early.asks corr).trans (a.readersBefore_asks o)).trans (.of_same rfl rfl)
    · obtain ⟨view, shut⟩ := early.shut corr
      have asks := a.readersBefore_asks o
      exact ⟨asks.view.trans view, fun j => asks.slot_eq_none.2 (shut j)⟩
    · exact (show u.mark = a.mark from before.only.1 .mark (by decide)).trans early.mark
  have crossed := crossing_made (m := m) (expiry := e.stamp + msOf (1000 * u.maxOpen)) (failed := failed) h
    asking (fun event => nomatch event) fun stored =>
      (storeView_calmStop k).readersBefore (early.stored stored) o
  have read : a.readersTake k o failed = (y.anchorEvent m (e.stamp + msOf (1000 * u.maxOpen)) failed
      fun st => st.when (o.corrWithin && !o.corrEarly) fun x => x.corrStops k).readersAfter o := by
    rw [State.readersTake_eq h.takes h.late, State.detectorTakes_crossing (s := u) (steady.state.trans h.run)
      (det ▸ h.handed) (det ▸ h.watch) (fun j => by rw [sets j, det]; exact h.judged j) h.out]
  have after := State.readersAfter_after (y.anchorEvent m (e.stamp + msOf (1000 * u.maxOpen)) failed
    fun st => st.when (o.corrWithin && !o.corrEarly) fun x => x.corrStops k) o
  rw [← read] at after
  refine ⟨y, m, a.readersTake k o failed, asking, ⟨?_, ?_, fun stored => ?_,
    ⟨e.stamp + msOf (1000 * u.maxOpen), ?_⟩, ?_, ?_, ?_, fun stops => ?_⟩,
    rfl, u.beginMeasure_halves e conds, State.beginMeasure_cls sets, ?_⟩
  · exact early.steady.trans (a.readersTake_frame k o failed).steady
  · exact (a.readersTake_settles k o failed).idsSound
      ((s.stopBlocks_settles k (earlyPhase o) o.detectorFirst).idsSound h.ids)
  · exact (storeView_calmStop k).readersTake o failed (early.stored stored)
  · rw [show (a.readersTake k o failed).det = _ from after.frame.only.1 .det (by decide), crossed.det,
      asking.nextId]
    rfl
  · exact (after.frame.only.1 .mark (by decide)).trans crossed.mark
  · exact ((Retains.of_marks asking.marks).trans crossed.retains).trans after.retains
  · obtain ⟨r, hr, hid, unanchored⟩ := crossed.record
    obtain ⟨x, hx, marked⟩ := after.retains r hr
    exact ⟨x, hx, marked.id.trans (hid.trans asking.nextId), marked.unanchored.trans unanchored⟩
  · exact asking.nextId ▸ after.blank _ (crossed.blank (asking.shut_of_stops stops))
  · have taken : (s.ctl.state == .run) = true := beq_iff_eq.2 h.run
    unfold State.takeStop
    rw [taken]
    rfl

end Sys2Proof.Machine
end


section
/-! The other moments of the mark line, the anchor request, and a crossing within a stop (O36). -/

namespace Sys2Proof.Machine

variable {s u v : State} {k : Stop} {o : StopOrder} {failed : Option (Fin 9)} {e : Refresh}
  {rest : List Refresh} {conds : Vector Cond 3} {tn : Ms}

/-! The anchor request (R90). -/

theorem State.mem_candidates {j : Fin 4} : j ∈ s.candidates tn ↔
    ∃ c, s.corr.slots[j] = some c ∧ s.isCandidate tn c = true := by
  unfold State.candidates
  rw [List.mem_filter]
  cases s.corr.slots[j] <;> simp

/-- The candidate with the latest edge is found. -/
theorem State.latestOf_eq_some {l : List (Fin 4)} {i : Fin 4} (hi : i ∈ l)
    (latest : ∀ j ∈ l, j ≠ i → isBefore (s.edgeOf j) (s.edgeOf i) = true ∧
      isBefore (s.edgeOf i) (s.edgeOf j) = false) : s.latestOf l = some i := by
  induction l with
  | nil => exact nomatch hi
  | cons j rest ih =>
    rw [State.latestOf]
    by_cases own : j = i
    · subst own
      cases found : s.latestOf rest with
      | none => rfl
      | some x =>
        dsimp only
        by_cases same : x = j
        · rw [same, ite_self]
        · rw [(latest x (List.mem_cons_of_mem _ (s.latestOf_mem found)) same).2, if_neg (by simp)]
    · have later := ih ((List.mem_cons.1 hi).resolve_left (Ne.symm own))
        fun x hx => latest x (List.mem_cons_of_mem _ hx)
      rw [later]
      exact if_pos (latest j List.mem_cons_self own).1

theorem State.edgeOf_some {j : Fin 4} {c : Context} (hc : s.corr.slots[j] = some c) :
    s.edgeOf j = c.edge := by
  unfold State.edgeOf
  rw [hc]
  rfl

theorem State.isCandidate_iff {c : Context} : s.isCandidate tn c = true ↔
    c.anchored = false ∧ (c.linked = 0 ∨ s.upgradable c = true) ∧
      (atOrAfter c.edge (tn - BitVec.ofNat 48 s.markJoin) = true ∨
        s.mark.asserted = true ∧ s.mark.lastEdge = some c.edge) := by
  unfold State.isCandidate
  simp only [Bool.and_eq_true, Bool.or_eq_true, Bool.not_eq_true', beq_iff_eq, and_assoc, msOf]

theorem State.anchorAnswer_of_run (run : s.mark.view = .run) (normal : s.mark.stuck = false) :
    s.anchorAnswer tn = (s.latestOf (s.candidates tn)).elim (if s.mark.asserted then .none else .pulse)
      AnchorAnswer.context := by
  unfold State.anchorAnswer
  rw [if_neg (by simp [run]), if_neg (by simp [normal])]
  cases s.latestOf (s.candidates tn) <;> rfl

/-- The table of R90. -/
theorem anchorAnswer_table (s : State) (tn : Ms) :
    let candidate (c : Context) : Prop :=
      c.anchored = false ∧ (c.linked = 0 ∨ s.upgradable c = true) ∧
      (atOrAfter c.edge (tn - BitVec.ofNat 48 s.markJoin) = true ∨
        s.mark.asserted = true ∧ s.mark.lastEdge = some c.edge)
    ((s.mark.view ≠ .run ∨ s.mark.stuck = true) → s.anchorAnswer tn = .none) ∧
    (s.mark.view = .run → s.mark.stuck = false →
      (∀ (k : Fin 4) (c : Context), s.corr.slots[k] = some c → candidate c →
        (∀ (j : Fin 4) (d : Context), j ≠ k → s.corr.slots[j] = some d → candidate d →
          isBefore d.edge c.edge = true ∧ isBefore c.edge d.edge = false) →
        s.anchorAnswer tn = .context k) ∧
      ((∀ (k : Fin 4) (c : Context), s.corr.slots[k] = some c → ¬candidate c) →
        s.anchorAnswer tn = if s.mark.asserted then .none else .pulse)) := by
  refine ⟨fun no => ?_, fun run normal => ⟨fun k c hc candidate latest => ?_, fun nobody => ?_⟩⟩
  · rcases no with stopped | stuck
    · exact if_pos stopped
    · exact (congrArg (fun a => if s.mark.view ≠ .run then AnchorAnswer.none else a) (if_pos stuck)).trans
        (ite_self _)
  · have found : s.latestOf (s.candidates tn) = some k := by
      refine State.latestOf_eq_some (State.mem_candidates.2 ⟨c, hc, State.isCandidate_iff.2 candidate⟩)
        fun j hj other => ?_
      obtain ⟨d, hd, candidate'⟩ := State.mem_candidates.1 hj
      rw [State.edgeOf_some hc, State.edgeOf_some hd]
      exact latest j d other hd (State.isCandidate_iff.1 candidate')
    rw [State.anchorAnswer_of_run run normal, found]
    rfl
  · have empty : s.candidates tn = [] := List.eq_nil_iff_forall_not_mem.2 fun j hj => by
      obtain ⟨c, hc, candidate⟩ := State.mem_candidates.1 hj
      exact nobody j c hc (State.isCandidate_iff.1 candidate)
    rw [State.anchorAnswer_of_run run normal, empty]
    rfl

/-! Expiries. -/

theorem State.due_of_reached {x : Option Ms} {y : Ms} (held : x = some y) (reached : s.reached y = true) :
    s.due x = true := by
  rw [held]
  exact reached

/-! The crossing within a stop. -/

theorem Stop.ofMark_fields (k : Stop) (now : Ms) (x : MarkLine) : (k.ofMark now x).drive = false ∧
    (k.ofMark now x).pulseEnd = none ∧ (k.ofMark now x).lastEdge = x.lastEdge := by
  cases k <;> exact ⟨rfl, rfl, rfl⟩

/-- The mark line after the stop: the own pulse is cut short, and its edge stays (R97). -/
theorem stopped_mark (asking : Asking s k o u) (mark : v.mark = (u.afterAnchor tn).mark)
    (steady : Steady s v) (detectorFirst : Bool) :
    let x := (v.stopBlocks k (earlyPhase o).others detectorFirst).mark
    x.drive = false ∧ x.pulseEnd = none ∧ (o.markEarly = true → x.lastEdge = s.mark.lastEdge) ∧
    (o.markEarly = false → o.corrEarly = false → s.anchorAnswer tn = .pulse → x.lastEdge = some s.now) := by
  have late : (earlyPhase o).others.mark = !o.markEarly := rfl
  have line := u.afterAnchor_mark tn
  have own := asking.mark
  rw [State.stopBlocks_mark, late, mark, State.now_of_steady steady, line]
  cases isEarly : o.markEarly with
  | true =>
    rw [isEarly, if_pos rfl] at own
    obtain ⟨drive, pulse, edge⟩ := k.ofMark_fields s.now s.mark
    rw [asking.answer_of_markEarly isEarly, Bool.not_true, if_neg (by simp), if_neg (by simp), own]
    exact ⟨drive, pulse, fun _ => edge, fun early => absurd early (by simp)⟩
  | false =>
    rw [Bool.not_false, if_pos rfl]
    obtain ⟨drive, pulse, edge⟩ := k.ofMark_fields s.now
      (if u.anchorAnswer tn = .pulse then u.drivePulse.mark.falling u.now else u.mark)
    refine ⟨drive, pulse, fun early => absurd early (by simp), fun _ corr answer => edge.trans ?_⟩
    rw [(asking.answer isEarly corr).1, if_pos answer, State.now_of_steady asking.steady]
    rfl

/-- The record of the crossing, finished ABORTED (R63). -/
theorem stopped_record {y : State} {m : Measurement} (h : Crosses s o e rest conds)
    (made : Made s k o e rest conds y m v) (detectorFirst : Bool)
    (ids : (v.stopBlocks k (earlyPhase o).others detectorFirst).ledger.IdsSound) :
    ∃ r ∈ (v.stopBlocks k (earlyPhase o).others detectorFirst).store.queue, r.id = s.store.nextId ∧
      r.flags.aborted = true ∧ r.cls = m.cls ∧ r.halfCycles = m.halves ∧
      r.durationMs = saturate32 (s.now - m.time).toNat ∧
      r.flags.unanchored = (y.anchorOf e.stamp).isNone ∧
      (o.corrEarly = true ∨ o.corrWithin = true → r.verdict = none ∧ r.locus = none ∧ r.peers = []) := by
  have unique := State.idsUnique_of_sound ids
  obtain ⟨expiry, det⟩ := made.det
  obtain ⟨r, hr, hid, unanchored⟩ := made.record
  have held : (Taken.after ⟨false, false, false, false⟩ (earlyPhase o)).det = false := by
    simp [Taken.after, earlyPhase, h.late]
  have recorded : s.store.nextId ≠ 0 := Nat.ne_of_gt h.ids.one
  obtain ⟨x, hx, same, finished⟩ := (finishes_run (congrArg Detector.mode det) recorded).late (o := o)
    made.ids made.stored ⟨r, hr, hid, fun taken => absurd (held.symm.trans taken) (by simp)⟩ detectorFirst
  obtain ⟨aborted, cls, halves, ms⟩ := finished rfl
  obtain ⟨x', hx', marked⟩ := (retains_run v).late (o := o) made.ids made.stored (.refl v) detectorFirst r hr
  obtain rfl := unique.eq hx' hx (marked.id.trans (hid.trans same.symm))
  rw [State.now_of_steady made.steady] at ms
  refine ⟨x', hx, same, aborted, cls, halves, ms, marked.unanchored.trans unanchored, fun stops => ?_⟩
  obtain ⟨-, z, hz, zid, blank⟩ := (blank_run s.store.nextId).late (o := o) made.ids made.stored
    (made.blank stops) detectorFirst
  obtain rfl := unique.eq hz hx (zid.trans same.symm)
  exact blank

/-- Settles O36: the moments as they are served, the table of R90, and a crossing along a stop. -/
theorem markLineTimesAndAnchors : Obligations.MarkLineTimesAndAnchors := by
  unfold Obligations.MarkLineTimesAndAnchors
  refine ⟨fun t s asserted drive => ?_, fun t s x pulse reached => ?_, fun t s x asserted expiry reached => ?_,
    fun t s x asserted stuck expiry reached => ?_, fun s tn => ?_, fun t low s served => ?_, ?_⟩
  · exact congrArg Host.Outcome.next (if_pos (by simp [asserted, drive]))
  · exact congrArg Host.Outcome.next (if_pos (State.due_of_reached pulse reached))
  · have served : exec (.stuckExpiry t) s = .next
        (((s.elapse t).withMark { s.mark with stuckExpiry := none, stuck := true }).raise .markStuck 0) :=
      congrArg Host.Outcome.next (if_pos (by
        rw [Bool.and_eq_true]
        exact ⟨asserted, State.due_of_reached expiry reached⟩))
    refine ⟨_, served, (commandsKeepWhatIsNotTheirs _ _ _ served).1, State.raise_mark _ _ _, ?_⟩
    exact State.raise_causes _ .markStuck 0 6
  · exact congrArg Host.Outcome.next (if_pos (by
      rw [Bool.and_eq_true, Bool.and_eq_true]
      exact ⟨⟨stuck, by simp [asserted]⟩, State.due_of_reached expiry reached⟩))
  · exact anchorAnswer_table s tn
  · refine ⟨(s.elapse t).order.tableFirst, (s.elapse t).order, (s.elapse t).order.checkFails,
      (s.elapse t).takeRestart low, congrArg Host.Outcome.next (if_pos served), ?_⟩
    exact ⟨rfl, rfl, rfl, rfl⟩
  · intro k o failed e rest s conds run views handed tracker judged watch out room fresh order capacity one
      takes late
    have ids := State.idsSound_of order capacity
    have h : Crosses s o e rest conds := ⟨run, handed, tracker, judged, watch, out, decide_eq_true room, fresh,
      ids, takes, late⟩
    obtain ⟨y, m, v, asking, made, time, halves, cls, stop⟩ := takeStop_crossing (k := k) (failed := failed) h
    have settles := s.takeStop_settles k o failed (act := id) Settles.refl
    have ended : (s.takeStop k o failed id).det.mode = .watch := State.takeStop_watch _ _ _ _ fun _ => rfl
    have shut := State.takeStop_shut s k o failed (act := id) fun _ h => h
    have still := ((Rest.takeStop (k := k) (State.fillings_le_one.1 one) o failed (act := id)
      fun _ h => h).rests .cap (by simp [stopping])).2 k.view_ne_run
    have closed {r : Record} (hr : r ∈ (s.takeStop k o failed id).store.queue) (new : r.id = s.store.nextId) :=
      newRecordShut settles ids ended shut.2 still hr new
    have sound := settles.idsSound ids
    rw [stop] at ended closed sound ⊢
    obtain ⟨drive, pulse, kept, own⟩ := stopped_mark asking made.mark made.steady o.detectorFirst
    obtain ⟨r, hr, hid, aborted, rcls, rhalves, ms, unanchored, blank⟩ :=
      stopped_record h made o.detectorFirst sound
    obtain ⟨isOpen, running, anchorOpen⟩ := closed hr hid
    obtain ⟨expiry, det⟩ := made.det
    refine ⟨fun _ x hx => ?_, ended, ?_, drive, pulse, kept, own, r, hr, hid, isOpen, running, anchorOpen,
      aborted, rhalves.trans halves, ?_, rcls.trans cls, blank, fun early => ?_, fun mark corr => ?_⟩
    · obtain ⟨x', hx', marked⟩ := (made.retains.trans ((retains_run v).late (o := o) made.ids made.stored
        (.refl v) o.detectorFirst)) x hx
      exact ⟨x', hx', marked.id, marked.upgraded⟩
    · show (v.stopBlocks k (earlyPhase o).others o.detectorFirst).det.handed = rest
      have last : (earlyPhase o).others.det = true := by simp [earlyPhase, StopPhase.others, late]
      rw [State.stopBlocks_det, last, if_pos rfl, det]
    · rw [ms, time]
      rfl
    · rw [unanchored, asking.anchorOf_eq_none early]
      rfl
    · rw [unanchored, (asking.answer mark corr).2]

end Sys2Proof.Machine
end
